-- ==== Sys2Proof/Word.lean ====
section
/-! DEFINITION. The two word types of the part: the byte of a frame and the 16-bit word of the Recipe Store, a notice
mask or a detector set. Everything else the manual treats as numbers is a `Nat` or an `Int`. -/

namespace Sys2Proof

/-- A byte of a frame (R191), of a record or of a key (R165). -/
abbrev Byte := BitVec 8

/-- A 16-bit word: a word of the store array (R170), a notice mask (R199), a detector set (R194). -/
abbrev Word16 := BitVec 16

end Sys2Proof
end

