-- ==== Sys2Proof/Machine/Arith.lean ====
section
/-! DEFINITION. The arithmetic of the conventions (00_scope.md, Arithmetic) and the byte orders of frames (R191): little-
endian fields, two's complement for signed ones. -/

namespace Sys2Proof.Machine

/-- "round": the sign of the numerator times the floor of (its magnitude plus half the denominator) over the denominator. -/
def roundDiv (n : Int) (d : Nat) : Int := n.sign * (((2 * n.natAbs + d) / (2 * d) : Nat) : Int)

/-- "Clamp into a to b". -/
def clampInt (lo hi x : Int) : Int := if x < lo then lo else if hi < x then hi else x

/-- One byte of a field. -/
def byte (n : Nat) : List Byte := [BitVec.ofNat 8 n]

/-- A two-byte field, little-endian. -/
def le16 (n : Nat) : List Byte := [BitVec.ofNat 8 n, BitVec.ofNat 8 (n / 256)]

/-- A three-byte field, little-endian. -/
def le24 (n : Nat) : List Byte := [BitVec.ofNat 8 n, BitVec.ofNat 8 (n / 256), BitVec.ofNat 8 (n / 65536)]

/-- A four-byte field, little-endian. -/
def le32 (n : Nat) : List Byte :=
  [BitVec.ofNat 8 n, BitVec.ofNat 8 (n / 256), BitVec.ofNat 8 (n / 65536), BitVec.ofNat 8 (n / 16777216)]

/-- The two's complement of `i` in a field of `2 ^ bits` values. -/
def twos (bits : Nat) (i : Int) : Nat := (i % ((2 ^ bits : Nat) : Int)).toNat

/-- A signed byte. -/
def sbyte (i : Int) : List Byte := byte (twos 8 i)

/-- A signed two-byte field. -/
def sle16 (i : Int) : List Byte := le16 (twos 16 i)

/-- A signed three-byte weight: 8,388,607 for a value above it (R203). -/
def sle24 (i : Int) : List Byte := le24 (twos 24 (if 8388607 < i then 8388607 else i))

/-- A signed four-byte field. -/
def sle32 (i : Int) : List Byte := le32 (twos 32 i)

/-- The number a two-byte field carries. -/
def num16 (b0 b1 : Byte) : Nat := b0.toNat + 256 * b1.toNat

/-- The number a four-byte field carries. -/
def num32 (b0 b1 b2 b3 : Byte) : Nat := b0.toNat + 256 * b1.toNat + 65536 * b2.toNat + 16777216 * b3.toNat

/-- The number that a signed field of `2 ^ bits` values carries. -/
def signed (bits n : Nat) : Int := if n < 2 ^ (bits - 1) then (n : Int) else (n : Int) - ((2 ^ bits : Nat) : Int)

/-- One bit of a flag byte. -/
def bit (k : Nat) (b : Bool) : Nat := if b then 2 ^ k else 0

/-- A sum of bytes, mod 256 (R191). -/
def byteSum : List Byte → Byte
  | [] => 0
  | b :: bs => b + byteSum bs

/-- A sum of words, mod 65,536 (R171, R172). -/
def wordSum : List Word16 → Word16
  | [] => 0
  | w :: ws => w + wordSum ws

end Sys2Proof.Machine
end

