-- ==== Sys2Proof/Syntax.lean ====
section
/-! DEFINITION. The commands of the part: one constructor of `Instr` for each row of spec/opcode_table.json.

Every command but RESET begins with `dt`, the microseconds that passed since the command before it (log entry 1). A
request carries the port it comes in on and the tag of its frame (R191), and then the fields of its body (R194) as
numbers. -/

namespace Sys2Proof

/-- The two ports (chapter 9). -/
inductive Port where
  | panel
  | link
  deriving DecidableEq, Repr

/-- A step record as received: the fields of the step record table of R195, each the number its byte or bytes carry,
before Plan Memory reads it by the coding (R196). -/
structure RawStep where
  kind       : Nat
  exitSet    : Nat
  heatMode   : Nat
  heatValue  : Nat
  ramp       : Nat
  boil       : Nat
  speed      : Nat
  direction  : Nat
  pattern    : Nat
  onTime     : Nat
  offTime    : Nat
  duration   : Nat
  timerStart : Nat
  prompt     : Nat
  target     : Nat
  tag        : Nat
  deriving DecidableEq, Repr

/-- The 32 requests with their body fields (R194): what a sound request frame says, apart from its tag. -/
inductive Request where
  | readStatus
  | takeNotice
  | setNoticeMask (mask : Word16)
  | readPlanHeader
  | readStep (idx : Nat)
  | insertStep (rev idx : Nat) (raw : RawStep)
  | replaceStep (rev idx : Nat) (raw : RawStep)
  | removeStep (rev idx : Nat)
  | clearPlan (rev : Nat)
  | setPlanId (rev planId : Nat)
  | startRun (rev idx : Nat)
  | pause
  | resume
  | abort
  | skipStep (idx : Nat)
  | confirm (idx : Nat)
  | clearTrip
  | readRunLog (pos : Nat)
  | tarePush
  | tarePop
  | tareClear
  | restartScale
  | calZero (calId : Nat) (drift offB offC : Int)
  | calSpan (known calId : Nat)
  | readCal
  | permit (key : Byte)
  | clearLatched (set : Word16)
  | libSave (slot : Nat)
  | libLoad (slot : Nat)
  | libErase (slot : Nat)
  | libInfo
  | libWriteCal
  deriving DecidableEq, Repr

/-- The commands, one constructor a row of spec/opcode_table.json, in the table's order. -/
inductive Instr where
  /-- RESET (R24): power-on, or RESET_N held low. -/
  | reset
  /-- READ_STATUS (R197). -/
  | readStatus (dt : Nat) (p : Port) (tag : Byte)
  /-- TAKE_NOTICE (R203). -/
  | takeNotice (dt : Nat) (p : Port) (tag : Byte)
  /-- SET_NOTICE_MASK (R201). -/
  | setNoticeMask (dt : Nat) (p : Port) (tag : Byte) (mask : Word16)
  /-- READ_PLAN_HEADER (R13). -/
  | readPlanHeader (dt : Nat) (p : Port) (tag : Byte)
  /-- READ_STEP (R14). -/
  | readStep (dt : Nat) (p : Port) (tag : Byte) (idx : Nat)
  /-- INSERT_STEP (R15). -/
  | insertStep (dt : Nat) (p : Port) (tag : Byte) (rev idx : Nat) (raw : RawStep)
  /-- REPLACE_STEP (R16). -/
  | replaceStep (dt : Nat) (p : Port) (tag : Byte) (rev idx : Nat) (raw : RawStep)
  /-- REMOVE_STEP (R18). -/
  | removeStep (dt : Nat) (p : Port) (tag : Byte) (rev idx : Nat)
  /-- CLEAR_PLAN (R19). -/
  | clearPlan (dt : Nat) (p : Port) (tag : Byte) (rev : Nat)
  /-- SET_PLAN_ID (R20). -/
  | setPlanId (dt : Nat) (p : Port) (tag : Byte) (rev planId : Nat)
  /-- START_RUN (R50). -/
  | startRun (dt : Nat) (p : Port) (tag : Byte) (rev idx : Nat)
  /-- PAUSE (R44). -/
  | pause (dt : Nat) (p : Port) (tag : Byte)
  /-- RESUME (R47). -/
  | resume (dt : Nat) (p : Port) (tag : Byte)
  /-- ABORT (R49). -/
  | abort (dt : Nat) (p : Port) (tag : Byte)
  /-- SKIP_STEP (R48). -/
  | skipStep (dt : Nat) (p : Port) (tag : Byte) (idx : Nat)
  /-- CONFIRM (R38). -/
  | confirm (dt : Nat) (p : Port) (tag : Byte) (idx : Nat)
  /-- CLEAR_TRIP (R53). -/
  | clearTrip (dt : Nat) (p : Port) (tag : Byte)
  /-- READ_RUN_LOG (R60). -/
  | readRunLog (dt : Nat) (p : Port) (tag : Byte) (pos : Nat)
  /-- TARE_PUSH (R90). -/
  | tarePush (dt : Nat) (p : Port) (tag : Byte)
  /-- TARE_POP (R93). -/
  | tarePop (dt : Nat) (p : Port) (tag : Byte)
  /-- TARE_CLEAR (R94). -/
  | tareClear (dt : Nat) (p : Port) (tag : Byte)
  /-- RESTART_SCALE (R88). -/
  | restartScale (dt : Nat) (p : Port) (tag : Byte)
  /-- CAL_ZERO (R100): cal id, drift D, probe offsets offB and offC. -/
  | calZero (dt : Nat) (p : Port) (tag : Byte) (calId : Nat) (drift offB offC : Int)
  /-- CAL_SPAN (R100): known weight k10 and cal id. -/
  | calSpan (dt : Nat) (p : Port) (tag : Byte) (known calId : Nat)
  /-- READ_CAL (R104). -/
  | readCal (dt : Nat) (p : Port) (tag : Byte)
  /-- PERMIT (R165, R166). -/
  | permit (dt : Nat) (p : Port) (tag : Byte) (key : Byte)
  /-- CLEAR_LATCHED (R152). -/
  | clearLatched (dt : Nat) (p : Port) (tag : Byte) (set : Word16)
  /-- LIB_SAVE (R177). -/
  | libSave (dt : Nat) (p : Port) (tag : Byte) (slot : Nat)
  /-- LIB_LOAD (R180). -/
  | libLoad (dt : Nat) (p : Port) (tag : Byte) (slot : Nat)
  /-- LIB_ERASE (R182). -/
  | libErase (dt : Nat) (p : Port) (tag : Byte) (slot : Nat)
  /-- LIB_INFO (R184). -/
  | libInfo (dt : Nat) (p : Port) (tag : Byte)
  /-- LIB_WRITE_CAL (R183). -/
  | libWriteCal (dt : Nat) (p : Port) (tag : Byte)
  /-- PANEL_REQUEST_FRAME (R187): the whole bytes that followed the first byte 0x01 of the select period. -/
  | panelRequestFrame (dt : Nat) (bytes : List Byte)
  /-- PANEL_REPLY_READ (R188): how many whole bytes were clocked after the first byte 0x02 of the select period. -/
  | panelReplyRead (dt : Nat) (clocked : Nat)
  /-- LINK_FRAME_COMPLETE (R189): the bytes that arrive on LRXD up to a frame's check byte, the check byte last. -/
  | linkFrameComplete (dt : Nat) (bytes : List Byte)
  /-- LINK_BYTE_GAP_TIMEOUT (R189). -/
  | linkByteGapTimeout (dt : Nat)
  /-- LINK_STOP_BIT_MISSING (R189). -/
  | linkStopBitMissing (dt : Nat)
  /-- LINK_REPLY_SENT (R190). -/
  | linkReplySent (dt : Nat)
  /-- TIME_BASE_TICK (R31). -/
  | timeBaseTick (dt : Nat)
  /-- SETTLE_DEADLINE (R39). -/
  | settleDeadline (dt : Nat)
  /-- SENSE_TIMER_EXPIRY (R63). -/
  | senseTimerExpiry (dt : Nat)
  /-- SENSE_CONVERSION_END (R65): the 12-bit code the conversion yields (R72). -/
  | senseConversionEnd (dt : Nat) (code : Nat)
  /-- FREE_TRIGGER (R66). -/
  | freeTrigger (dt : Nat)
  /-- WEIGH_GROUP_END (R62): what the four bridges' inputs convert to, before the clipping of R68. -/
  | weighGroupEnd (dt : Nat) (c0 c1 c2 c3 : Int)
  /-- TARE_DEADLINE (R91). -/
  | tareDeadline (dt : Nat)
  /-- CAPTURE_DEADLINE (R101). -/
  | captureDeadline (dt : Nat)
  /-- TACH_EDGE (R132). -/
  | tachEdge (dt : Nat)
  /-- NO_EDGE_TIMEOUT (R134). -/
  | noEdgeTimeout (dt : Nat)
  /-- CONTROL_UPDATE (R139). -/
  | controlUpdate (dt : Nat)
  /-- LID_SAMPLE (R147): the levels of LIDSW (true: open) and LOCK_FB (true: locked). -/
  | lidSample (dt : Nat) (lidIsOpen fbLocked : Bool)
  /-- PLATEAU_TIMER (R123, R124). -/
  | plateauTimer (dt : Nat)
  /-- FRAME_END (R116). -/
  | frameEnd (dt : Nat)
  /-- SLOT_BOUNDARY (R119). -/
  | slotBoundary (dt : Nat)
  /-- RAMP_RISE (R111). -/
  | rampRise (dt : Nat)
  /-- PERMIT_EXPIRY (R167). -/
  | permitExpiry (dt : Nat)
  /-- PERMIT_DUE_TIMER (R169). -/
  | permitDueTimer (dt : Nat)
  /-- UPTIME_TICK (R199). -/
  | uptimeTick (dt : Nat)
  /-- SCAN_END (R176). -/
  | scanEnd (dt : Nat)
  /-- WORD_WRITE_END (R173): what the word reads back as after the first write and after the retry. -/
  | wordWriteEnd (dt : Nat) (first second : Word16)
  /-- LOAD_READ_END (R181). -/
  | loadReadEnd (dt : Nat)
  /-- LINK_BYTE_RECEIVED (R189). -/
  | linkByteReceived (dt : Nat) (b : Byte)
  deriving DecidableEq, Repr

end Sys2Proof
end

