-- ==== Sys2Proof/Machine/State.lean ====
section
/-! DEFINITION. Everything the spec gives the part to hold, block by block as the block diagram of 00_scope.md names them,
and `State.reset`. A time is the number of microseconds since reset; a timer is held as the time at which it next
expires, or at which it was started (log entry 1). -/

namespace Sys2Proof.Machine

/-! ### Plans and step records (chapter 1) -/

/-- The kind of a step (R4). -/
inductive Kind where
  | cook
  | dose
  | prompt
  deriving DecidableEq, Repr

/-- The heat mode of a step and of the Heat Unit (R4, R106). -/
inductive HeatMode where
  | off
  | temp
  | power
  deriving DecidableEq, Repr

/-- The boil action of a step (R4): NONE, HOLD, END. -/
inductive BoilAction where
  | ignore
  | hold
  | endStep
  deriving DecidableEq, Repr

/-- A stirrer direction (R4, R128). -/
inductive Direction where
  | forward
  | reverse
  deriving DecidableEq, Repr

/-- A stirring pattern (R4, R136). -/
inductive Pattern where
  | continuous
  | interval
  | knead
  deriving DecidableEq, Repr

/-- When a step's counted time starts (R4). -/
inductive TimerStart where
  | atEntry
  | atTarget
  deriving DecidableEq, Repr

/-- The exit set of a step: which of the five end events it enables (R4). -/
structure ExitSet where
  timer   : Bool
  temp    : Bool
  boil    : Bool
  weight  : Bool
  confirm : Bool
  deriving DecidableEq, Repr

/-- A step record (R4); a field that may be absent is an `Option`. -/
structure StepRecord where
  kind      : Kind
  exits     : ExitSet
  heatMode  : HeatMode
  heatValue : Nat
  ramp      : Option Nat
  boil      : BoilAction
  speed     : Nat
  direction : Direction
  pattern   : Pattern
  onTime    : Nat
  offTime   : Nat
  duration  : Option Nat
  start     : TimerStart
  prompt    : Nat
  target    : Option Nat
  tag       : Nat
  deriving DecidableEq, Repr

/-- Where the working plan last came from (R2). -/
inductive Origin where
  | panel
  | link
  | store
  deriving DecidableEq, Repr

/-- Plan Memory (R1, R2). The header's step count is the length of `steps`. -/
structure Plan where
  planId   : Nat
  revision : Nat
  steps    : List StepRecord
  origin   : Origin
  slot     : Option Nat
  deriving DecidableEq, Repr

/-! ### The Step Engine (chapter 2) -/

/-- The five engine states (R24). -/
inductive EngineState where
  | idle
  | running
  | paused
  | tripped
  | ended
  deriving DecidableEq, Repr

/-- How a run ended (R24). -/
inductive EndReason where
  | completed
  | aborted
  deriving DecidableEq, Repr

/-- The phase of the live step (R25). -/
inductive Phase where
  | locking
  | approach
  | dwell
  | settle
  | dosing
  | waitConfirm
  deriving DecidableEq, Repr

/-- How a step ended: one of the five end events, SKIPPED or ABORTED (R35, R58). -/
inductive StepEnd where
  | timer
  | temp
  | boil
  | weight
  | confirm
  | skipped
  | aborted
  deriving DecidableEq, Repr

/-- The pause cause set (R43). -/
structure CauseSet where
  request : Bool
  lid     : Bool
  permit  : Bool
  deriving DecidableEq, Repr

/-- The eleven detectors (R150). -/
inductive Detector where
  | lidOpen
  | lockFault
  | overheat
  | dryPan
  | boil
  | stall
  | probeB
  | probeC
  | overload
  | bowlAbsent
  | supplyLow
  deriving DecidableEq, Repr

/-- A detector set: a 16-bit field with one bit a detector (R194). -/
abbrev DetSet := Word16

/-- The log flags of a step (R25, R58). -/
structure LogFlags where
  refUnsteady : Bool
  fallback    : Bool
  overdose    : Bool
  deriving DecidableEq, Repr

/-- The live step context (R25). -/
structure Live where
  index       : Nat
  kind        : Kind
  phase       : Phase
  returnPhase : Option Phase
  active      : Nat
  pausedFor   : Nat
  settleBy    : Option Nat
  reference   : Option Int
  lastAdded   : Int
  nearPosted  : Bool
  fallenBack  : Bool
  flags       : LogFlags
  peak        : Int
  deriving DecidableEq, Repr

/-- A run log entry (R58). -/
structure LogEntry where
  index     : Nat
  tag       : Nat
  kind      : Kind
  reason    : StepEnd
  active    : Nat
  pausedFor : Nat
  added     : Option Int
  peak      : Int
  flags     : LogFlags
  deriving DecidableEq, Repr

/-- The Step Engine (R24, R25, R31, R43, R51, R59). -/
structure Engine where
  state     : EngineState
  live      : Option Live
  causes    : CauseSet
  trips     : DetSet
  firstTrip : Option Detector
  endReason : Option EndReason
  runClock  : Nat
  log       : List LogEntry
  timeBase  : Nat
  deriving DecidableEq, Repr

/-! ### The Sensor Converter (chapter 3) -/

/-- The four sense inputs (R62). -/
inductive Channel where
  | tb
  | tc
  | im
  | vs
  deriving DecidableEq, Repr

/-- The converter state (R61). A weigh group is held with the time it began, from which its stage follows (R62). -/
inductive ConvState where
  | idle
  | sense (ch : Channel)
  | weigh (began : Nat)
  deriving DecidableEq, Repr

/-- The trigger mode (R66). -/
inductive TriggerMode where
  | tach
  | free
  deriving DecidableEq, Repr

/-- The result of comparing a value with a limit pair (R76). -/
inductive Band where
  | above
  | inside
  | below
  deriving DecidableEq, Repr

/-- The Sensor Converter (R61). `tcOffset` is the plate offset that the TC10 held was formed with, which a zero capture
reads (R102; log entry 30 for its reset value). -/
structure Converter where
  state        : ConvState
  scanPos      : Option Channel
  scanDue      : Bool
  weighWaiting : Bool
  exc          : Bool
  weighDiscard : Bool
  senseDiscard : Bool
  mode         : TriggerMode
  edges        : Nat
  freeTimer    : Option Nat
  senseTimer   : Nat
  nextSeq      : Nat
  tb           : Int
  tc           : Int
  tcOffset     : Int
  tbHeld       : Bool
  tcHeld       : Bool
  im           : Nat
  vs           : Nat
  imSeen       : Bool
  vsSeen       : Bool
  tbHist       : List Bool
  tcHist       : List Bool
  deriving DecidableEq, Repr

/-- A weigh sample (R68). -/
structure Sample where
  c0        : Int
  c1        : Int
  c2        : Int
  c3        : Int
  seq       : Nat
  motion    : Bool
  overrange : Bool
  deriving DecidableEq, Repr

/-! ### The Scale Unit (chapter 4) -/

/-- A calibration: the working one (R97), a stored one (R172) or a copy (R183). -/
structure Calibration where
  zero   : Int
  span   : Nat
  drift  : Int
  tcal   : Int
  offB   : Int
  offC   : Int
  calId  : Nat
  deriving DecidableEq, Repr

/-- The scale status (R80). -/
inductive ScaleStatus where
  | ready
  | restarting
  | uncalibrated
  deriving DecidableEq, Repr

/-- An entry of the gross window (R83). -/
structure GrossEntry where
  gross     : Int
  motion    : Bool
  overrange : Bool
  deriving DecidableEq, Repr

/-- A TARE_PUSH that waits (R90). -/
structure PendingTare where
  port     : Port
  deadline : Nat
  deriving DecidableEq, Repr

/-- The body of a capture (R100). -/
inductive CaptureBody where
  | zero (calId : Nat) (drift offB offC : Int)
  | span (known calId : Nat)
  deriving DecidableEq, Repr

/-- A CAL_ZERO or CAL_SPAN that waits (R100, R101). -/
structure PendingCapture where
  body     : CaptureBody
  sum      : Int
  count    : Nat
  deadline : Nat
  deriving DecidableEq, Repr

/-- The Scale Unit (R79). `tare` has the top of the stack first. -/
structure Scale where
  cal            : Calibration
  window         : List GrossEntry
  gross          : Int
  tare           : List Int
  net            : Int
  stable         : Bool
  status         : ScaleStatus
  lastSeq        : Option Nat
  pendingTare    : Option PendingTare
  pendingCapture : Option PendingCapture
  deriving DecidableEq, Repr

/-! ### The Heat Unit (chapter 5) -/

/-- The side a TEMP step began on (R121). -/
inductive HeatDir where
  | rising
  | falling
  deriving DecidableEq, Repr

/-- The ramp countdown (R106, R111): running with its expiry time, or frozen with the time it has left. -/
inductive Countdown where
  | stopped
  | running (expiry : Nat)
  | frozen (left : Nat)
  deriving DecidableEq, Repr

/-- The integral step of a pending record, with the e10, u and cap2 of the loop run that formed it (R106, R117). -/
inductive IntegralStep where
  | none
  | due (e10 u cap2 : Int)
  | spent (e10 u cap2 : Int)
  deriving DecidableEq, Repr

/-- The pending record (R106): a power pair and its integral step. -/
structure PowerRecord where
  n    : Nat
  w    : Nat
  step : IntegralStep
  deriving DecidableEq, Repr

/-- The Heat Unit (R106). `gate` is the level of COIL_GATE (R119). -/
structure Heat where
  mode         : HeatMode
  target       : Option Int
  power        : Option Nat
  ramp         : Option Nat
  sp           : Option Int
  countdown    : Countdown
  dir          : Option HeatDir
  reached      : Bool
  integral     : Int
  next         : PowerRecord
  frameN       : Nat
  frameW       : Nat
  slot         : Nat
  supplyLow    : Bool
  boilHold     : Bool
  tb           : Int
  tbHeld       : Bool
  ring         : List Int
  plateauTimer : Nat
  gate         : Bool
  deriving DecidableEq, Repr

/-! ### The Stir Unit (chapter 6) -/

/-- The cap that governs a lowered setpoint (R140, R141). -/
inductive SpeedCap where
  | hot
  | overload
  | dose
  deriving DecidableEq, Repr

/-- The Stir Unit (R128). `seg` and `elapsed` are the pattern position. -/
structure Stir where
  speed        : Nat
  dir          : Direction
  pattern      : Pattern
  onTime       : Nat
  offTime      : Nat
  seg          : Nat
  elapsed      : Nat
  wait         : Bool
  drive        : Direction
  applied      : Nat
  ramped       : Nat
  integral     : Int
  duty         : Nat
  capped       : Bool
  tb           : Int
  overload     : Bool
  im           : Option (Nat × Band)
  lastEdge     : Option Nat
  ring         : List Nat
  noEdge       : Option Nat
  measured     : Nat
  stopped      : Bool
  shortfall    : Bool
  controlTimer : Nat
  deriving DecidableEq, Repr

/-! ### Lid, Protection and Trips (chapter 7) -/

/-- The demand on the lid lock, the level of LOCK_OUT (R146). -/
inductive LockDemand where
  | locked
  | unlocked
  deriving DecidableEq, Repr

/-- The Lid Controller (R146). `switch` is true for open, `feedback` true for locked. -/
structure Lid where
  demand      : LockDemand
  demandAt    : Nat
  wish        : Bool
  lidOpen     : Bool
  stopped     : Bool
  switch      : Option Bool
  feedback    : Option Bool
  sampleTimer : Nat
  deriving DecidableEq, Repr

/-- What a detector holds (R150). -/
structure DetState where
  asserted   : Bool
  latched    : Bool
  setCount   : Nat
  clearCount : Nat
  deriving DecidableEq, Repr

/-- The Condition Monitor (R150). STALL's set count is its shortfall count and `stallCurrent` its current count
(R158). -/
structure Monitor where
  lidOpen      : DetState
  lockFault    : DetState
  overheat     : DetState
  dryPan       : DetState
  boil         : DetState
  stall        : DetState
  probeB       : DetState
  probeC       : DetState
  overload     : DetState
  bowlAbsent   : DetState
  supplyLow    : DetState
  stallCurrent : Nat
  deriving DecidableEq, Repr

/-- The permit state (R164). -/
inductive PermitState where
  | unarmed
  | armed
  | lapsed
  deriving DecidableEq, Repr

/-- Why the permit lapsed (R164). -/
inductive LapseReason where
  | early
  | wrongKey
  | expired
  deriving DecidableEq, Repr

/-- The Drive Permit (R164). `renewal` is the time of the last accepted PERMIT, `due` the time PERMIT_DUE comes. -/
structure Permit where
  state   : PermitState
  key     : Byte
  renewal : Option Nat
  first   : Bool
  due     : Option Nat
  lapse   : Option LapseReason
  deriving DecidableEq, Repr

/-! ### The Recipe Store (chapter 8) -/

/-- The store array (R170): (address, word) pairs, addresses rising, no word that reads 0. -/
abbrev Memory := List (Nat × Word16)

/-- A directory entry (R175). WORN follows from `saves`. -/
structure DirEntry where
  valid  : Bool
  planId : Nat
  count  : Nat
  saves  : Nat
  deriving DecidableEq, Repr

/-- What a word write of an operation does to the directory when it ends (R178, R179). -/
inductive WriteRole where
  | counter
  | clearMarker
  | plain
  | setMarker
  deriving DecidableEq, Repr

/-- A word write still to make: one value to one word (R173). -/
structure WordWrite where
  addr  : Nat
  value : Word16
  role  : WriteRole
  deriving DecidableEq, Repr

/-- The operation in flight (R174), with the word writes it still has to make, the one in progress first. -/
inductive StoreOp where
  | idle
  | scan
  | save (slot : Nat) (todo : List WordWrite)
  | load (slot : Nat)
  | erase (slot : Nat) (todo : List WordWrite)
  | writeCal (todo : List WordWrite)
  deriving DecidableEq, Repr

/-- The save buffer: a snapshot of the working plan (R177). -/
structure Snapshot where
  planId   : Nat
  revision : Nat
  origin   : Origin
  steps    : List StepRecord
  deriving DecidableEq, Repr

/-- The Recipe Store (R170, R174, R175, R177, R183) and the start-up flag it clears (R176). -/
structure Store where
  array     : Memory
  directory : List DirEntry
  calValid  : Bool
  op        : StoreOp
  saveBuf   : Option Snapshot
  calCopy   : Option Calibration
  starting  : Bool
  deriving DecidableEq, Repr

/-! ### Ports and notices (chapter 9) -/

/-- The result codes (R194). -/
inductive Result where
  | ok
  | busy
  | starting
  | wrongState
  | stale
  | frozen
  | full
  | range
  | noStep
  | wrongStep
  | wrongPort
  | badKey
  | noPermit
  | causePresent
  | lidOpen
  | noBowl
  | unstable
  | aborted
  | worn
  | emptySlot
  | corrupt
  | writeFault
  | unknownKind
  | length
  | frameCheck
  deriving DecidableEq, Repr

/-- The request state of a port (R186). -/
inductive ReqState where
  | free
  | outstanding
  | replyReady
  deriving DecidableEq, Repr

/-- A reply (R191): kind and tag echoed, result, the two flags, body. -/
structure Reply where
  kind    : Byte
  tag     : Byte
  result  : Result
  overrun : Bool
  clamped : Bool
  body    : List Byte
  deriving DecidableEq, Repr

/-- The kind and tag of the outstanding request, which its reply echoes (R186, R191). -/
structure ReqId where
  kind : Byte
  tag  : Byte
  deriving DecidableEq, Repr

/-- A port (R186). On the Link Port a reply in the slot is being sent (R190). -/
structure PortState where
  state   : ReqState
  buffer  : Option ReqId
  reply   : Option Reply
  overrun : Bool
  deriving DecidableEq, Repr

/-- The Link Port receiver (R189): in RECEIVING, the bytes of the frame so far from its length byte on. -/
inductive LinkRx where
  | hunt
  | receiving (bytes : List Byte)
  deriving DecidableEq, Repr

/-- The store operations that LIBRARY_DONE names (R174, R203). -/
inductive DoneOp where
  | save
  | load
  | erase
  | writeCal
  deriving DecidableEq, Repr

/-- What changed the tare stack (R95). -/
inductive TareCause where
  | push
  | pop
  | clear
  | calibration
  deriving DecidableEq, Repr

/-- A notice with its data, one constructor a kind (R203). -/
inductive Notice where
  | engineState (st : EngineState) (live : Option Nat) (qualifier : Nat)
  | stepBegun (idx : Nat) (kind : Kind) (tag : Nat)
  | stepEnded (idx : Nat) (reason : StepEnd) (tag : Nat)
  | prompt (idx : Nat) (fallen : Bool) (code tag : Nat)
  | tempReached (idx : Option Nat) (tb : Int)
  | doseNear (idx : Nat) (added : Int)
  | doseOver (idx : Nat) (added : Int)
  | speedCapped (idx : Nat) (cap : SpeedCap) (speed applied : Nat)
  | condition (changed realTime : DetSet)
  | trip (trips : DetSet) (first : Detector)
  | planChanged (rev : Nat) (origin : Origin) (count : Nat)
  | permitDue (key : Byte)
  | permitLapsed (reason : LapseReason)
  | libraryDone (op : DoneOp) (slot : Option Nat) (result : Result) (rev : Option Nat)
  | scaleEvent (status : ScaleStatus) (calId : Nat) (seq : Option Nat)
  | tareChanged (depth : Nat) (top : Option Int) (cause : TareCause) (port : Option Port)
  deriving DecidableEq, Repr

/-- A queued notice (R199): its data, the repeat count, the first and the last time. -/
structure NoticeRec where
  data  : Notice
  count : Nat
  first : Nat
  last  : Nat
  deriving DecidableEq, Repr

/-- The Notice Unit (R199). -/
structure Notices where
  panelQ    : List NoticeRec
  linkQ     : List NoticeRec
  panelMask : Word16
  linkMask  : Word16
  uptime    : Nat
  deriving DecidableEq, Repr

/-! ### The whole part -/

/-- The part: its blocks, the time, the counter the free values are read with, and the commands that wait. -/
structure State where
  pending : List Instr
  now     : Nat
  free    : Nat
  plan    : Plan
  engine  : Engine
  conv    : Converter
  scale   : Scale
  heat    : Heat
  stir    : Stir
  lid     : Lid
  mon     : Monitor
  permit  : Permit
  notices : Notices
  store   : Store
  panel   : PortState
  link    : PortState
  rx      : LinkRx
  psdo    : List Byte
  deriving DecidableEq, Repr

/-- Why a command would stop the part. The spec gives every command an effect, so there is no reason and this type has
no constructor: no meaning can raise one. -/
inductive Fault where
  deriving DecidableEq, Repr

/-- Why a command has no meaning. -/
inductive Refusal where
  /-- Raised by an arm of `exec` whose command has no meaning yet, and by nothing else. Safe: the model stops where the
  part goes on. No arm of this model raises it. -/
  | notModelled (mnemonic : String)
  deriving DecidableEq, Repr

/-! ### Reset -/

/-- R1, R2: the empty working plan. -/
def Plan.reset : Plan := { planId := 0, revision := 0, steps := [], origin := .panel, slot := none }

/-- R24, R31: IDLE, nothing live, and a time base that first expires after 0.1 s. -/
def Engine.reset : Engine :=
  { state := .idle, live := none, causes := { request := false, lid := false, permit := false }, trips := 0,
    firstTrip := none, endReason := none, runClock := 0, log := [], timeBase := 100000 }

/-- R61, R66, R71: the converter's reset values. -/
def Converter.reset : Converter :=
  { state := .idle, scanPos := none, scanDue := false, weighWaiting := false, exc := false, weighDiscard := true,
    senseDiscard := true, mode := .free, edges := 0, freeTimer := some 25000, senseTimer := 50000, nextSeq := 0,
    tb := 250, tc := 250, tcOffset := 0, tbHeld := true, tcHeld := true, im := 0, vs := 0, imSeen := false, vsSeen := false,
    tbHist := [true, true, true, true], tcHist := [true, true, true, true] }

/-- R97: the default calibration values. -/
def Calibration.default : Calibration :=
  { zero := 0, span := 0, drift := 0, tcal := 250, offB := 0, offC := 0, calId := 0 }

/-- R79, R80, R97: the Scale Unit's reset values. -/
def Scale.reset : Scale :=
  { cal := Calibration.default, window := [], gross := 0, tare := [], net := 0, stable := false, status := .restarting,
    lastSeq := none, pendingTare := none, pendingCapture := none }

/-- R106: the Heat Unit's reset values; the first frame begins at the reset with slot 0. -/
def Heat.reset : Heat :=
  { mode := .off, target := none, power := none, ramp := none, sp := none, countdown := .stopped, dir := none,
    reached := false, integral := 0, next := { n := 100, w := 0, step := .none }, frameN := 100, frameW := 0, slot := 0,
    supplyLow := false, boilHold := false, tb := 250, tbHeld := true, ring := [], plateauTimer := 1000000, gate := false }

/-- R128: the Stir Unit's reset values. -/
def Stir.reset : Stir :=
  { speed := 0, dir := .forward, pattern := .continuous, onTime := 1, offTime := 1, seg := 0, elapsed := 0, wait := false,
    drive := .forward, applied := 0, ramped := 0, integral := 0, duty := 0, capped := false, tb := 250, overload := false,
    im := none, lastEdge := none, ring := [], noEdge := some 250000, measured := 0, stopped := false, shortfall := false,
    controlTimer := 10000 }

/-- R146: the Lid Controller's reset values; the reset is the last demand change. -/
def Lid.reset : Lid :=
  { demand := .locked, demandAt := 0, wish := false, lidOpen := false, stopped := false, switch := none, feedback := none,
    sampleTimer := 10000 }

/-- R150: a detector after reset. -/
def DetState.reset : DetState := { asserted := false, latched := false, setCount := 0, clearCount := 0 }

/-- R150: every detector CLEAR. -/
def Monitor.reset : Monitor :=
  { lidOpen := DetState.reset, lockFault := DetState.reset, overheat := DetState.reset, dryPan := DetState.reset,
    boil := DetState.reset, stall := DetState.reset, probeB := DetState.reset, probeC := DetState.reset,
    overload := DetState.reset, bowlAbsent := DetState.reset, supplyLow := DetState.reset, stallCurrent := 0 }

/-- R164: the Drive Permit's reset values. -/
def Permit.reset : Permit :=
  { state := .unarmed, key := 0x5A, renewal := none, first := false, due := none, lapse := none }

/-- R199: empty queues, every kind enabled, uptime 0. -/
def Notices.reset : Notices := { panelQ := [], linkQ := [], panelMask := 0xFFFF, linkMask := 0xFFFF, uptime := 0 }

/-- R175: a directory entry from reset to the end of the scan. -/
def DirEntry.reset : DirEntry := { valid := false, planId := 0, count := 0, saves := 0 }

/-- R174, R175, R176: the store after a reset, about an array that the reset keeps (R170): the scan is in flight and the
start-up flag set. -/
def Store.reset (array : Memory) : Store :=
  { array := array, directory := List.replicate 8 DirEntry.reset, calValid := false, op := .scan, saveBuf := none,
    calCopy := none, starting := true }

/-- R186: a port after reset. -/
def PortState.reset : PortState := { state := .free, buffer := none, reply := none, overrun := false }

/-- The part right after reset. The array is nonvolatile and no rule says what it held before the part was first written:
here every word is erased (log entry 4). -/
def State.reset : State :=
  { pending := [], now := 0, free := 0, plan := Plan.reset, engine := Engine.reset, conv := Converter.reset,
    scale := Scale.reset, heat := Heat.reset, stir := Stir.reset, lid := Lid.reset, mon := Monitor.reset,
    permit := Permit.reset, notices := Notices.reset, store := Store.reset [], panel := PortState.reset,
    link := PortState.reset, rx := .hunt, psdo := [] }

/-! ### Updates of one block, with their lemmas in Sys2Proof/Laws/State.lean -/

/-- `s` with the part's time moved on by `dt` microseconds (log entry 1). -/
def State.after (s : State) (dt : Nat) : State := { s with now := s.now + dt }

/-- `s` with the counter of the free values moved on. -/
def State.useFree (s : State) : State := { s with free := s.free + 1 }

/-- `s` with Plan Memory `x`. -/
def State.withPlan (s : State) (x : Plan) : State := { s with plan := x }
/-- `s` with the Step Engine `x`. -/
def State.withEngine (s : State) (x : Engine) : State := { s with engine := x }
/-- `s` with the Sensor Converter `x`. -/
def State.withConv (s : State) (x : Converter) : State := { s with conv := x }
/-- `s` with the Scale Unit `x`. -/
def State.withScale (s : State) (x : Scale) : State := { s with scale := x }
/-- `s` with the Heat Unit `x`. -/
def State.withHeat (s : State) (x : Heat) : State := { s with heat := x }
/-- `s` with the Stir Unit `x`. -/
def State.withStir (s : State) (x : Stir) : State := { s with stir := x }
/-- `s` with the Lid Controller `x`. -/
def State.withLid (s : State) (x : Lid) : State := { s with lid := x }
/-- `s` with the Condition Monitor `x`. -/
def State.withMon (s : State) (x : Monitor) : State := { s with mon := x }
/-- `s` with the Drive Permit `x`. -/
def State.withPermit (s : State) (x : Permit) : State := { s with permit := x }
/-- `s` with the Notice Unit `x`. -/
def State.withNotices (s : State) (x : Notices) : State := { s with notices := x }
/-- `s` with the Recipe Store `x`. -/
def State.withStore (s : State) (x : Store) : State := { s with store := x }
/-- `s` with the Panel Port `x`. -/
def State.withPanel (s : State) (x : PortState) : State := { s with panel := x }
/-- `s` with the Link Port `x`. -/
def State.withLink (s : State) (x : PortState) : State := { s with link := x }
/-- `s` with the Link Port receiver `x`. -/
def State.withRx (s : State) (x : LinkRx) : State := { s with rx := x }
/-- `s` with the bytes shifted out on PSDO `x`. -/
def State.withPsdo (s : State) (x : List Byte) : State := { s with psdo := x }

end Sys2Proof.Machine
end

