-- ==== Sys2Proof/Machine/Operands.lean ====
section
/-! DEFINITION. The step record as an operand: how a received record is read (R195, R196), tested (R5, R6, R7), clamped
(R8) and normalised (R9), and how a stored record is written into bytes again (R195). -/

namespace Sys2Proof.Machine

/-! ### Codes of R195 -/

/-- R195, byte 0. -/
def Kind.ofCode : Nat → Option Kind
  | 0 => some .cook
  | 1 => some .dose
  | 2 => some .prompt
  | _ => none

/-- R195, byte 0. -/
def Kind.code : Kind → Nat
  | .cook => 0
  | .dose => 1
  | .prompt => 2

/-- R195, byte 2. -/
def HeatMode.ofCode : Nat → Option HeatMode
  | 0 => some .off
  | 1 => some .temp
  | 2 => some .power
  | _ => none

/-- R195, byte 2, and R197, byte 38. -/
def HeatMode.code : HeatMode → Nat
  | .off => 0
  | .temp => 1
  | .power => 2

/-- R195, byte 5. -/
def BoilAction.ofCode : Nat → Option BoilAction
  | 0 => some .ignore
  | 1 => some .hold
  | 2 => some .endStep
  | _ => none

/-- R195, byte 5. -/
def BoilAction.code : BoilAction → Nat
  | .ignore => 0
  | .hold => 1
  | .endStep => 2

/-- R195, byte 8. -/
def Direction.ofCode : Nat → Option Direction
  | 0 => some .forward
  | 1 => some .reverse
  | _ => none

/-- R195, byte 8, and R197, byte 47. -/
def Direction.code : Direction → Nat
  | .forward => 0
  | .reverse => 1

/-- R195, byte 9. -/
def Pattern.ofCode : Nat → Option Pattern
  | 0 => some .continuous
  | 1 => some .interval
  | 2 => some .knead
  | _ => none

/-- R195, byte 9. -/
def Pattern.code : Pattern → Nat
  | .continuous => 0
  | .interval => 1
  | .knead => 2

/-- R195, byte 14. -/
def TimerStart.ofCode : Nat → Option TimerStart
  | 0 => some .atEntry
  | 1 => some .atTarget
  | _ => none

/-- R195, byte 14. -/
def TimerStart.code : TimerStart → Nat
  | .atEntry => 0
  | .atTarget => 1

/-- R195, byte 1; a set with any of bits 5 to 7 names a member other than the five end events (R196). -/
def ExitSet.ofCode (n : Nat) : Option ExitSet :=
  if n < 32 then
    some { timer := n.testBit 0, temp := n.testBit 1, boil := n.testBit 2, weight := n.testBit 3, confirm := n.testBit 4 }
  else none

/-- R195, byte 1. -/
def ExitSet.code (e : ExitSet) : Nat :=
  bit 0 e.timer + bit 1 e.temp + bit 2 e.boil + bit 3 e.weight + bit 4 e.confirm

/-- A received 0 in a field that may be absent reads as absent (R4). -/
def absentIfZero (n : Nat) : Option Nat := if n = 0 then none else some n

/-! ### Reading a record -/

/-- R195, R196: a received record read by the coding, or none where a coded field has an unknown value. -/
def readRaw (r : RawStep) : Option StepRecord :=
  match Kind.ofCode r.kind, ExitSet.ofCode r.exitSet, HeatMode.ofCode r.heatMode, BoilAction.ofCode r.boil,
    Direction.ofCode r.direction, Pattern.ofCode r.pattern, TimerStart.ofCode r.timerStart with
  | some kind, some exits, some heatMode, some boil, some direction, some pattern, some start =>
    some { kind := kind, exits := exits, heatMode := heatMode, heatValue := r.heatValue, ramp := absentIfZero r.ramp,
           boil := boil, speed := r.speed, direction := direction, pattern := pattern, onTime := r.onTime,
           offTime := r.offTime, duration := absentIfZero r.duration, start := start, prompt := r.prompt,
           target := absentIfZero r.target, tag := r.tag }
  | _, _, _, _, _, _, _ => none

/-- The twenty bytes of a received record as its fields (R195); any other number of bytes is no record. -/
def rawOfBytes : List Byte → Option RawStep
  | [b0, b1, b2, b3, b4, b5, b6, b7, b8, b9, b10, b11, b12, b13, b14, b15, b16, b17, b18, b19] =>
    some { kind := b0.toNat, exitSet := b1.toNat, heatMode := b2.toNat, heatValue := b3.toNat, ramp := b4.toNat,
           boil := b5.toNat, speed := num16 b6 b7, direction := b8.toNat, pattern := b9.toNat, onTime := b10.toNat,
           offTime := b11.toNat, duration := num16 b12 b13, timerStart := b14.toNat, prompt := b15.toNat,
           target := num16 b16 b17, tag := num16 b18 b19 }
  | _ => none

/-- The twenty bytes of a record given by its fields (R195). -/
def rawBytes (r : RawStep) : List Byte :=
  byte r.kind ++ byte r.exitSet ++ byte r.heatMode ++ byte r.heatValue ++ byte r.ramp ++ byte r.boil ++ le16 r.speed
    ++ byte r.direction ++ byte r.pattern ++ byte r.onTime ++ byte r.offTime ++ le16 r.duration ++ byte r.timerStart
    ++ byte r.prompt ++ le16 r.target ++ le16 r.tag

/-- A stored record as the fields of R195; an absent field is carried as 0 (R4). -/
def StepRecord.raw (r : StepRecord) : RawStep :=
  { kind := r.kind.code, exitSet := r.exits.code, heatMode := r.heatMode.code, heatValue := r.heatValue,
    ramp := r.ramp.getD 0, boil := r.boil.code, speed := r.speed, direction := r.direction.code,
    pattern := r.pattern.code, onTime := r.onTime, offTime := r.offTime, duration := r.duration.getD 0,
    timerStart := r.start.code, prompt := r.prompt, target := r.target.getD 0, tag := r.tag }

/-- The twenty bytes of a stored record (R195). -/
def StepRecord.bytes (r : StepRecord) : List Byte := rawBytes r.raw

/-! ### Testing and storing a record -/

/-- R7: boil action END brings BOIL into the exit set. -/
def StepRecord.complete (r : StepRecord) : StepRecord :=
  if r.boil = .endStep then { r with exits := { r.exits with boil := true } } else r

/-- R5: the exit set fits the kind, and a DOSE record carries a weight target. -/
def StepRecord.exitsFit (r : StepRecord) : Bool :=
  match r.kind with
  | .cook => (r.exits.timer || r.exits.temp || r.exits.boil || r.exits.confirm) && !r.exits.weight
  | .dose => r.exits.weight && !r.exits.temp && !r.exits.boil && r.target.isSome
  | .prompt => r.exits.confirm && !r.exits.temp && !r.exits.boil && !r.exits.weight

/-- R6: every field that another requires is given, and a weight target is at most 5,000 g. -/
def StepRecord.fieldsFit (r : StepRecord) : Bool :=
  (!r.exits.timer || r.duration.isSome)
    && (!r.exits.temp || decide (r.heatMode = .temp))
    && (decide (r.start = .atEntry) || (decide (r.heatMode = .temp) && decide (r.kind = .cook)))
    && (decide (r.boil ≠ .endStep) || decide (r.heatMode ≠ .off))
    && (!r.exits.boil || decide (r.boil = .endStep))
    && (match r.target with
        | some t => decide (t ≤ 5000)
        | none => true)

/-- R5 and R6, made on the record after R7 and before any clamping. -/
def StepRecord.fits (r : StepRecord) : Bool := r.complete.exitsFit && r.complete.fieldsFit

/-- R8: a heat value moved into range. -/
def clampHeat (mode : HeatMode) (v : Nat) : Nat :=
  match mode with
  | .off => v
  | .temp => if v < 30 then 30 else if 160 < v then 160 else v
  | .power => if v = 0 then 1 else if 100 < v then 100 else v

/-- R8: a speed moved into range, the general limits before the kind's. -/
def clampSpeed (kind : Kind) (v : Nat) : Nat :=
  let general := if v = 0 then 0 else if v < 40 then 40 else if 10700 < v then 10700 else v
  match kind with
  | .cook => general
  | .dose => if 600 < general then 600 else general
  | .prompt => 0

/-- R8: an on time or off time moved into range. -/
def clampSegment (v : Nat) : Nat := if v = 0 then 1 else if 60 < v then 60 else v

/-- R8: a ramp moved into range; a ramp is clamped in TEMP mode. -/
def clampRamp (mode : HeatMode) (ramp : Option Nat) : Option Nat :=
  match mode with
  | .temp => ramp.map (fun r => if 20 < r then 20 else r)
  | .off => ramp
  | .power => ramp

/-- R8: the quantities moved into range. -/
def StepRecord.clamp (r : StepRecord) : StepRecord :=
  { r with heatValue := clampHeat r.heatMode r.heatValue, ramp := clampRamp r.heatMode r.ramp,
           speed := clampSpeed r.kind r.speed, onTime := clampSegment r.onTime, offTime := clampSegment r.offTime }

/-- R9: fields without meaning stored at their neutral value. -/
def StepRecord.normalise (r : StepRecord) : StepRecord :=
  { r with heatValue := if r.heatMode = .off then 0 else r.heatValue,
           ramp := if r.heatMode = .temp then r.ramp else none,
           boil := if r.heatMode = .off ∧ r.boil = .hold then .ignore else r.boil,
           target := if r.kind = .dose then r.target else none }

/-- R9: the record Plan Memory stores for a received one: completed, clamped, normalised. -/
def StepRecord.stored (r : StepRecord) : StepRecord := r.complete.clamp.normalise

/-- R5, R6, R196: what a received record is judged to be: none when refused with RANGE, otherwise the record as read. -/
def acceptRaw (raw : RawStep) : Option StepRecord :=
  match readRaw raw with
  | some r => if r.fits then some r else none
  | none => none

end Sys2Proof.Machine
end

