-- ==== Sys2Proof/Decode.lean ====
section
/-! DEFINITION. The decoders. `decodeTableWord`: opcode_table.json gives no bits for any row, so no word spells a command.
The spec's own encoding of requests is the request frame of R191 with the kind codes and bodies of R194: `kindRow`,
`requestOf` and, the other way, `Request.kind` and `Request.body`. -/

namespace Sys2Proof

/-- The command that a word spells by the bits of opcode_table.json: the table gives none of its rows any bits. -/
def decodeTableWord (_nbits _w : Nat) : Option Instr := none

/-- R194: a row of the kind code table: the body length and whether the request is the panel's alone. -/
structure KindRow where
  length    : Nat
  panelOnly : Bool
  deriving DecidableEq, Repr

/-- R194: the kind code table; none for a kind that is not in it. -/
def kindRow (kind : Byte) : Option KindRow :=
  match kind.toNat with
  | 0x01 => some { length := 0, panelOnly := false }
  | 0x02 => some { length := 0, panelOnly := false }
  | 0x03 => some { length := 2, panelOnly := false }
  | 0x10 => some { length := 0, panelOnly := false }
  | 0x11 => some { length := 1, panelOnly := false }
  | 0x12 => some { length := 23, panelOnly := false }
  | 0x13 => some { length := 23, panelOnly := false }
  | 0x14 => some { length := 3, panelOnly := false }
  | 0x15 => some { length := 2, panelOnly := false }
  | 0x16 => some { length := 4, panelOnly := false }
  | 0x20 => some { length := 3, panelOnly := false }
  | 0x21 => some { length := 0, panelOnly := false }
  | 0x22 => some { length := 0, panelOnly := false }
  | 0x23 => some { length := 0, panelOnly := false }
  | 0x24 => some { length := 1, panelOnly := false }
  | 0x25 => some { length := 1, panelOnly := false }
  | 0x26 => some { length := 0, panelOnly := true }
  | 0x27 => some { length := 1, panelOnly := false }
  | 0x30 => some { length := 0, panelOnly := false }
  | 0x31 => some { length := 0, panelOnly := false }
  | 0x32 => some { length := 0, panelOnly := false }
  | 0x33 => some { length := 0, panelOnly := false }
  | 0x34 => some { length := 6, panelOnly := true }
  | 0x35 => some { length := 6, panelOnly := true }
  | 0x36 => some { length := 0, panelOnly := false }
  | 0x40 => some { length := 1, panelOnly := true }
  | 0x41 => some { length := 2, panelOnly := false }
  | 0x50 => some { length := 1, panelOnly := false }
  | 0x51 => some { length := 1, panelOnly := false }
  | 0x52 => some { length := 1, panelOnly := false }
  | 0x53 => some { length := 0, panelOnly := false }
  | 0x54 => some { length := 0, panelOnly := true }
  | _ => none

open Machine in
/-- R194: the request that a kind code and a body spell, or none where the kind is unknown or the length is not its own. -/
def requestOf (kind : Byte) (body : List Byte) : Option Request :=
  match kind.toNat, body with
  | 0x01, [] => some .readStatus
  | 0x02, [] => some .takeNotice
  | 0x03, [m0, m1] => some (.setNoticeMask (BitVec.ofNat 16 (num16 m0 m1)))
  | 0x10, [] => some .readPlanHeader
  | 0x11, [i] => some (.readStep i.toNat)
  | 0x12, r0 :: r1 :: i :: bytes => (rawOfBytes bytes).map (.insertStep (num16 r0 r1) i.toNat)
  | 0x13, r0 :: r1 :: i :: bytes => (rawOfBytes bytes).map (.replaceStep (num16 r0 r1) i.toNat)
  | 0x14, [r0, r1, i] => some (.removeStep (num16 r0 r1) i.toNat)
  | 0x15, [r0, r1] => some (.clearPlan (num16 r0 r1))
  | 0x16, [r0, r1, p0, p1] => some (.setPlanId (num16 r0 r1) (num16 p0 p1))
  | 0x20, [r0, r1, i] => some (.startRun (num16 r0 r1) i.toNat)
  | 0x21, [] => some .pause
  | 0x22, [] => some .resume
  | 0x23, [] => some .abort
  | 0x24, [i] => some (.skipStep i.toNat)
  | 0x25, [i] => some (.confirm i.toNat)
  | 0x26, [] => some .clearTrip
  | 0x27, [i] => some (.readRunLog i.toNat)
  | 0x30, [] => some .tarePush
  | 0x31, [] => some .tarePop
  | 0x32, [] => some .tareClear
  | 0x33, [] => some .restartScale
  | 0x34, [c0, c1, d0, d1, b, c] =>
    some (.calZero (num16 c0 c1) (signed 16 (num16 d0 d1)) (signed 8 b.toNat) (signed 8 c.toNat))
  | 0x35, [k0, k1, k2, k3, c0, c1] => some (.calSpan (num32 k0 k1 k2 k3) (num16 c0 c1))
  | 0x36, [] => some .readCal
  | 0x40, [k] => some (.permit k)
  | 0x41, [d0, d1] => some (.clearLatched (BitVec.ofNat 16 (num16 d0 d1)))
  | 0x50, [i] => some (.libSave i.toNat)
  | 0x51, [i] => some (.libLoad i.toNat)
  | 0x52, [i] => some (.libErase i.toNat)
  | 0x53, [] => some .libInfo
  | 0x54, [] => some .libWriteCal
  | _, _ => none

/-- R194: the kind code of a request. -/
def Request.kind : Request → Byte
  | .readStatus => 0x01
  | .takeNotice => 0x02
  | .setNoticeMask _ => 0x03
  | .readPlanHeader => 0x10
  | .readStep _ => 0x11
  | .insertStep _ _ _ => 0x12
  | .replaceStep _ _ _ => 0x13
  | .removeStep _ _ => 0x14
  | .clearPlan _ => 0x15
  | .setPlanId _ _ => 0x16
  | .startRun _ _ => 0x20
  | .pause => 0x21
  | .resume => 0x22
  | .abort => 0x23
  | .skipStep _ => 0x24
  | .confirm _ => 0x25
  | .clearTrip => 0x26
  | .readRunLog _ => 0x27
  | .tarePush => 0x30
  | .tarePop => 0x31
  | .tareClear => 0x32
  | .restartScale => 0x33
  | .calZero _ _ _ _ => 0x34
  | .calSpan _ _ => 0x35
  | .readCal => 0x36
  | .permit _ => 0x40
  | .clearLatched _ => 0x41
  | .libSave _ => 0x50
  | .libLoad _ => 0x51
  | .libErase _ => 0x52
  | .libInfo => 0x53
  | .libWriteCal => 0x54

open Machine in
/-- R194: the body of a request. -/
def Request.body : Request → List Byte
  | .readStatus => []
  | .takeNotice => []
  | .setNoticeMask mask => le16 mask.toNat
  | .readPlanHeader => []
  | .readStep idx => byte idx
  | .insertStep rev idx raw => le16 rev ++ byte idx ++ rawBytes raw
  | .replaceStep rev idx raw => le16 rev ++ byte idx ++ rawBytes raw
  | .removeStep rev idx => le16 rev ++ byte idx
  | .clearPlan rev => le16 rev
  | .setPlanId rev planId => le16 rev ++ le16 planId
  | .startRun rev idx => le16 rev ++ byte idx
  | .pause => []
  | .resume => []
  | .abort => []
  | .skipStep idx => byte idx
  | .confirm idx => byte idx
  | .clearTrip => []
  | .readRunLog pos => byte pos
  | .tarePush => []
  | .tarePop => []
  | .tareClear => []
  | .restartScale => []
  | .calZero calId drift offB offC => le16 calId ++ sle16 drift ++ sbyte offB ++ sbyte offC
  | .calSpan known calId => le32 known ++ le16 calId
  | .readCal => []
  | .permit key => [key]
  | .clearLatched set => le16 set.toNat
  | .libSave slot => byte slot
  | .libLoad slot => byte slot
  | .libErase slot => byte slot
  | .libInfo => []
  | .libWriteCal => []

open Machine in
/-- R191: the bytes of a request frame from its length to its check. -/
def Request.frame (r : Request) (tag : Byte) : List Byte :=
  let content := byte (2 + r.body.length) ++ [r.kind, tag] ++ r.body
  content ++ [0xFF - byteSum content]

end Sys2Proof
end

