-- ==== Sys2Proof/Config.lean ====
section
/-! DEFINITION. The free values: what the manual leaves open. Each is an opaque constant with no body, so no proof can
rely on what it is. Each is read at a counter of the state (`State.free`), or at the operand it depends on. -/

namespace Sys2Proof.Config

/-- R170: the content of the one word of the store array that was being erased or written when a reset came; "it may
read its old value, 0, the new value, or another value". Read at `State.free`. -/
opaque unknownWord : Nat → Word16

/-- R25, R31: a count of tenths past 4,294,967,295; the manual gives the counts that range and does not say what the next
tenth makes of them. Read at `State.free`. -/
opaque clockPastMax : Nat → BitVec 32

/-- R133: measured speed when the intervals held sum to 0 µs, where the formula divides by 0. Read at the number of
intervals held. -/
opaque speedOfZeroSum : Nat → Nat

/-- R197: the two bytes of the status record for a measured speed above 65,535 rpm. Read at that speed. -/
opaque speedField : Nat → Word16

end Sys2Proof.Config
end

