-- ==== Sys2Proof/Machine/Flags.lean ====
section
/-! DEFINITION. The verdicts and flags that the units compute: band results (R76, R86), plausibility (R72), the sample
flags (R68, R69), STABLE (R85), the plateau verdict (R124), the shortfall verdict (R144), and the codes of sets. -/

namespace Sys2Proof.Machine

/-- R76, R86: the band result of a value against a limit pair. -/
def band (lo hi x : Int) : Band := if hi < x then .above else if x < lo then .below else .inside

/-- R76: TB. -/
def bandTb (x : Int) : Band := band 1500 1750 x
/-- R76: TC. -/
def bandTc (x : Int) : Band := band 2000 2300 x
/-- R76: IM. -/
def bandIm (x : Nat) : Band := band 10000 12000 x
/-- R76: VS. -/
def bandVs (x : Nat) : Band := band 900 930 x
/-- R86: the overload test on the filtered gross. -/
def bandOverload (x : Int) : Band := band 95000 100000 x
/-- R86: the absence test on the filtered gross. -/
def bandAbsence (x : Int) : Band := band 5000 6000 x

/-- R72: a TB or TC code is plausible from 20 to 4,075. -/
def plausible (code : Nat) : Bool := decide (20 ≤ code) && decide (code ≤ 4075)

/-- R72: a plausible code as a temperature in 0.1 °C. -/
def probeValue (code : Nat) (offset : Int) : Int := ((code * 2900 / 4096 : Nat) : Int) - 400 + offset

/-- R75: an IM code in mA. -/
def imValue (code : Nat) : Nat := code * 4
/-- R75: a VS code in 0.1 % of nominal. -/
def vsValue (code : Nat) : Nat := code * 1200 / 4096

/-- R73: a history of four verdicts after the newest joins. -/
def shiftHistory (h : List Bool) (v : Bool) : List Bool := h.drop 1 ++ [v]

/-- R73: how many verdicts of a history are implausible. -/
def implausibleCount (h : List Bool) : Nat := (h.filter (fun v => !v)).length

/-- R68: the least count a bridge can give. -/
def countMin : Int := -524288
/-- R68: the greatest count a bridge can give. -/
def countMax : Int := 524287

/-- R68: a conversion beyond the converter's range gives the extreme count on that side. -/
def clipCount (c : Int) : Int := clampInt countMin countMax c

/-- R68: a count at either extreme sets OVERRANGE. -/
def atExtreme (c : Int) : Bool := decide (c = countMin) || decide (c = countMax)

/-- R69: MOTION from the measured speed and the ramped setpoint. -/
def motionFlag (measured ramped : Nat) : Bool :=
  decide (600 < measured) || (decide (ramped ≠ 0) && decide (measured = 0))

/-- The largest gross value of a window. -/
def grossMax : List GrossEntry → Int
  | [] => 0
  | [e] => e.gross
  | e :: rest => max e.gross (grossMax rest)

/-- The smallest gross value of a window. -/
def grossMin : List GrossEntry → Int
  | [] => 0
  | [e] => e.gross
  | e :: rest => min e.gross (grossMin rest)

/-- R85: STABLE. -/
def stableFlag (w : List GrossEntry) : Bool :=
  decide (w.length = 8) && decide (grossMax w - grossMin w ≤ 20) && w.all (fun e => !e.motion && !e.overrange)

/-- R83: the filtered gross of a window. -/
def filteredGross (w : List GrossEntry) : Int := roundDiv (w.map (·.gross)).sum w.length

/-- R124: the plateau verdict, from the ring after its update. -/
def plateauVerdict (h : Heat) : Bool :=
  decide (h.ring.length = 60) && decide (900 ≤ h.tb)
    && decide (h.ring.getLastD 0 - h.ring.headD 0 ≤ 2)
    && (decide (h.frameN * 6 ≤ h.frameW * 10) || h.boilHold)

/-- R144: the shortfall verdict. -/
def shortfallVerdict (ramped measured : Nat) : Bool := decide (200 ≤ ramped) && decide (measured * 4 < ramped)

/-- R175: WORN follows the save count. -/
def wornFlag (saves : Nat) : Bool := decide (50000 ≤ saves)

/-! ### Detector sets and other codes -/

/-- R194: the bit of a detector, which is its id. -/
def Detector.id : Detector → Nat
  | .lidOpen => 0
  | .lockFault => 1
  | .overheat => 2
  | .dryPan => 3
  | .boil => 4
  | .stall => 5
  | .probeB => 6
  | .probeC => 7
  | .overload => 8
  | .bowlAbsent => 9
  | .supplyLow => 10

/-- The set of one detector (R194). -/
def Detector.set (d : Detector) : DetSet := BitVec.ofNat 16 (2 ^ d.id)

/-- Whether a set names a detector. -/
def DetSet.has (x : DetSet) (d : Detector) : Bool := x.getLsbD d.id

/-- R197, byte 3. -/
def CauseSet.code (c : CauseSet) : Nat := bit 0 c.request + bit 1 c.lid + bit 2 c.permit

/-- The empty cause set. -/
def CauseSet.none : CauseSet := { request := false, lid := false, permit := false }

/-- R198, byte 19. -/
def LogFlags.code (f : LogFlags) : Nat := bit 0 f.refUnsteady + bit 1 f.fallback + bit 2 f.overdose

/-- R197, byte 0. -/
def EngineState.code : EngineState → Nat
  | .idle => 0
  | .running => 1
  | .paused => 2
  | .tripped => 3
  | .ended => 4

/-- R197, byte 1. -/
def EndReason.code : EndReason → Nat
  | .completed => 1
  | .aborted => 2

/-- R197, byte 7. -/
def Phase.code : Phase → Nat
  | .locking => 0
  | .approach => 1
  | .dwell => 2
  | .settle => 3
  | .dosing => 4
  | .waitConfirm => 5

/-- R198, byte 4. -/
def StepEnd.code : StepEnd → Nat
  | .timer => 0
  | .temp => 1
  | .boil => 2
  | .weight => 3
  | .confirm => 4
  | .skipped => 5
  | .aborted => 6

/-- R197, byte 28. -/
def ScaleStatus.code : ScaleStatus → Nat
  | .ready => 0
  | .restarting => 1
  | .uncalibrated => 2

/-- R194, the origin byte of READ_PLAN_HEADER; R171, word 4. -/
def Origin.code : Origin → Nat
  | .panel => 0
  | .link => 1
  | .store => 2

/-- R2: the origin an edit from a port gives. -/
def portOrigin : Port → Origin
  | .panel => .panel
  | .link => .link

/-- R197, byte 52. -/
def PermitState.code : PermitState → Nat
  | .unarmed => 0
  | .armed => 1
  | .lapsed => 2

/-- R194, the lapse reason byte of PERMIT. -/
def LapseReason.code : LapseReason → Nat
  | .early => 0
  | .wrongKey => 1
  | .expired => 2

/-- R194: the result codes. -/
def Result.code : Result → Nat
  | .ok => 0
  | .busy => 1
  | .starting => 2
  | .wrongState => 3
  | .stale => 4
  | .frozen => 5
  | .full => 6
  | .range => 7
  | .noStep => 8
  | .wrongStep => 9
  | .wrongPort => 10
  | .badKey => 11
  | .noPermit => 12
  | .causePresent => 13
  | .lidOpen => 14
  | .noBowl => 15
  | .unstable => 16
  | .aborted => 17
  | .worn => 18
  | .emptySlot => 19
  | .corrupt => 20
  | .writeFault => 21
  | .unknownKind => 22
  | .length => 23
  | .frameCheck => 24

/-- R203: the kind code of a notice. -/
def Notice.code : Notice → Nat
  | .engineState _ _ _ => 0
  | .stepBegun _ _ _ => 1
  | .stepEnded _ _ _ => 2
  | .prompt _ _ _ _ => 3
  | .tempReached _ _ => 4
  | .doseNear _ _ => 5
  | .doseOver _ _ => 6
  | .speedCapped _ _ _ _ => 7
  | .condition _ _ => 8
  | .trip _ _ => 9
  | .planChanged _ _ _ => 10
  | .permitDue _ => 11
  | .permitLapsed _ => 12
  | .libraryDone _ _ _ _ => 13
  | .scaleEvent _ _ _ => 14
  | .tareChanged _ _ _ _ => 15

end Sys2Proof.Machine
end

