-- ==== Sys2Proof/Machine/Ops.lean ====
section
/-! DEFINITION. The operations that every block shares: posting a notice (R200), the ports' replies (R186, R191, R193),
reading the live step, and reading and writing a detector's state (R150). -/

namespace Sys2Proof.Machine

/-! ### Notices (R199, R200) -/

/-- R200: the data of a queued notice after another of its kind is posted: CONDITION joins the changed sets and TRIP the
trip sets, every other kind takes the newest data. -/
def mergeNotice (old new : Notice) : Notice :=
  match old, new with
  | .condition a _, .condition b rt => .condition (a ||| b) rt
  | .trip a _, .trip b first => .trip (a ||| b) first
  | _, n => n

/-- R200: a queue after a posting whose kind is not queued: the record joins at the end; or is: the record keeps its place
and its first time. -/
def enqueue (uptime : Nat) (n : Notice) : List NoticeRec → List NoticeRec
  | [] => [{ data := n, count := 1, first := uptime, last := uptime }]
  | r :: rest =>
    if r.data.code = n.code then
      { data := mergeNotice r.data n, count := min (r.count + 1) 255, first := r.first, last := uptime } :: rest
    else r :: enqueue uptime n rest

/-- R200: a posting on one port's queue, under its mask. -/
def postTo (mask : Word16) (uptime : Nat) (n : Notice) (q : List NoticeRec) : List NoticeRec :=
  if mask.getLsbD n.code then enqueue uptime n q else q

/-- R200: a notice posted for both ports. -/
def post (n : Notice) (s : State) : State :=
  s.withNotices { s.notices with
    panelQ := postTo s.notices.panelMask s.notices.uptime n s.notices.panelQ
    linkQ := postTo s.notices.linkMask s.notices.uptime n s.notices.linkQ }

/-- R200, R169: a notice posted for the panel port alone. -/
def postPanel (n : Notice) (s : State) : State :=
  s.withNotices { s.notices with panelQ := postTo s.notices.panelMask s.notices.uptime n s.notices.panelQ }

/-! ### Replies (R186, R191, R193) -/

/-- What an owner answers: the result, CLAMPED, and the reply body (R192). -/
structure Answer where
  result  : Result
  clamped : Bool
  body    : List Byte
  deriving DecidableEq, Repr

/-- A request accepted with this reply body. -/
def okWith (body : List Byte) : Answer := { result := .ok, clamped := false, body := body }

/-- A request refused, with an empty reply body (R194). -/
def refuse (r : Result) : Answer := { result := r, clamped := false, body := [] }

/-- What the owner of a request makes of it: the state after, and its answer, or none when the reply comes later
(R90, R100). -/
abbrev Served := State × Option Answer

/-- The state of a port. -/
def State.port (s : State) (p : Port) : PortState :=
  match p with
  | .panel => s.panel
  | .link => s.link

/-- `s` with port `p` in state `x`. -/
def State.setPort (s : State) (p : Port) (x : PortState) : State :=
  match p with
  | .panel => s.withPanel x
  | .link => s.withLink x

/-- R186: the request state once a reply has been formed: it waits on the Panel Port, it is being sent on the Link Port. -/
def repliedState (p : Port) : ReqState :=
  match p with
  | .panel => .replyReady
  | .link => .outstanding

/-- R186, R191, R193: a reply is formed on port `p`; it carries OVERRUN when the flag is set, and the flag is cleared. -/
def formReply (p : Port) (kind tag : Byte) (a : Answer) (s : State) : State :=
  s.setPort p { state := repliedState p, buffer := none, overrun := false,
                reply := some { kind := kind, tag := tag, result := a.result, overrun := (s.port p).overrun,
                                clamped := a.clamped, body := a.body } }

/-- R90, R101: the reply to the request that stands outstanding on port `p`, formed in a later event. -/
def answerPending (p : Port) (a : Answer) (s : State) : State :=
  match (s.port p).buffer with
  | some r => formReply p r.kind r.tag a s
  | none => s

/-- R193: a frame is discarded because a request is outstanding. -/
def discardFrame (p : Port) (s : State) : State := s.setPort p { s.port p with overrun := true }

/-- R187: a waiting reply is discarded as a new frame is taken; PRDY goes low. -/
def dropReply (p : Port) (s : State) : State := s.setPort p { s.port p with state := .free, reply := none }

/-- R186, R192: the request state becomes OUTSTANDING and the request stands in the buffer. -/
def holdRequest (p : Port) (kind tag : Byte) (s : State) : State :=
  s.setPort p { s.port p with state := .outstanding, buffer := some { kind := kind, tag := tag } }

/-! ### Detectors (R150) -/

/-- The eleven detectors in the order of their bits (R194). -/
def allDetectors : List Detector :=
  [.lidOpen, .lockFault, .overheat, .dryPan, .boil, .stall, .probeB, .probeC, .overload, .bowlAbsent, .supplyLow]

/-- What detector `d` holds. -/
def Monitor.get (m : Monitor) : Detector → DetState
  | .lidOpen => m.lidOpen
  | .lockFault => m.lockFault
  | .overheat => m.overheat
  | .dryPan => m.dryPan
  | .boil => m.boil
  | .stall => m.stall
  | .probeB => m.probeB
  | .probeC => m.probeC
  | .overload => m.overload
  | .bowlAbsent => m.bowlAbsent
  | .supplyLow => m.supplyLow

/-- `m` with detector `d` holding `x`. -/
def Monitor.put (m : Monitor) (d : Detector) (x : DetState) : Monitor :=
  match d with
  | .lidOpen => { m with lidOpen := x }
  | .lockFault => { m with lockFault := x }
  | .overheat => { m with overheat := x }
  | .dryPan => { m with dryPan := x }
  | .boil => { m with boil := x }
  | .stall => { m with stall := x }
  | .probeB => { m with probeB := x }
  | .probeC => { m with probeC := x }
  | .overload => { m with overload := x }
  | .bowlAbsent => { m with bowlAbsent := x }
  | .supplyLow => { m with supplyLow := x }

/-- The real-time state of detector `d` (R163). -/
def State.asserts (s : State) (d : Detector) : Bool := (s.mon.get d).asserted

/-- The set of the detectors that `f` holds of (R194). -/
def detectorSet (f : Detector → Bool) : DetSet :=
  BitVec.ofNat 16 ((allDetectors.map (fun d => bit d.id (f d))).sum)

/-- R151: the real-time detector set. -/
def Monitor.realTime (m : Monitor) : DetSet := detectorSet (fun d => (m.get d).asserted)

/-- R152: the latched set. -/
def Monitor.latchedSet (m : Monitor) : DetSet := detectorSet (fun d => (m.get d).latched)

/-! ### The live step -/

/-- R25: the record of the live step, read from Plan Memory at the live index. -/
def State.liveRecord (s : State) : Option StepRecord :=
  match s.engine.live with
  | some l => s.plan.steps[l.index]?
  | none => none

/-- Whether the engine is RUNNING. -/
def State.isRunning (s : State) : Bool := decide (s.engine.state = .running)

/-- R11: whether a step is live: RUNNING, PAUSED or TRIPPED. -/
def EngineState.inRun : EngineState → Bool
  | .idle => false
  | .running => true
  | .paused => true
  | .tripped => true
  | .ended => false

/-- R11: whether a run is in progress. -/
def State.inRun (s : State) : Bool := s.engine.state.inRun

/-- The phase of the live step. -/
def State.phase (s : State) : Option Phase := s.engine.live.map (·.phase)

/-- R163: whether the live step's heat mode is not OFF. -/
def State.liveHeated (s : State) : Bool :=
  match s.liveRecord with
  | some r => decide (r.heatMode ≠ .off)
  | none => false

/-- The live index as a number, or none. -/
def State.liveIndex (s : State) : Option Nat := s.engine.live.map (·.index)

/-- `s` with the live step context changed by `f`. -/
def State.mapLive (f : Live → Live) (s : State) : State :=
  s.withEngine { s.engine with live := s.engine.live.map f }

/-- R25, R31: a count of tenths after one more. Past 4,294,967,295 the manual does not say what it reads: a free value of
32 bits. -/
def nextTenth (free n : Nat) : Nat :=
  if n < 4294967295 then n + 1 else (Config.clockPastMax free).toNat

end Sys2Proof.Machine
end

