-- ==== Sys2Proof/Machine/HeatControl.lean ====
section
/-! DEFINITION. The Heat Unit's own work: the handovers (R107, R108), the force-off (R109), setpoint and ramp (R110, R111),
the loop run (R112 to R115), frames and slots (R116 to R119), the target (R121, R122) and the plateau ring (R123). -/

namespace Sys2Proof.Machine

/-- R110, R111: 6 s in microseconds. -/
def rampPeriod : Nat := 6000000

/-- R110, R111: a countdown started at 6 s; it runs while the engine is RUNNING and is frozen otherwise. -/
def startCountdown (running : Bool) (now : Nat) : Countdown :=
  if running then .running (now + rampPeriod) else .frozen rampPeriod

/-- R109, R111: a running countdown frozen with the time it has left. -/
def freezeCountdown (now : Nat) : Countdown → Countdown
  | .running expiry => .frozen (expiry - now)
  | .frozen left => .frozen left
  | .stopped => .stopped

/-- R111: a frozen countdown runs on from the time it had left. -/
def thawCountdown (now : Nat) : Countdown → Countdown
  | .frozen left => .running (now + left)
  | .running expiry => .running expiry
  | .stopped => .stopped

/-- R115: the power pair of a power p2, in slots. -/
def powerPair (p2 : Nat) : Nat × Nat :=
  if p2 = 0 then (100, 0) else if p2 < 20 then (200, p2) else (100, p2 / 2)

/-- R114: the cap on every loop run. -/
def heatCap (h : Heat) : Int := if h.boilHold then 70 else if h.supplyLow then 100 else 200

/-- R113: a loop run that gives no power. -/
def zeroRun (h : Heat) : Heat := { h with integral := 0, next := { n := 100, w := 0, step := .none } }

/-- R112: the loop run of a TEMP step that is driven, toward setpoint `sp`. -/
def tempRun (sp : Int) (h : Heat) : Heat :=
  let e10 := sp - h.tb
  let u := 2 * e10 + h.integral / 8
  let pair := powerPair (clampInt 0 (heatCap h) u).toNat
  { h with next := { n := pair.1, w := pair.2, step := .due e10 u (heatCap h) } }

/-- R113: the loop run of a POWER step that is driven. -/
def powerRun (h : Heat) : Heat :=
  let pair := powerPair (min (2 * ((h.power.getD 0 : Nat) : Int)) (heatCap h)).toNat
  { h with integral := 0, next := { n := pair.1, w := pair.2, step := .none } }

/-- R112, R113: one loop run with the latest TB10. -/
def loopRun (running : Bool) (h : Heat) : Heat :=
  if running then
    match h.mode, h.sp with
    | .temp, some sp => tempRun sp h
    | .temp, none => zeroRun h
    | .power, _ => powerRun h
    | .off, _ => zeroRun h
  else zeroRun h

/-- R121: the direction of a TEMP step. -/
def heatDirection (tb target : Int) : HeatDir := if tb < target then .rising else .falling

/-- R110: setpoint, ramp and countdown of a TEMP step from the latest TB10; R121: its direction; R107: its flag. -/
def beginTemp (running : Bool) (now : Nat) (target : Int) (ramp : Option Nat) (h : Heat) : Heat :=
  let h := { h with mode := .temp, target := some target, power := none, ramp := ramp, reached := false,
                    dir := some (heatDirection h.tb target) }
  if ramp.isSome ∧ h.tb < target then { h with sp := some h.tb, countdown := startCountdown running now }
  else { h with sp := some target, countdown := .stopped }

/-- R107, R108: the Heat Unit in OFF or POWER mode: no target, setpoint, ramp or direction. -/
def beginPlain (mode : HeatMode) (power ramp : Option Nat) (h : Heat) : Heat :=
  { h with mode := mode, target := none, power := power, ramp := ramp, sp := none, countdown := .stopped, dir := none,
           reached := false }

/-- R107, steps 1 to 3: the heat fields of a step taken at its entry. -/
def takeHeatFields (running : Bool) (now : Nat) (r : StepRecord) (h : Heat) : Heat :=
  match r.heatMode with
  | .temp => beginTemp running now (10 * (r.heatValue : Int)) r.ramp h
  | .power => beginPlain .power (some r.heatValue) none h
  | .off => beginPlain .off none none h

/-- R122: whether the latest TB10 meets the target. -/
def meetsTarget (h : Heat) : Bool :=
  decide (h.mode = .temp) && !h.reached
    && (match h.dir, h.target with
        | some .rising, some t => decide (t - 10 ≤ h.tb)
        | some .falling, some t => decide (h.tb ≤ t + 10)
        | _, _ => false)

/-- R122, step 1: the target judged; the flag is set when it is met. -/
def judgeTarget (h : Heat) : Heat := if meetsTarget h then { h with reached := true } else h

/-- R107: the handover at step entry, before the judgement of R122. -/
def heatEntry (running : Bool) (now : Nat) (r : StepRecord) (h : Heat) : Heat :=
  loopRun running (takeHeatFields running now r h)

/-- R108, TEMP to TEMP with target10 unchanged. -/
def keepTarget (target : Int) (ramp : Option Nat) (h : Heat) : Heat :=
  match h.sp with
  | some sp =>
    if ramp = none ∧ sp < target then { h with ramp := none, sp := some target, countdown := .stopped }
    else { h with ramp := ramp }
  | none => { h with ramp := ramp }

/-- R108, TEMP to TEMP with target10 changed. -/
def changeTarget (running : Bool) (now : Nat) (target : Int) (ramp : Option Nat) (h : Heat) : Heat :=
  let h := { h with reached := false, dir := some (heatDirection h.tb target), target := some target, ramp := ramp }
  match h.sp with
  | some sp =>
    if ramp.isSome ∧ sp < target then
      { h with countdown := if h.countdown = .stopped then startCountdown running now else h.countdown }
    else { h with sp := some target, countdown := .stopped }
  | none => { h with sp := some target, countdown := .stopped }

/-- R108, the table: the heat fields of an adopted record taken. -/
def adoptHeatFields (running : Bool) (now : Nat) (r : StepRecord) (h : Heat) : Heat :=
  match h.mode, r.heatMode with
  | .temp, .temp =>
    if h.target = some (10 * (r.heatValue : Int)) then keepTarget (10 * (r.heatValue : Int)) r.ramp h
    else changeTarget running now (10 * (r.heatValue : Int)) r.ramp h
  | .off, .temp => beginTemp running now (10 * (r.heatValue : Int)) r.ramp h
  | .power, .temp => beginTemp running now (10 * (r.heatValue : Int)) r.ramp h
  | _, .power => beginPlain .power (some r.heatValue) r.ramp h
  | _, .off => beginPlain .off none r.ramp h

/-- R108: whether a heat field of an adopted record differs from what the unit holds. -/
def heatDiffers (r : StepRecord) (h : Heat) : Bool :=
  match r.heatMode with
  | .temp => decide (h.mode ≠ .temp ∨ h.target ≠ some (10 * (r.heatValue : Int)) ∨ h.ramp ≠ r.ramp)
  | .power => decide (h.mode ≠ .power ∨ h.power ≠ some r.heatValue)
  | .off => decide (h.mode ≠ .off)

/-- R108: the handover at adoption, before the judgement of R122. -/
def heatAdopt (running : Bool) (now : Nat) (r : StepRecord) (h : Heat) : Heat :=
  loopRun running (adoptHeatFields running now r h)

/-- R109: the force-off. -/
def forceOff (now : Nat) (h : Heat) : Heat :=
  { h with gate := false, frameW := 0, next := { n := 100, w := 0, step := .none }, integral := 0,
           countdown := freezeCountdown now h.countdown }

/-- R109: the rest condition at entry into ENDED. -/
def restHeat (h : Heat) : Heat := beginPlain .off none none h

/-- R119: the level of the gate in slot `k` of a frame. -/
def gateIn (n w k : Nat) : Bool := decide (n ≤ w) || decide (k < w)

/-- R119: a slot ends within the frame: the next slot begins with the gate as the in-force pair gives it. The end of the
last slot is the frame end (R116), a command of its own (log entry 8). -/
def nextSlot (h : Heat) : Heat :=
  if h.slot + 1 < h.frameN then { h with slot := h.slot + 1, gate := gateIn h.frameN h.frameW (h.slot + 1) } else h

/-- R117: the integral after a frame end that adopts `step`. -/
def gatherIntegral (step : IntegralStep) (i : Int) : Int :=
  match step with
  | .due e10 u cap2 => if 0 < u ∧ u < cap2 then clampInt 0 1600 (i + e10) else i
  | .spent _ _ _ => i
  | .none => i

/-- R117: an integral step that was due is spent. -/
def spendStep : IntegralStep → IntegralStep
  | .due e10 u cap2 => .spent e10 u cap2
  | .spent e10 u cap2 => .spent e10 u cap2
  | .none => .none

/-- R116, R117, R119: a frame ends: the pending pair governs the new frame, which begins at slot 0. -/
def endFrame (h : Heat) : Heat :=
  { h with frameN := h.next.n, frameW := h.next.w, slot := 0, gate := gateIn h.next.n h.next.w 0,
           integral := gatherIntegral h.next.step h.integral, next := { h.next with step := spendStep h.next.step } }

/-- R111: one rise of the setpoint, when the countdown runs. -/
def riseSetpoint (now : Nat) (h : Heat) : Heat :=
  match h.countdown, h.sp, h.target, h.ramp with
  | .running _, some sp, some target, some r =>
    if target ≤ sp + (r : Int) then { h with sp := some target, countdown := .stopped }
    else { h with sp := some (sp + (r : Int)), countdown := .running (now + rampPeriod) }
  | _, _, _, _ => h

/-- R123: the ring after an expiry of the plateau timer. -/
def plateauRing (h : Heat) : List Int :=
  if h.tbHeld then [] else (if h.ring.length < 60 then h.ring else h.ring.drop 1) ++ [h.tb]

/-- R112, R127: a delivered TB taken as the latest, and the loop run it brings. -/
def takeTb (running : Bool) (tb : Int) (held : Bool) (h : Heat) : Heat :=
  loopRun running { h with tb := tb, tbHeld := held }

end Sys2Proof.Machine
end

