-- ==== Sys2Proof/Machine/LidControl.lean ====
section
/-! DEFINITION. The Lid Controller's decision (R148) and the three reports that make it decide afresh. -/

namespace Sys2Proof.Machine

/-- R148, the table: what the lock demand becomes. -/
def wantedDemand (l : Lid) : LockDemand :=
  if l.wish then (if l.lidOpen then l.demand else .locked) else (if l.stopped then .unlocked else l.demand)

/-- R148: the demand decided afresh; a demand that changes takes the time of the event. -/
def decideDemand (now : Nat) (l : Lid) : Lid :=
  if wantedDemand l = l.demand then l else { l with demand := wantedDemand l, demandAt := now }

/-- R148: the Step Engine reports a change of the lock wish. -/
def tellWish (w : Bool) (s : State) : State :=
  if s.lid.wish = w then s else s.withLid (decideDemand s.now { s.lid with wish := w })

/-- R148, R151: the Condition Monitor reports LID_OPEN. -/
def tellLidOpen (b : Bool) (s : State) : State :=
  if s.lid.lidOpen = b then s else s.withLid (decideDemand s.now { s.lid with lidOpen := b })

/-- R148, R134: the Stir Unit reports the stopped indication. -/
def tellStopped (b : Bool) (s : State) : State :=
  if s.lid.stopped = b then s else s.withLid (decideDemand s.now { s.lid with stopped := b })

/-- R147: the lock is held while the demand is LOCKED and the latest feedback sample shows locked. -/
def lockHeld (l : Lid) : Bool := decide (l.demand = .locked) && decide (l.feedback = some true)

end Sys2Proof.Machine
end

