-- ==== Sys2Proof/Machine/StirControl.lean ====
section
/-! DEFINITION. The Stir Unit's own work: the handovers (R129, R130), patterns and the reversal wait (R136 to R138), the
setpoints (R140, R142), the drive (R143) and the measured speed (R133). -/

namespace Sys2Proof.Machine

/-- The other direction. -/
def Direction.opposite : Direction → Direction
  | .forward => .reverse
  | .reverse => .forward

/-- R136: how many segments a pattern has. -/
def segmentCount : Pattern → Nat
  | .continuous => 1
  | .interval => 2
  | .knead => 4

/-- R136: the ON segments are the first and the third. -/
def segmentOn (seg : Nat) : Bool := seg % 2 == 0

/-- R136: the direction of an ON segment: the second ON of KNEAD turns the other way. -/
def segmentDirection (dir : Direction) (pattern : Pattern) (seg : Nat) : Direction :=
  match pattern with
  | .knead => if seg = 2 then dir.opposite else dir
  | .continuous => dir
  | .interval => dir

/-- R136: the segment after `seg`. -/
def segmentAfter (pattern : Pattern) (seg : Nat) : Nat := (seg + 1) % segmentCount pattern

/-- R136: the length of a segment in control updates; CONTINUOUS has no end. -/
def segmentLength (st : Stir) : Option Nat :=
  match st.pattern with
  | .continuous => none
  | .interval => some (if segmentOn st.seg then st.onTime * 100 else st.offTime * 100)
  | .knead => some (if segmentOn st.seg then st.onTime * 100 else st.offTime * 100)

/-- R138: the direction of the ON segment in progress or next to come. -/
def wantedDirection (st : Stir) : Direction :=
  if segmentOn st.seg then segmentDirection st.dir st.pattern st.seg
  else segmentDirection st.dir st.pattern (segmentAfter st.pattern st.seg)

/-- R129, R130, R136: a reversal wait begins when the segment in progress is an ON segment whose direction differs from
the drive direction; one already in progress carries on. -/
def checkReversal (st : Stir) : Stir :=
  { st with wait := st.wait || (segmentOn st.seg && decide (segmentDirection st.dir st.pattern st.seg ≠ st.drive)) }

/-- R129: the handover at step entry. -/
def stirEntry (r : StepRecord) (st : Stir) : Stir :=
  checkReversal { st with speed := r.speed, dir := r.direction, pattern := r.pattern, onTime := r.onTime,
                          offTime := r.offTime, seg := 0, elapsed := 0, capped := false }

/-- R130: the handover at adoption. -/
def stirAdopt (r : StepRecord) (st : Stir) : Stir :=
  let st' := { st with speed := r.speed, dir := r.direction, pattern := r.pattern, onTime := r.onTime,
                       offTime := r.offTime, seg := if st.pattern = r.pattern then st.seg else 0,
                       elapsed := if st.pattern = r.pattern then st.elapsed else 0 }
  if st.pattern = r.pattern ∧ st.dir = r.direction then st' else checkReversal st'

/-- R138: the end of a reversal wait, where it is due. -/
def endWait (st : Stir) : Stir :=
  if st.wait ∧ st.ramped = 0 ∧ st.stopped then
    { st with drive := wantedDirection st, ring := [], lastEdge := none, wait := false }
  else st

/-- R136: the next segment begins with elapsed 0. -/
def nextSegment (st : Stir) : Stir :=
  checkReversal { st with seg := segmentAfter st.pattern st.seg, elapsed := 0 }

/-- R137: one counting update of the pattern clock. A CONTINUOUS segment's count stays within its range (log entry 9). -/
def countPattern (st : Stir) : Stir :=
  match segmentLength st with
  | some n => if n ≤ st.elapsed + 1 then nextSegment st else { st with elapsed := st.elapsed + 1 }
  | none => { st with elapsed := min (st.elapsed + 1) 6000 }

/-- R137: the pattern clock at a control update; `working` says that the engine is RUNNING in APPROACH, DWELL, SETTLE or
DOSING. -/
def patternClock (working : Bool) (st : Stir) : Stir :=
  if working ∧ ¬st.wait then countPattern st else st

/-- R140: the cap that lowers the step's speed and its limit, the smallest limit governing. -/
def governingCap (isDose : Bool) (st : Stir) : Option (SpeedCap × Nat) :=
  if isDose ∧ 600 < st.speed then some (.dose, 600)
  else if st.overload ∧ 1000 < st.speed then some (.overload, 1000)
  else if 600 ≤ st.tb ∧ 3000 < st.speed then some (.hot, 3000)
  else none

/-- R140: whether the update makes a comparison at all: nothing holds the applied setpoint at 0. -/
def stirDriven (working : Bool) (st : Stir) : Bool := working && segmentOn st.seg && !st.wait

/-- R140: the applied setpoint. -/
def appliedSetpoint (working isDose : Bool) (st : Stir) : Nat :=
  if stirDriven working st then
    match governingCap isDose st with
    | some (_, limit) => limit
    | none => st.speed
  else 0

/-- R142: the ramped setpoint after one update; R131: a TRIPPED engine cuts it to 0. -/
def rampSetpoint (tripped : Bool) (st : Stir) : Nat :=
  if tripped then 0
  else if st.ramped < st.applied then min (st.ramped + 20) st.applied
  else max (st.ramped - 40) st.applied

/-- R143: the drive integral and the duty. -/
def formDrive (st : Stir) : Stir :=
  if st.ramped = 0 then { st with integral := 0, duty := 0 }
  else
    let j := clampInt (-200) 200 (st.integral + Int.tdiv ((st.ramped : Int) - (st.measured : Int)) 16)
    { st with integral := j,
              duty := (clampInt 0 1000 (((st.ramped * 1000 / 11000 : Nat) : Int) + j)).toNat }

/-- R133: measured speed from the intervals held. -/
def speedOf (ring : List Nat) : Nat :=
  if ring = [] then 0
  else if ring.sum = 0 then Config.speedOfZeroSum ring.length
  else 5000000 * ring.length / ring.sum

/-- R132, step 1: the ring after an edge at time `now`. -/
def ringAfterEdge (now : Nat) (st : Stir) : List Nat :=
  match st.lastEdge with
  | some t => (if st.ring.length < 12 then st.ring else st.ring.drop 1) ++ [now - t]
  | none => st.ring

end Sys2Proof.Machine
end

