-- ==== Sys2Proof/Machine/EngineOps.lean ====
section
/-! DEFINITION. The Step Engine's shared operations: its entry actions (R27), step entry (R33, R34), phases (R29, R30),
step ends (R35), adoption (R54 to R56), trips (R51, R52), pause causes (R43, R45, R46) and the DOSE rules (R39, R40). -/

namespace Sys2Proof.Machine

/-! ### What the neighbours are told -/

/-- R27: the qualifier of ENGINE_STATE: the cause set in PAUSED, the first cause in TRIPPED, the end reason in ENDED. -/
def stateQualifier (e : Engine) : Nat :=
  match e.state with
  | .paused => e.causes.code
  | .tripped => (e.firstTrip.map Detector.id).getD 0
  | .ended => (e.endReason.map EndReason.code).getD 0
  | .idle => 0
  | .running => 0

/-- R27: ENGINE_STATE is posted; the live index is absent in IDLE and ENDED. -/
def postEngineState (s : State) : State :=
  post (.engineState s.engine.state (if s.inRun then s.liveIndex else none) (stateQualifier s.engine)) s

/-- R26: whether the engine wants the lock. -/
def wantsLock (s : State) : Bool :=
  s.isRunning && (match s.phase with
    | some .waitConfirm => false
    | some _ => true
    | none => false)

/-- R26, R148: the engine reports the lock wish where it changes. -/
def syncWish (s : State) : State := tellWish (wantsLock s) s

/-- R37: whether the boil hold is in force. -/
def boilHolds (s : State) : Bool :=
  s.isRunning && s.asserts .boil
    && (match s.liveRecord with
        | some r => decide (r.boil = .hold)
        | none => false)

/-- R37: the engine tells the Heat Unit whether the boil hold is in force. -/
def syncHold (s : State) : State := s.withHeat { s.heat with boilHold := boilHolds s }

/-- R27: the entry actions of PAUSED, TRIPPED and ENDED: heat forced off, applied setpoint 0, the settle deadline
cancelled (R39), the boil hold out (R37) and the wish for the lock withdrawn. -/
def entryActions (s : State) : State :=
  let s := s.withHeat (forceOff s.now s.heat)
  let s := s.withStir { s.stir with applied := 0 }
  let s := s.mapLive (fun l => { l with settleBy := none })
  syncWish (syncHold s)

/-- R27, R43: the engine enters PAUSED with a cause set. -/
def enterPaused (causes : CauseSet) (s : State) : State :=
  postEngineState (entryActions (s.withEngine { s.engine with
    state := .paused, causes := causes, trips := 0, firstTrip := none }))

/-- R24, R27, R109: the engine enters ENDED; the context is discarded and the Heat Unit returns to rest. -/
def enterEnded (reason : EndReason) (s : State) : State :=
  let s := s.withEngine { s.engine with
    state := .ended, live := none, causes := CauseSet.none, trips := 0, firstTrip := none, endReason := some reason }
  let s := entryActions s
  postEngineState (s.withHeat (restHeat s.heat))

/-! ### Trips (R51, R52, R163) -/

/-- R51: the engine enters TRIPPED for detector `d`; TRIP is posted before ENGINE_STATE. -/
def enterTripped (d : Detector) (s : State) : State :=
  let s := s.withEngine { s.engine with
    state := .tripped, causes := CauseSet.none, trips := d.set, firstTrip := some d }
  postEngineState (post (.trip d.set d) (entryActions s))

/-- R52: detector `d` joins the trip set of a TRIPPED engine. One that is a member already adds nothing
(log entry 10). -/
def joinTrip (d : Detector) (s : State) : State :=
  if DetSet.has s.engine.trips d then s
  else
    let s := s.withEngine { s.engine with trips := s.engine.trips ||| d.set }
    postEngineState (post (.trip s.engine.trips (s.engine.firstTrip.getD d)) s)

/-- R51, R163: whether detector `d` is trip-class, PROBE_FAULT_B while the step in question is heated. -/
def tripClass (heated : Bool) : Detector → Bool
  | .lockFault => true
  | .overheat => true
  | .dryPan => true
  | .stall => true
  | .probeC => true
  | .probeB => heated
  | .bowlAbsent => true
  | .lidOpen => false
  | .boil => false
  | .overload => false
  | .supplyLow => false

/-- R51, R52: the assertion of a detector that may trip reaches the engine. -/
def takeTrip (d : Detector) (s : State) : State :=
  if tripClass s.liveHeated d then
    match s.engine.state with
    | .running => enterTripped d s
    | .paused => if d = .bowlAbsent then s else enterTripped d s
    | .tripped => if d = .bowlAbsent then s else joinTrip d s
    | .idle => s
    | .ended => s
  else s

/-- R47, R50: whether a trip-class detector other than BOWL_ABSENT is asserted. -/
def tripAsserted (heated : Bool) (s : State) : Bool :=
  allDetectors.any (fun d => decide (d ≠ .bowlAbsent) && tripClass heated d && s.asserts d)

/-! ### Step entry (R33, R34) -/

/-- R28: the initial phase and return phase of a step. -/
def initialPhase (r : StepRecord) (fallen : Bool) : Phase × Option Phase :=
  match r.kind with
  | .cook => (.locking, some (match r.start with
    | .atTarget => .approach
    | .atEntry => .dwell))
  | .dose => if fallen then (.waitConfirm, none) else (.locking, some .settle)
  | .prompt => (.waitConfirm, none)

/-- R33, steps 1 to 3: the context of a step entered. -/
def newLive (idx : Nat) (r : StepRecord) (fallen : Bool) (tb : Int) : Live :=
  { index := idx, kind := r.kind, phase := (initialPhase r fallen).1, returnPhase := (initialPhase r fallen).2,
    active := 0, pausedFor := 0, settleBy := none, reference := none, lastAdded := 0, nearPosted := false,
    fallenBack := fallen, flags := { refUnsteady := false, fallback := fallen, overdose := false }, peak := tb }

/-- R107, step 5, R122: the target judged at a handover: the flag, and TEMP_REACHED posted for both ports. -/
def judgeAndPost (s : State) : State :=
  if meetsTarget s.heat then
    post (.tempReached s.liveIndex s.heat.tb) (s.withHeat (judgeTarget s.heat))
  else s

/-- R33, step 4: the handovers to the Heat Unit and the Stir Unit, and the lock wish. The boil hold goes with the heat
fields (R26; log entry 11). -/
def handOver (r : StepRecord) (s : State) : State :=
  let s := syncHold s
  let s := judgeAndPost (s.withHeat (heatEntry s.isRunning s.now r s.heat))
  let s := s.withStir (stirEntry r s.stir)
  syncWish s

/-- R33, step 5, and R41, R42: STEP_BEGUN, and PROMPT for a PROMPT step and a DOSE step that has fallen back. -/
def announceStep (idx : Nat) (r : StepRecord) (fallen : Bool) (s : State) : State :=
  let s := post (.stepBegun idx r.kind r.tag) s
  if r.kind = .prompt ∨ fallen then post (.prompt idx fallen r.prompt r.tag) s else s

/-- R33, steps 1 to 5, then R34: a heated step entered while PROBE_FAULT_B is asserted trips (log entry 12). -/
def enterStep (idx : Nat) (r : StepRecord) (s : State) : State :=
  let fallen := decide (r.kind = .dose) && decide (s.scale.status = .uncalibrated)
  let s := s.withEngine { s.engine with live := some (newLive idx r fallen s.conv.tb) }
  let s := announceStep idx r fallen (handOver r s)
  if s.asserts .probeB ∧ r.heatMode ≠ .off then enterTripped .probeB s else s

/-! ### Phases (R29, R30) -/

/-- R30, R32: TIMER is enabled, the phase counts, and the step clock has reached the duration. -/
def timerMet (l : Live) (r : StepRecord) : Bool :=
  r.exits.timer && (decide (l.phase = .dwell) || decide (l.phase = .dosing) || decide (l.phase = .waitConfirm))
    && (match r.duration with
        | some d => decide (10 * d ≤ l.active)
        | none => false)

/-- R30: the phases in which TEMP and BOIL end a step. -/
def inHeatPhase (l : Live) : Bool := decide (l.phase = .approach) || decide (l.phase = .dwell)

/-- R30, tests 1 to 3: the end event that a phase entry check finds, TIMER before TEMP before BOIL. -/
def endFound (s : State) : Option StepEnd :=
  match s.engine.live, s.liveRecord with
  | some l, some r =>
    if timerMet l r then some .timer
    else if r.exits.temp ∧ inHeatPhase l ∧ s.heat.reached then some .temp
    else if r.exits.boil ∧ inHeatPhase l ∧ s.asserts .boil then some .boil
    else none
  | _, _ => none

/-- The live step moved to another phase. -/
def toPhase (ph : Phase) (s : State) : State := s.mapLive (fun l => { l with phase := ph })

/-- R30: the phase entry checks; an APPROACH whose target is reached moves to DWELL and is checked again. -/
def phaseChecks (s : State) : State × Option StepEnd :=
  match endFound s with
  | some e => (s, some e)
  | none =>
    if s.phase = some .approach ∧ s.heat.reached then
      let s' := toPhase .dwell s
      (s', endFound s')
    else (s, none)

/-- R39: 5 s in microseconds. -/
def settlePeriod : Nat := 5000000

/-- R30: the live step comes into its phase while RUNNING: SETTLE starts its deadline with the reference absent, every
other working phase is checked. -/
def comeIntoPhase (s : State) : State × Option StepEnd :=
  match s.phase with
  | some .settle => (s.mapLive (fun l => { l with settleBy := some (s.now + settlePeriod), reference := none }), none)
  | some .locking => (s, none)
  | some .approach => phaseChecks s
  | some .dwell => phaseChecks s
  | some .dosing => phaseChecks s
  | some .waitConfirm => phaseChecks s
  | none => (s, none)

/-- R29: LOCKING ends: the step goes to its return phase, which becomes absent. -/
def passLocking (s : State) : State :=
  s.mapLive (fun l => { l with phase := l.returnPhase.getD l.phase, returnPhase := none })

/-- R29: the step comes into LOCKING while RUNNING; it passes at once when the lock is held and LID_OPEN is clear. -/
def comeIntoLocking (s : State) : State × Option StepEnd :=
  if lockHeld s.lid ∧ ¬s.asserts .lidOpen then comeIntoPhase (passLocking s) else (s, none)

/-- R33, step 6, and R47: the RUNNING engine brings the step into the phase it holds. -/
def comeIn (s : State) : State × Option StepEnd :=
  if s.phase = some .locking then comeIntoLocking s else comeIntoPhase s

/-! ### Step ends (R35, R58) -/

/-- R58: the run log entry of the live step. -/
def logEntryOf (l : Live) (r : StepRecord) (e : StepEnd) : LogEntry :=
  { index := l.index, tag := r.tag, kind := l.kind, reason := e, active := l.active, pausedFor := l.pausedFor,
    added := if l.kind = .dose then some l.lastAdded else none, peak := l.peak, flags := l.flags }

/-- R35, steps 1 and 2: the run log entry is appended and STEP_ENDED posted. -/
def closeStep (e : StepEnd) (s : State) : State :=
  match s.engine.live, s.liveRecord with
  | some l, some r =>
    post (.stepEnded l.index e r.tag)
      (s.withEngine { s.engine with log := s.engine.log ++ [logEntryOf l r e] })
  | _, _ => s

/-- R35: the live step, whose index is `idx`, ends with `e`; `rest` are the records of the plan above it. The next step is
entered in the same engine state, and where RUNNING its entry may end it too (R33); with none left the run ends
COMPLETED. -/
def endStepAt : List StepRecord → Nat → StepEnd → State → State
  | [], _, e, s => enterEnded .completed (closeStep e s)
  | r :: rest, idx, e, s =>
    let s := enterStep (idx + 1) r (closeStep e s)
    if s.isRunning then
      match comeIn s with
      | (s', none) => s'
      | (s', some e') => endStepAt rest (idx + 1) e' s'
    else s

/-- R35: the live step ends with `e`. -/
def endStep (e : StepEnd) (s : State) : State :=
  match s.engine.live with
  | some l => endStepAt (s.plan.steps.drop (l.index + 1)) l.index e s
  | none => s

/-- What a phase check found is taken: the step ends with it, or goes on. -/
def settleOutcome (o : State × Option StepEnd) : State :=
  match o with
  | (s, some e) => endStep e s
  | (s, none) => s

/-! ### Events that reach the engine -/

/-- R29: the Lid Controller's lock confirmation. -/
def takeLockConfirmation (s : State) : State :=
  if s.isRunning ∧ s.phase = some .locking then settleOutcome (comeIntoPhase (passLocking s)) else s

/-- R36: TEMP_REACHED from the Heat Unit. -/
def takeTempReached (s : State) : State :=
  match s.liveRecord with
  | some r =>
    if s.isRunning then
      if r.exits.temp ∧ (s.phase = some .approach ∨ s.phase = some .dwell) then endStep .temp s
      else if s.phase = some .approach then settleOutcome (phaseChecks (toPhase .dwell s))
      else s
    else s
  | none => s

/-- R37: a change of BOIL. -/
def takeBoil (b : Bool) (s : State) : State :=
  let s := syncHold s
  match s.liveRecord with
  | some r =>
    if b ∧ s.isRunning ∧ r.exits.boil ∧ (s.phase = some .approach ∨ s.phase = some .dwell) then endStep .boil s else s
  | none => s

/-- R45: LID_OPEN asserts. -/
def takeLidOpen (s : State) : State :=
  if s.isRunning ∧ s.phase ≠ some .waitConfirm then
    enterPaused { request := true, lid := true, permit := false } s
  else s

/-- R45: LID_OPEN clears. -/
def takeLidClosed (s : State) : State :=
  if s.engine.state = .paused ∧ s.engine.causes.lid then
    postEngineState (s.withEngine { s.engine with causes := { s.engine.causes with lid := false } })
  else s

/-- R46: the permit lapses. -/
def takeLapse (s : State) : State :=
  match s.engine.state with
  | .running => enterPaused { request := true, lid := false, permit := true } s
  | .paused =>
    if s.engine.causes.permit then s
    else postEngineState (s.withEngine { s.engine with causes := { s.engine.causes with permit := true } })
  | .tripped => s
  | .idle => s
  | .ended => s

/-- R46: the permit is re-armed. -/
def takeRearm (s : State) : State :=
  if s.engine.state = .paused ∧ s.engine.causes.permit then
    postEngineState (s.withEngine { s.engine with causes := { s.engine.causes with permit := false } })
  else s

/-! ### DOSE steps (R39, R40) -/

/-- R39: the reference is taken and the step moves to DOSING. -/
def takeReference (net : Int) (unsteady : Bool) (s : State) : State :=
  settleOutcome (comeIntoPhase (s.mapLive (fun l =>
    { l with reference := some net, phase := .dosing, settleBy := none,
             flags := { l.flags with refUnsteady := l.flags.refUnsteady || unsteady } })))

/-- R40: the overdose limit of a target in 0.1 g. -/
def overdoseLimit (target10 : Int) : Int := target10 + max (target10 / 10) 50

/-- R40, test 1: last added, and DOSE_NEAR at the first sample at or past nine tenths of the target. -/
def noteAdded (added target10 : Int) (idx : Nat) (l : Live) (s : State) : State :=
  if target10 * 9 / 10 ≤ added ∧ ¬l.nearPosted then
    post (.doseNear idx added) (s.mapLive (fun l => { l with lastAdded := added, nearPosted := true }))
  else s.mapLive (fun l => { l with lastAdded := added })

/-- R40, test 2: OVERDOSE and DOSE_OVER where the sample passes the overdose limit. -/
def noteOverdose (added target10 : Int) (idx : Nat) (s : State) : State :=
  if overdoseLimit target10 < added then
    post (.doseOver idx added) (s.mapLive (fun l => { l with flags := { l.flags with overdose := true } }))
  else s

/-- R40: one comparison in DOSING against a reference. -/
def compareDose (added target10 : Int) (l : Live) (s : State) : State :=
  if target10 ≤ added then
    endStep .weight (noteOverdose added target10 l.index (noteAdded added target10 l.index l s))
  else noteAdded added target10 l.index l s

/-- R39, R40: a weigh sample's net and STABLE verdict reach the engine. -/
def takeWeight (net : Int) (stable : Bool) (s : State) : State :=
  match s.engine.live, s.liveRecord with
  | some l, some r =>
    if s.isRunning then
      match l.phase with
      | .settle => if stable then takeReference net false s else s
      | .dosing =>
        match l.reference, r.target with
        | some ref, some t => compareDose (net - ref) (10 * (t : Int)) l s
        | _, _ => s
      | .locking => s
      | .approach => s
      | .dwell => s
      | .waitConfirm => s
    else s
  | _, _ => s

/-! ### Adoption of a replaced live step (R54 to R56) -/

/-- R54, R108: the heat fields of an adopted record; the target is judged where one of them differs. -/
def adoptHeat (r : StepRecord) (s : State) : State :=
  let s' := s.withHeat (heatAdopt s.isRunning s.now r s.heat)
  if heatDiffers r s.heat then judgeAndPost s' else s'

/-- R54: a changed prompt code posts PROMPT again in WAIT_CONFIRM of a PROMPT step or a fallen-back DOSE step. -/
def adoptPrompt (old r : StepRecord) (s : State) : State :=
  match s.engine.live with
  | some l =>
    if l.phase = .waitConfirm ∧ (l.kind = .prompt ∨ l.fallenBack) ∧ r.prompt ≠ old.prompt then
      post (.prompt l.index l.fallenBack r.prompt r.tag) s
    else s
  | none => s

/-- R54: a changed weight target of a DOSE step clears near posted. -/
def adoptTarget (old r : StepRecord) (s : State) : State :=
  if r.kind = .dose ∧ r.target ≠ old.target then s.mapLive (fun l => { l with nearPosted := false }) else s

/-- R54: PROBE_FAULT_B becomes trip-class for a step that takes heat while it is asserted. -/
def adoptProbe (old r : StepRecord) (s : State) : State :=
  if r.heatMode ≠ .off ∧ old.heatMode = .off ∧ s.asserts .probeB then takeTrip .probeB s else s

/-- R54: the handover of a new record `r` in place of `old`. -/
def adoptHandOver (old r : StepRecord) (s : State) : State :=
  let s := adoptHeat r (syncHold s)
  adoptProbe old r (adoptTarget old r (adoptPrompt old r (s.withStir (stirAdopt r s.stir))))

/-- R56: a change of timer start to AT_ENTRY moves a kept phase or a return phase of APPROACH to DWELL. -/
def keepAdopted (r : StepRecord) (s : State) : State :=
  if r.start = .atEntry then
    s.mapLive (fun l => { l with
      phase := if l.phase = .approach then .dwell else l.phase
      returnPhase := if l.returnPhase = some .approach then some .dwell else l.returnPhase })
  else s

/-- R55: the phase and end consequences of an adoption while RUNNING outside LOCKING (log entry 13). -/
def adoptConsequences (r : StepRecord) (s : State) : State :=
  if s.phase = some .approach ∧ r.start = .atEntry then settleOutcome (phaseChecks (toPhase .dwell s))
  else settleOutcome (phaseChecks s)

/-- R54 to R56: the engine adopts the new record of the live step, which Plan Memory has stored. -/
def adoptStep (old r : StepRecord) (s : State) : State :=
  let s := adoptHandOver old r s
  if s.isRunning ∧ s.phase ≠ some .locking then adoptConsequences r s else keepAdopted r s

end Sys2Proof.Machine
end

