-- ==== Sys2Proof/Machine/MonitorOps.lean ====
section
/-! DEFINITION. The Condition Monitor: the counting of R150, what a change of state does (R151), and the input of each
detector (R153 to R162). -/

namespace Sys2Proof.Machine

/-- R150: how an input qualifies. -/
inductive Qualifies where
  | toAssert
  | toClear
  | neither
  deriving DecidableEq, Repr

/-- R150, 7.3: the set length of a detector. STALL's is that of its shortfall count (R158). -/
def setLength : Detector → Nat
  | .lidOpen => 3
  | .lockFault => 1
  | .overheat => 3
  | .dryPan => 20
  | .boil => 5
  | .stall => 200
  | .probeB => 1
  | .probeC => 1
  | .overload => 8
  | .bowlAbsent => 8
  | .supplyLow => 10

/-- R150, 7.3: the clear length of a detector. -/
def clearLength : Detector → Nat
  | .lidOpen => 10
  | .lockFault => 10
  | .overheat => 20
  | .dryPan => 20
  | .boil => 10
  | .stall => 100
  | .probeB => 40
  | .probeC => 40
  | .overload => 8
  | .bowlAbsent => 8
  | .supplyLow => 10

/-- R158: the length of STALL's current count. -/
def stallCurrentLength : Nat := 10

/-- R151, step 3: the change of detector `d` is reported to the blocks that take it. -/
def reportChange (d : Detector) (b : Bool) (s : State) : State :=
  match d with
  | .lidOpen => tellLidOpen b (if b then takeLidOpen s else takeLidClosed s)
  | .boil => takeBoil b s
  | .overload => s.withStir { s.stir with overload := b }
  | .supplyLow => s.withHeat { s.heat with supplyLow := b }
  | .lockFault => if b then takeTrip .lockFault s else s
  | .overheat => if b then takeTrip .overheat s else s
  | .dryPan => if b then takeTrip .dryPan s else s
  | .stall => if b then takeTrip .stall s else s
  | .probeB => if b then takeTrip .probeB s else s
  | .probeC => if b then takeTrip .probeC s else s
  | .bowlAbsent => if b then takeTrip .bowlAbsent s else s

/-- R150: a detector after it has changed to `b`: both counts 0, the latched flag set on an assertion. -/
def DetState.changed (x : DetState) (b : Bool) : DetState :=
  { asserted := b, latched := x.latched || b, setCount := 0, clearCount := 0 }

/-- R151: detector `d` changes its real-time state to `b`: the state, CONDITION, the reports. -/
def changeDetector (d : Detector) (b : Bool) (s : State) : State :=
  let m := s.mon.put d ((s.mon.get d).changed b)
  let s := s.withMon (if d = .stall then { m with stallCurrent := 0 } else m)
  reportChange d b (post (.condition d.set s.mon.realTime) s)

/-- R150: what one input makes of a detector's counts, and whether its state changes. -/
def countInput (setLen clearLen : Nat) (q : Qualifies) (x : DetState) : DetState × Bool :=
  if x.asserted then
    match q with
    | .toClear => ({ x with clearCount := x.clearCount + 1 }, decide (clearLen ≤ x.clearCount + 1))
    | .toAssert => ({ x with clearCount := 0 }, false)
    | .neither => ({ x with clearCount := 0 }, false)
  else
    match q with
    | .toAssert => ({ x with setCount := x.setCount + 1 }, decide (setLen ≤ x.setCount + 1))
    | .toClear => ({ x with setCount := 0 }, false)
    | .neither => ({ x with setCount := 0 }, false)

/-- R150: one input of detector `d`. -/
def detectorInput (d : Detector) (q : Qualifies) (s : State) : State :=
  let o := countInput (setLength d) (clearLength d) q (s.mon.get d)
  if o.2 then changeDetector d (!s.asserts d) s else s.withMon (s.mon.put d o.1)

/-- A band result that qualifies to assert when ABOVE and to clear when BELOW (R76, R86). -/
def aboveAsserts : Band → Qualifies
  | .above => .toAssert
  | .inside => .neither
  | .below => .toClear

/-- A band result that qualifies to assert when BELOW and to clear when ABOVE (R76, R86). -/
def belowAsserts : Band → Qualifies
  | .above => .toClear
  | .inside => .neither
  | .below => .toAssert

/-- R153: LID_OPEN takes a switch sample. -/
def lidOpenInput (lidIsOpen : Bool) (s : State) : State :=
  detectorInput .lidOpen (if lidIsOpen then .toAssert else .toClear) s

/-- R154: 300 ms in microseconds. -/
def lockGrace : Nat := 300000

/-- R154: how a feedback sample qualifies against the demand. -/
def lockFaultQualifies (fbLocked : Bool) (demand : LockDemand) (since : Nat) : Qualifies :=
  if fbLocked = decide (demand = .locked) then .toClear
  else if lockGrace ≤ since then .toAssert else .neither

/-- R154: LOCK_FAULT takes the feedback sample, the demand and the time since the last demand change. -/
def lockFaultInput (fbLocked : Bool) (s : State) : State :=
  detectorInput .lockFault (lockFaultQualifies fbLocked s.lid.demand (s.now - s.lid.demandAt)) s

/-- R159: how a plausibility verdict qualifies, by the detector's state. -/
def probeQualifies (isAsserted plaus : Bool) (implausibles : Nat) : Qualifies :=
  if isAsserted then (if plaus then .toClear else .neither)
  else if 3 ≤ implausibles then .toAssert else .neither

/-- R159: PROBE_FAULT_B or PROBE_FAULT_C takes a verdict and the number of implausible ones in the history. -/
def probeInput (d : Detector) (plaus : Bool) (implausibles : Nat) (s : State) : State :=
  detectorInput d (probeQualifies (s.asserts d) plaus implausibles) s

/-- R158: a handover from the Stir Unit: the shortfall count while CLEAR, the clear count while ASSERTED. -/
def stallHandover (shortfall highCurrent : Bool) (s : State) : State :=
  detectorInput .stall
    (if s.asserts .stall then (if !shortfall && !highCurrent then .toClear else .neither)
     else (if shortfall then .toAssert else .neither)) s

/-- R158: an IM conversion: the current count while CLEAR. -/
def stallCurrentInput (b : Band) (s : State) : State :=
  if s.asserts .stall then s
  else if b = .above then
    if stallCurrentLength ≤ s.mon.stallCurrent + 1 then changeDetector .stall true s
    else s.withMon { s.mon with stallCurrent := s.mon.stallCurrent + 1 }
  else s.withMon { s.mon with stallCurrent := 0 }

end Sys2Proof.Machine
end

