-- ==== Sys2Proof/Machine/ConverterOps.lean ====
section
/-! DEFINITION. The Sensor Converter: the arbiter (R63 to R65), weigh triggers (R66, R67), weigh samples (R68 to R71) and
the deliveries of the sense channels (R72 to R75). -/

namespace Sys2Proof.Machine

/-- R62: the order of the sense channels. -/
def nextChannel : Channel → Option Channel
  | .tb => some .tc
  | .tc => some .im
  | .im => some .vs
  | .vs => none

/-- R63, R65: the converter enters SENSE on a channel, and the scan position moves to the channel after it. -/
def beginSense (ch : Channel) (c : Converter) : Converter := { c with state := .sense ch, scanPos := nextChannel ch }

/-- R62: a weigh group begins: EXCITE, with EXC on. -/
def beginWeigh (now : Nat) (c : Converter) : Converter := { c with state := .weigh now, exc := true }

/-- R64: a weigh trigger. -/
def weighTrigger (now : Nat) (c : Converter) : Converter :=
  match c.state with
  | .idle => beginWeigh now c
  | .sense _ => { c with weighWaiting := true }
  | .weigh _ => c

/-- R63: an expiry of the sense timer. -/
def senseExpiry (c : Converter) : Converter :=
  match c.state with
  | .idle => beginSense .tb c
  | .sense _ => { c with scanDue := true }
  | .weigh _ => { c with scanDue := true }

/-- R65, step 1: the scan moved on at the end of a conversion; the end of the first scan clears its discard mark (R71). -/
def advanceScan (ch : Channel) (c : Converter) : Converter :=
  match ch with
  | .vs => { c with senseDiscard := false, scanDue := false, scanPos := if c.scanDue then some .tb else none }
  | .tb => { c with scanPos := some .tc }
  | .tc => { c with scanPos := some .im }
  | .im => { c with scanPos := some .vs }

/-- R65, steps 1 to 4: the arbiter's choice at the end of a sense conversion. -/
def afterSense (now : Nat) (ch : Channel) (c : Converter) : Converter :=
  let c := advanceScan ch c
  if c.weighWaiting then beginWeigh now { c with weighWaiting := false }
  else match c.scanPos with
    | some ch' => beginSense ch' c
    | none => { c with state := .idle }

/-- R65: the arbiter's choice at the end of a weigh group. -/
def afterWeigh (c : Converter) : Converter :=
  match c.scanPos with
  | some ch => beginSense ch c
  | none => if c.scanDue then beginSense .tb { c with scanDue := false } else { c with state := .idle }

/-- R66: 25 ms in microseconds. -/
def freePeriod : Nat := 25000

/-- R66: the trigger mode of a measured speed. -/
def modeOf (measured : Nat) : TriggerMode := if 1 ≤ measured ∧ measured ≤ 600 then .tach else .free

/-- R66: a change of measured speed is judged; a change of mode takes effect at once. -/
def takeSpeed (now measured : Nat) (c : Converter) : Converter :=
  if modeOf measured = c.mode then c
  else match modeOf measured with
    | .tach => { c with mode := .tach, edges := 0, freeTimer := none }
    | .free => { c with mode := .free, edges := 0, freeTimer := some (now + freePeriod) }

/-- R66: an edge counted in TACH mode; the sixth issues a weigh trigger. -/
def countEdge (now : Nat) (c : Converter) : Converter :=
  if 6 ≤ c.edges + 1 then weighTrigger now { c with edges := 0 } else { c with edges := c.edges + 1 }

/-- R66, R132: an edge that may also have changed measured speed: the speed first, then the count under the mode thus
set. The edge at which TACH began is not counted, and no trigger comes from an edge that ends it. -/
def takeEdge (now old measured : Nat) (c : Converter) : Converter :=
  let c' := if measured = old then c else takeSpeed now measured c
  if c.mode = .tach ∧ c'.mode = .tach then countEdge now c' else c'

/-- R62: the stage of a weigh group that began at `began`, as LC0 to LC3 by 0 to 3, or none in EXCITE. -/
def weighStage (now began : Nat) : Option Nat :=
  if now - began < 2000 then none else some (min ((now - began - 2000) / 4000) 3)

/-- R68, R69: the weigh sample that four conversions form. -/
def formSample (c0 c1 c2 c3 : Int) (s : State) : Sample :=
  { c0 := clipCount c0, c1 := clipCount c1, c2 := clipCount c2, c3 := clipCount c3, seq := s.conv.nextSeq,
    motion := motionFlag s.stir.measured s.stir.ramped,
    overrange := atExtreme (clipCount c0) || atExtreme (clipCount c1) || atExtreme (clipCount c2)
      || atExtreme (clipCount c3) }

/-- R70: the sequence number after `n`. -/
def seqAfter (n : Nat) : Nat := if n < 65535 then n + 1 else 0

/-! ### Sense deliveries (R72 to R75) -/

/-- R122: a delivered TB10 judged: the flag, TEMP_REACHED to the engine, then its notice with the index of the step that
met its target (log entry 14). -/
def judgeDelivered (s : State) : State :=
  if meetsTarget s.heat then
    let idx := s.liveIndex
    let tb := s.heat.tb
    post (.tempReached idx tb) (takeTempReached (s.withHeat (judgeTarget s.heat)))
  else s

/-- R72, R73: the converter takes a TB code: value, HELD flag and history. -/
def takeTbCode (code : Nat) (offB : Int) (c : Converter) : Converter :=
  { c with tb := if plausible code then probeValue code offB else c.tb, tbHeld := !plausible code,
           tbHist := shiftHistory c.tbHist (plausible code) }

/-- R72, R73, R102: the converter takes a TC code, and keeps the offset that a new value is formed with. -/
def takeTcCode (code : Nat) (offC : Int) (c : Converter) : Converter :=
  { c with tc := if plausible code then probeValue code offC else c.tc,
           tcOffset := if plausible code then offC else c.tcOffset, tcHeld := !plausible code,
           tcHist := shiftHistory c.tcHist (plausible code) }

/-- R74: TB10 goes to the Condition Monitor, the Step Engine, the Heat Unit and the Stir Unit, in that order. -/
def deliverTb (code : Nat) (s : State) : State :=
  let s := s.withConv (takeTbCode code s.scale.cal.offB s.conv)
  let tb := s.conv.tb
  let held := s.conv.tbHeld
  let s := probeInput .probeB (plausible code) (implausibleCount s.conv.tbHist) s
  let s := detectorInput .dryPan (aboveAsserts (bandTb tb)) s
  let s := s.mapLive (fun l => { l with peak := max l.peak tb })
  let s := judgeDelivered (s.withHeat (takeTb s.isRunning tb held s.heat))
  s.withStir { s.stir with tb := tb }

/-- R74: TC10 goes to the Condition Monitor and is kept as the plate temperature. -/
def deliverTc (code : Nat) (s : State) : State :=
  let s := s.withConv (takeTcCode code s.scale.cal.offC s.conv)
  let tc := s.conv.tc
  let s := probeInput .probeC (plausible code) (implausibleCount s.conv.tcHist) s
  detectorInput .overheat (aboveAsserts (bandTc tc)) s

/-- R75: IM goes to the Condition Monitor, as STALL's current input, and to the Stir Unit. -/
def deliverIm (code : Nat) (s : State) : State :=
  let s := s.withConv { s.conv with im := imValue code, imSeen := true }
  let b := bandIm (imValue code)
  let s := stallCurrentInput b s
  s.withStir { s.stir with im := some (imValue code, b) }

/-- R75: VS goes to the Condition Monitor, as the input of SUPPLY_LOW. -/
def deliverVs (code : Nat) (s : State) : State :=
  let s := s.withConv { s.conv with vs := vsValue code, vsSeen := true }
  detectorInput .supplyLow (belowAsserts (bandVs (vsValue code))) s

/-- R65, R71: a sense conversion's result is delivered, unless the first scan after reset is being discarded. -/
def deliverSense (ch : Channel) (code : Nat) (s : State) : State :=
  if s.conv.senseDiscard then s
  else match ch with
    | .tb => deliverTb code s
    | .tc => deliverTc code s
    | .im => deliverIm code s
    | .vs => deliverVs code s

end Sys2Proof.Machine
end

