-- ==== Sys2Proof/Machine/ScaleOps.lean ====
section
/-! DEFINITION. The Scale Unit: the weighing chain (R81 to R87), restarts (R80, R88), the tare stack (R89 to R95), the
working calibration (R97, R98) and the captures (R100 to R103). -/

namespace Sys2Proof.Machine

/-- R105: SCALE_EVENT is posted. -/
def postScaleEvent (s : State) : State :=
  post (.scaleEvent s.scale.status s.scale.cal.calId s.scale.lastSeq) s

/-- R95: TARE_CHANGED is posted. -/
def postTareChanged (cause : TareCause) (port : Option Port) (s : State) : State :=
  post (.tareChanged s.scale.tare.length s.scale.tare.head? cause port) s

/-- R84: the net formed again from F and the top of the stack. -/
def formNet (sc : Scale) : Scale := { sc with net := sc.gross - sc.tare.headD 0 }

/-- R80: the status a restart gives. -/
def restartStatus (cal : Calibration) : ScaleStatus := if cal.span = 0 then .uncalibrated else .restarting

/-- R80, R83, R85: a restart of the scale: the window emptied, STABLE cleared, the status. -/
def restartScale (sc : Scale) : Scale :=
  { sc with window := [], stable := false, status := restartStatus sc.cal }

/-- R92, R101: a pending tare is answered and becomes absent. -/
def endTare (r : Result) (s : State) : State :=
  match s.scale.pendingTare with
  | some t => answerPending t.port (refuse r) (s.withScale { s.scale with pendingTare := none })
  | none => s

/-- R101: a pending capture is answered on the panel port and becomes absent, the calibration unchanged. -/
def endCapture (r : Result) (s : State) : State :=
  match s.scale.pendingCapture with
  | some _ => answerPending .panel (refuse r) (s.withScale { s.scale with pendingCapture := none })
  | none => s

/-- R98, step 2: the tare stack is cleared; TARE_CHANGED is posted when it held any level. The net holds its last value
until the next sample (R98; log entry 15). -/
def clearTareForCalibration (s : State) : State :=
  if s.scale.tare = [] then s
  else postTareChanged .calibration none (s.withScale { s.scale with tare := [] })

/-- R98: the working calibration changes to `cal`. F and the net hold their last values, but become 0 at once where the status
becomes UNCALIBRATED. -/
def changeCalibration (cal : Calibration) (s : State) : State :=
  let s := s.withScale { s.scale with cal := cal }
  let s := endTare .aborted s
  let s := clearTareForCalibration s
  let sc := restartScale s.scale
  let s := s.withScale (if cal.span = 0 then { sc with gross := 0, net := 0 } else sc)
  postScaleEvent s

/-- R97: every field of a stored record lies in its range. -/
def Calibration.inRange (c : Calibration) : Bool :=
  decide (-2097152 ≤ c.zero ∧ c.zero ≤ 2097151) && decide (c.span ≤ 65535) && decide (-500 ≤ c.drift ∧ c.drift ≤ 500)
    && decide (0 ≤ c.tcal ∧ c.tcal ≤ 600) && decide (-50 ≤ c.offB ∧ c.offB ≤ 50)
    && decide (-50 ≤ c.offC ∧ c.offC ≤ 50) && decide (c.calId ≤ 65535)

/-! ### The weighing chain (R81 to R86) -/

/-- R81: the raw sum. -/
def rawSum (x : Sample) : Int := x.c0 + x.c1 + x.c2 + x.c3

/-- R81: the scaled weight. -/
def scaledWeight (cal : Calibration) (sum : Int) : Int := roundDiv ((sum - cal.zero) * (cal.span : Int)) 65536

/-- R82: the drift correction. -/
def driftCorrection (cal : Calibration) (tc : Int) : Int := roundDiv (cal.drift * (tc - cal.tcal)) 100

/-- R82: the gross value of a sample. -/
def grossOf (cal : Calibration) (tc : Int) (x : Sample) : Int := scaledWeight cal (rawSum x) - driftCorrection cal tc

/-- R83: the gross window after a new entry joins. -/
def joinWindow (w : List GrossEntry) (e : GrossEntry) : List GrossEntry :=
  (if w.length < 8 then w else w.drop 1) ++ [e]

/-- R81, with G of 0: the chain stops at W10 = 0. -/
def chainUncalibrated (x : Sample) (sc : Scale) : Scale :=
  { sc with lastSeq := some x.seq, gross := 0, net := 0, stable := false,
            status := if sc.status = .restarting then .uncalibrated else sc.status }

/-- R81 to R85, with G not 0. -/
def chainCalibrated (tc : Int) (x : Sample) (sc : Scale) : Scale :=
  let w := joinWindow sc.window { gross := grossOf sc.cal tc x, motion := x.motion, overrange := x.overrange }
  formNet { sc with lastSeq := some x.seq, window := w, gross := filteredGross w, stable := stableFlag w,
                    status := if sc.status = .restarting then .ready else sc.status }

/-- R80 to R85: one weigh sample carried through the chain. -/
def weighChain (tc : Int) (x : Sample) (sc : Scale) : Scale :=
  if sc.cal.span = 0 then chainUncalibrated x sc else chainCalibrated tc x sc

/-! ### Captures (R101 to R103) -/

/-- R102: the calibration a zero capture sets, from the plate temperature `tc` held and the offset `formed` it was formed
with. -/
def zeroCalibration (savg tc formed : Int) (calId : Nat) (drift offB offC : Int) (c : Calibration) : Calibration :=
  { c with zero := savg, drift := drift, tcal := clampInt 0 600 (tc - formed + offC), offB := offB, offC := offC,
           calId := calId }

/-- R103: the span factor of a known weight over a span count. -/
def spanFactor (known : Nat) (e : Int) : Int := roundDiv ((known : Int) * 65536) e.toNat

/-- R102, R103: a capture completes at its eighth sample with the average `savg`. -/
def completeCapture (body : CaptureBody) (savg : Int) (s : State) : State :=
  match body with
  | .zero calId drift offB offC =>
    let cal := zeroCalibration savg s.conv.tc s.conv.tcOffset calId drift offB offC s.scale.cal
    let s := changeCalibration cal (s.withScale { s.scale with pendingCapture := none })
    answerPending .panel (okWith (sle32 cal.zero ++ sle16 cal.tcal ++ le16 cal.calId)) s
  | .span known calId =>
    let e := savg - s.scale.cal.zero
    if e < 1000 then endCapture .range s
    else if 65535 < spanFactor known e then endCapture .range s
    else
      let cal := { s.scale.cal with span := (spanFactor known e).toNat, calId := calId }
      let s := changeCalibration cal (s.withScale { s.scale with pendingCapture := none })
      answerPending .panel (okWith (le16 cal.span ++ le16 cal.calId)) s

/-- R101: a pending capture takes a sample. -/
def captureSample (x : Sample) (s : State) : State :=
  match s.scale.pendingCapture with
  | none => s
  | some c =>
    if x.motion || x.overrange || decide (s.stir.measured ≠ 0) then endCapture .unstable s
    else if 8 ≤ c.count + 1 then completeCapture c.body (roundDiv (c.sum + rawSum x) 8) s
    else s.withScale { s.scale with
      pendingCapture := some { c with sum := c.sum + rawSum x, count := c.count + 1 } }

/-- R91: a pending tare takes a sample; a STABLE one completes it. -/
def tareSample (x : Sample) (s : State) : State :=
  match s.scale.pendingTare with
  | none => s
  | some t =>
    if s.scale.stable then
      let s := s.withScale (formNet { s.scale with tare := s.scale.gross :: s.scale.tare, pendingTare := none })
      let s := postTareChanged .push (some t.port) s
      answerPending t.port
        (okWith (sle32 s.scale.gross ++ byte s.scale.tare.length ++ le16 x.seq)) s
    else s

/-- R87, step 1: the band results of R86, where a sample produces them. -/
def bandInputs (s : State) : State :=
  if s.scale.cal.span = 0 then s
  else
    let f := s.scale.gross
    detectorInput .bowlAbsent (belowAsserts (bandAbsence f))
      (detectorInput .overload (aboveAsserts (bandOverload f)) s)

/-- R80, R81, R87: a delivered weigh sample: the chain, SCALE_EVENT where the status changes (log entry 16), then the
Condition Monitor, a pending capture, the Step Engine and a pending tare, in that order. -/
def takeSample (x : Sample) (s : State) : State :=
  let old := s.scale.status
  let s := s.withScale (weighChain s.conv.tc x s.scale)
  let s := if s.scale.status = old then s else postScaleEvent s
  let s := captureSample x (bandInputs s)
  let s := takeWeight s.scale.net s.scale.stable s
  tareSample x s

end Sys2Proof.Machine
end

