-- ==== Sys2Proof/Machine/ConverterEvents.lean ====
section
/-! DEFINITION. The Sensor Converter's events (R62, R63, R65, R66). An end of work that is not in progress changes
nothing (log entry 1). -/

namespace Sys2Proof.Machine

open Host (Outcome)

/-- R61: 50 ms in microseconds. -/
def sensePeriod : Nat := 50000

/-- R61, R63: the sense timer expires and runs again. -/
def expireSense (s : State) : State :=
  s.withConv { senseExpiry s.conv with senseTimer := s.now + sensePeriod }

/-- R65: a sense conversion ends: its result is delivered, and then the arbiter chooses. -/
def endSense (code : Nat) (s : State) : State :=
  match s.conv.state with
  | .sense ch =>
    let s := deliverSense ch code s
    s.withConv (afterSense s.now ch s.conv)
  | .idle => s
  | .weigh _ => s

/-- R66: the free-running timer expires in FREE mode: it runs again, and a weigh trigger is issued. -/
def expireFree (s : State) : State :=
  match s.conv.freeTimer with
  | some _ => s.withConv (weighTrigger s.now { s.conv with freeTimer := some (s.now + freePeriod) })
  | none => s

/-- R62, R68, R70, R71: a weigh group ends: EXC goes off, and the sample is formed and delivered, unless it is the first
group after reset, which is discarded. -/
def finishWeigh (c0 c1 c2 c3 : Int) (s : State) : State :=
  let x := formSample c0 c1 c2 c3 s
  if s.conv.weighDiscard then s.withConv { s.conv with exc := false, weighDiscard := false }
  else takeSample x (s.withConv { s.conv with exc := false, nextSeq := seqAfter s.conv.nextSeq })

/-- R65: a weigh group ends, and then the arbiter chooses. -/
def endWeigh (c0 c1 c2 c3 : Int) (s : State) : State :=
  match s.conv.state with
  | .weigh _ =>
    let s := finishWeigh c0 c1 c2 c3 s
    s.withConv (afterWeigh s.conv)
  | .idle => s
  | .sense _ => s

/-- SENSE_TIMER_EXPIRY (R63). -/
def execSenseTimerExpiry (dt : Nat) (s : State) : Outcome State Fault Refusal := .next (expireSense (s.after dt))

/-- SENSE_CONVERSION_END (R65). -/
def execSenseConversionEnd (dt : Nat) (code : Nat) (s : State) : Outcome State Fault Refusal :=
  .next (endSense code (s.after dt))

/-- FREE_TRIGGER (R66). -/
def execFreeTrigger (dt : Nat) (s : State) : Outcome State Fault Refusal := .next (expireFree (s.after dt))

/-- WEIGH_GROUP_END (R62). -/
def execWeighGroupEnd (dt : Nat) (c0 c1 c2 c3 : Int) (s : State) : Outcome State Fault Refusal :=
  .next (endWeigh c0 c1 c2 c3 (s.after dt))

end Sys2Proof.Machine
end

