-- ==== Sys2Proof/Machine/EngineEvents.lean ====
section
/-! DEFINITION. The Step Engine's own timers: the 0.1 s time base (R31, R32) and the settle deadline (R39). -/

namespace Sys2Proof.Machine

open Host (Outcome)

/-- R31: the phases in which the step clock counts. -/
def clockCounts : Phase → Bool
  | .dwell => true
  | .dosing => true
  | .waitConfirm => true
  | .locking => false
  | .approach => false
  | .settle => false

/-- R31: the live step's two counts after an expiry of the time base. -/
def tickLive (st : EngineState) (free : Nat) (l : Live) : Live :=
  match st with
  | .running => if clockCounts l.phase then { l with active := nextTenth free l.active } else l
  | .paused => { l with pausedFor := nextTenth free l.pausedFor }
  | .tripped => { l with pausedFor := nextTenth free l.pausedFor }
  | .idle => l
  | .ended => l

/-- R31: 0.1 s in microseconds. -/
def timeBasePeriod : Nat := 100000

/-- R31: the clocks count at an expiry of the time base. A count that leaves its range reads a free value, and the run
clock another. -/
def countTenths (s : State) : State :=
  let e := s.engine
  let s := s.withEngine { e with
    live := e.live.map (tickLive e.state s.free)
    runClock := if e.state = .running then nextTenth (s.free + 1) e.runClock else e.runClock
    timeBase := s.now + timeBasePeriod }
  s.useFree.useFree

/-- R32: TIMER is tested after the step clock has counted. -/
def testTimer (s : State) : State :=
  match s.engine.live, s.liveRecord with
  | some l, some r => if s.isRunning ∧ timerMet l r then endStep .timer s else s
  | _, _ => s

/-- R39: the settle deadline runs out while the engine is RUNNING in SETTLE. -/
def settleRunsOut (s : State) : State :=
  if s.isRunning ∧ s.phase = some .settle then takeReference s.scale.net true s else s

/-- TIME_BASE_TICK (R31, R32). -/
def execTimeBaseTick (dt : Nat) (s : State) : Outcome State Fault Refusal :=
  .next (testTimer (countTenths (s.after dt)))

/-- SETTLE_DEADLINE (R39). -/
def execSettleDeadline (dt : Nat) (s : State) : Outcome State Fault Refusal := .next (settleRunsOut (s.after dt))

end Sys2Proof.Machine
end

