-- ==== Sys2Proof/Machine/HeatEvents.lean ====
section
/-! DEFINITION. The Heat Unit's events: frame ends (R116), slot boundaries (R119), ramp rises (R111) and the plateau timer
(R123, R124). -/

namespace Sys2Proof.Machine

open Host (Outcome)

/-- R123: 1 s in microseconds. -/
def plateauPeriod : Nat := 1000000

/-- R123, R124: the plateau timer expires: the ring, and the verdict to BOIL. -/
def expirePlateau (s : State) : State :=
  let s := s.withHeat { s.heat with ring := plateauRing s.heat, plateauTimer := s.now + plateauPeriod }
  detectorInput .boil (if plateauVerdict s.heat then .toAssert else .toClear) s

/-- PLATEAU_TIMER (R123, R124). -/
def execPlateauTimer (dt : Nat) (s : State) : Outcome State Fault Refusal := .next (expirePlateau (s.after dt))

/-- FRAME_END (R116, R117, R119). -/
def execFrameEnd (dt : Nat) (s : State) : Outcome State Fault Refusal :=
  .next ((s.after dt).withHeat (endFrame s.heat))

/-- SLOT_BOUNDARY (R119). -/
def execSlotBoundary (dt : Nat) (s : State) : Outcome State Fault Refusal :=
  .next ((s.after dt).withHeat (nextSlot s.heat))

/-- RAMP_RISE (R111). -/
def execRampRise (dt : Nat) (s : State) : Outcome State Fault Refusal :=
  .next ((s.after dt).withHeat (riseSetpoint (s.after dt).now s.heat))

end Sys2Proof.Machine
end

