-- ==== Sys2Proof/Machine/LidEvents.lean ====
section
/-! DEFINITION. The Lid Controller's event: the 10 ms sample (R147). -/

namespace Sys2Proof.Machine

open Host (Outcome)

/-- R146: 10 ms in microseconds. -/
def lidPeriod : Nat := 10000

/-- R147, step 3: whether a sample confirms the lock. -/
def confirmsLock (l : Lid) : Bool := lockHeld l && !l.lidOpen

/-- R147: LIDSW and LOCK_FB are sampled: LID_OPEN, LOCK_FAULT, then the confirmation. -/
def lidSample (lidIsOpen fbLocked : Bool) (s : State) : State :=
  let s := s.withLid { s.lid with
    switch := some lidIsOpen, feedback := some fbLocked, sampleTimer := s.now + lidPeriod }
  let s := lockFaultInput fbLocked (lidOpenInput lidIsOpen s)
  if confirmsLock s.lid then takeLockConfirmation s else s

/-- LID_SAMPLE (R147). -/
def execLidSample (dt : Nat) (lidIsOpen fbLocked : Bool) (s : State) : Outcome State Fault Refusal :=
  .next (lidSample lidIsOpen fbLocked (s.after dt))

end Sys2Proof.Machine
end

