-- ==== Sys2Proof/Machine/Memory.lean ====
section
/-! DEFINITION. The store array of R170 as a list of (address, word) pairs in one canonical form: addresses rising, each
below 4,114, no word that reads 0. An erased word reads 0 (R170), and so does every address that is not listed. -/

namespace Sys2Proof.Machine

/-- R170: the array holds 4,114 words. -/
def arrayWords : Nat := 4114

/-- Reading a word of the array; an unlisted word is erased and reads 0 (R170). -/
def Memory.read : Memory → Nat → Word16
  | [], _ => 0
  | (b, w) :: rest, a => if b = a then w else Memory.read rest a

/-- `m` without its entry for the word at `a`, which then reads 0. -/
def Memory.erase : Memory → Nat → Memory
  | [], _ => []
  | (b, w) :: rest, a => if b = a then rest else (b, w) :: Memory.erase rest a

/-- `m` with the word at `a` listed as `w`, at its place in the rising order. -/
def Memory.insert : Memory → Nat → Word16 → Memory
  | [], a, w => [(a, w)]
  | (b, v) :: rest, a, w =>
    if a < b then (a, w) :: (b, v) :: rest
    else if a = b then (a, w) :: rest
    else (b, v) :: Memory.insert rest a w

/-- Writing a word of the array. Writing 0 removes the entry. A number that names no word of the array changes nothing. -/
def Memory.write (m : Memory) (a : Nat) (w : Word16) : Memory :=
  if arrayWords ≤ a then m else if w = 0 then Memory.erase m a else Memory.insert m a w

/-- The canonical form, told from the lowest address an entry may have. -/
def Memory.wfFrom : Memory → Nat → Bool
  | [], _ => true
  | (b, w) :: rest, lo => decide (lo ≤ b) && decide (b < arrayWords) && decide (w ≠ 0) && Memory.wfFrom rest (b + 1)

/-- The canonical form of the array. -/
def Memory.wf (m : Memory) : Bool := Memory.wfFrom m 0

/-- The words from `a` on, `n` of them. -/
def Memory.readRange (m : Memory) (a : Nat) : Nat → List Word16
  | 0 => []
  | n + 1 => Memory.read m a :: Memory.readRange m (a + 1) n

end Sys2Proof.Machine
end

