-- ==== Sys2Proof/Machine/StoreOps.lean ====
section
/-! DEFINITION. The Recipe Store: where its words stand (R170 to R172), the word writes of each operation (R173, R178,
R182, R183), what a slot holds (R171, R176, R181), how an operation ends (R174), and what a reset leaves (R185). -/

namespace Sys2Proof.Machine

/-! ### The array's arrangement -/

/-- R170, R171: the first word of a slot. -/
def slotBase (slot : Nat) : Nat := 512 * slot
/-- R170, R172: the first word of the calibration area (log entry 6). -/
def calBase : Nat := 4096
/-- R170, R172: the counter word of a slot (log entry 6). -/
def counterAddr (slot : Nat) : Nat := 4106 + slot

/-- R171: the marker of a slot written in full. -/
def slotMarker : Word16 := 0x3C96
/-- R172: the marker of a calibration record written in full. -/
def calMarker : Word16 := 0xC35A

/-- A number as a word of the array. -/
def word (n : Nat) : Word16 := BitVec.ofNat 16 n

/-- R171: bytes two to a word, the lower-numbered byte in the low half. -/
def pairWords : List Byte → List Word16
  | a :: b :: rest => word (num16 a b) :: pairWords rest
  | [a] => [word a.toNat]
  | [] => []

/-- R171: the two bytes of a word, the low half first. -/
def unpairWords : List Word16 → List Byte
  | [] => []
  | w :: ws => le16 w.toNat ++ unpairWords ws

/-- R171: the ten words of a step record. -/
def stepWords (r : StepRecord) : List Word16 := pairWords r.bytes

/-- R171: the step words of a plan, index 0 first. -/
def planWords (steps : List StepRecord) : List Word16 := (steps.map stepWords).flatten

/-- R171: the check of a slot: the sum of words 1 to 4, words 6 and 7 and the step words, given words 1 to 4 and the words
after word 5. -/
def slotCheck (head tail : List Word16) : Word16 := wordSum head + wordSum tail

/-- R171, R178: words 1 to 4 of a snapshot: plan id, step count, revision, origin. -/
def snapshotHead (x : Snapshot) : List Word16 :=
  [word x.planId, word x.steps.length, word x.revision, word x.origin.code]

/-- R171, R178: header words 1 to 7 of a snapshot. -/
def snapshotHeader (x : Snapshot) : List Word16 :=
  snapshotHead x ++ [slotCheck (snapshotHead x) ([0, 0] ++ planWords x.steps), 0, 0]

/-- R172: words 1 to 8 of a calibration record. -/
def calWords (c : Calibration) : List Word16 :=
  [word (twos 32 c.zero), word (twos 32 c.zero / 65536), word c.span, word (twos 16 c.drift), word (twos 16 c.tcal),
   word (twos 16 c.offB), word (twos 16 c.offC), word c.calId]

/-! ### Word writes -/

/-- Word writes of successive words from `addr` on. -/
def writesFrom : Nat → List Word16 → List WordWrite
  | _, [] => []
  | addr, w :: ws => { addr := addr, value := w, role := .plain } :: writesFrom (addr + 1) ws

/-- R178: the word writes of a SAVE, in order. -/
def saveWrites (slot saves : Nat) (x : Snapshot) : List WordWrite :=
  [{ addr := counterAddr slot, value := word (saves + 1), role := .counter },
   { addr := slotBase slot, value := 0, role := .clearMarker }]
  ++ writesFrom (slotBase slot + 8) (planWords x.steps)
  ++ writesFrom (slotBase slot + 1) (snapshotHeader x)
  ++ [{ addr := slotBase slot, value := slotMarker, role := .setMarker }]

/-- R182: the word writes of an ERASE: the marker, then the step count word. -/
def eraseWrites (slot : Nat) : List WordWrite :=
  [{ addr := slotBase slot, value := 0, role := .plain }, { addr := slotBase slot + 2, value := 0, role := .plain }]

/-- R183: the eleven word writes of a WRITE_CAL. -/
def calWrites (c : Calibration) : List WordWrite :=
  { addr := calBase, value := 0, role := .plain } ::
    (writesFrom (calBase + 1) (calWords c ++ [wordSum (calWords c)])
      ++ [{ addr := calBase, value := calMarker, role := .setMarker }])

/-- R173: whether a word write succeeds: the word already holds the value, or reads back as it after the first write or
after the retry. -/
def writeSucceeds (m : Memory) (w : WordWrite) (first second : Word16) : Bool :=
  decide (Memory.read m w.addr = w.value) || decide (first = w.value) || decide (second = w.value)

/-- R173, R179: the array after a word write ends: the value, or what the word read back as at the second mismatch. -/
def writtenArray (m : Memory) (w : WordWrite) (first second : Word16) : Memory :=
  Memory.write m w.addr (if writeSucceeds m w first second then w.value else second)

/-! ### The directory -/

/-- R175: the entry of a slot; there are eight. -/
def Store.entry (st : Store) (slot : Nat) : DirEntry := st.directory.getD slot DirEntry.reset

/-- `st` with the entry of a slot. -/
def Store.setEntry (st : Store) (slot : Nat) (e : DirEntry) : Store := { st with directory := st.directory.set slot e }

/-- R178, R182: an entry made INVALID; the save count stays. -/
def DirEntry.invalid (e : DirEntry) : DirEntry := { e with valid := false, planId := 0, count := 0 }

/-- R178: an entry made VALID with a snapshot's plan id and step count. -/
def DirEntry.holds (e : DirEntry) (x : Option Snapshot) : DirEntry :=
  match x with
  | some x => { e with valid := true, planId := x.planId, count := x.steps.length }
  | none => e.invalid

/-- R178: the directory change of a word write of a SAVE that ends with success. -/
def entryAfterSuccess (w : WordWrite) (x : Option Snapshot) (e : DirEntry) : DirEntry :=
  match w.role with
  | .counter => { e with saves := w.value.toNat }
  | .clearMarker => e.invalid
  | .plain => e
  | .setMarker => e.holds x

/-- R179: the directory change of a word write of a SAVE that fails; `back` is the value read back at the failed check. -/
def entryAfterFailure (w : WordWrite) (back : Word16) (e : DirEntry) : DirEntry :=
  match w.role with
  | .counter => { e with saves := back.toNat }
  | .clearMarker => e.invalid
  | .plain => e.invalid
  | .setMarker => e.invalid

/-! ### What a slot holds -/

/-- R171: word `i` of a slot. -/
def slotWord (m : Memory) (slot i : Nat) : Word16 := Memory.read m (slotBase slot + i)

/-- R171: the check formed from a slot as it stands. -/
def formedCheck (m : Memory) (slot : Nat) : Word16 :=
  slotCheck (Memory.readRange m (slotBase slot + 1) 4)
    (Memory.readRange m (slotBase slot + 6) (2 + 10 * (slotWord m slot 2).toNat))

/-- R171: whether a slot is valid. -/
def slotValid (m : Memory) (slot : Nat) : Bool :=
  decide (slotWord m slot 0 = slotMarker) && decide ((slotWord m slot 2).toNat ≤ 48)
    && decide (slotWord m slot 5 = formedCheck m slot)

/-- R176, step 1: the directory entry of a slot, from its words and its counter word. -/
def scanEntry (m : Memory) (slot : Nat) : DirEntry :=
  let saves := (Memory.read m (counterAddr slot)).toNat
  if slotValid m slot then
    { valid := true, planId := (slotWord m slot 1).toNat, count := (slotWord m slot 2).toNat, saves := saves }
  else { valid := false, planId := 0, count := 0, saves := saves }

/-- R172: whether the stored calibration record is valid. -/
def calRecordValid (m : Memory) : Bool :=
  decide (Memory.read m calBase = calMarker)
    && decide (Memory.read m (calBase + 9) = wordSum (Memory.readRange m (calBase + 1) 8))

/-- R172: the stored calibration record. -/
def storedCalibration (m : Memory) : Calibration :=
  let w := fun i => (Memory.read m (calBase + i)).toNat
  { zero := signed 32 (w 1 + 65536 * w 2), span := w 3, drift := signed 16 (w 4), tcal := signed 16 (w 5),
    offB := signed 16 (w 6), offC := signed 16 (w 7), calId := w 8 }

/-- R181, test 3: the stored record that ten words of an image give, or none where Plan Memory would not store it as it
is. -/
def recordOfWords (ws : List Word16) : Option StepRecord :=
  match rawOfBytes (unpairWords ws) with
  | some raw =>
    match acceptRaw raw with
    | some r => if r.stored = r then some r else none
    | none => none
  | none => none

/-- R181: the records of an image, `n` of them from word `addr` on. -/
def imageRecords (m : Memory) (addr : Nat) : Nat → Option (List StepRecord)
  | 0 => some []
  | n + 1 =>
    match recordOfWords (Memory.readRange m addr 10), imageRecords m (addr + 10) n with
    | some r, some rs => some (r :: rs)
    | _, _ => none

/-- R181: what a LOAD of a slot ends with, and the plan id and records it stages. -/
def judgeImage (m : Memory) (slot : Nat) : Result × Nat × List StepRecord :=
  if slotWord m slot 0 ≠ slotMarker ∨ 48 < (slotWord m slot 2).toNat then (.emptySlot, 0, [])
  else if slotWord m slot 5 ≠ formedCheck m slot ∨ 2 < (slotWord m slot 4).toNat then (.corrupt, 0, [])
  else
    match imageRecords m (slotBase slot + 8) (slotWord m slot 2).toNat with
    | some rs => (.ok, (slotWord m slot 1).toNat, rs)
    | none => (.corrupt, 0, [])

/-! ### Operations -/

/-- R174: an operation ends: none is in flight, and LIBRARY_DONE is posted. -/
def endOperation (op : DoneOp) (slot : Option Nat) (r : Result) (rev : Option Nat) (s : State) : State :=
  post (.libraryDone op slot r rev) (s.withStore { s.store with op := .idle })

/-- R12, R50: whether a load is in flight. -/
def StoreOp.isLoad : StoreOp → Bool
  | .load _ => true
  | .idle => false
  | .scan => false
  | .save _ _ => false
  | .erase _ _ => false
  | .writeCal _ => false

/-- R12, R50: whether the store has a load in flight. -/
def State.loadInFlight (s : State) : Bool := s.store.op.isLoad

/-- R173: the word write in progress, the first of those an operation has to make. -/
def StoreOp.writing : StoreOp → Option WordWrite
  | .save _ todo => todo.head?
  | .erase _ todo => todo.head?
  | .writeCal todo => todo.head?
  | .idle => none
  | .scan => none
  | .load _ => none

/-- R170, R185: the array as a reset leaves it: the word being erased or written is unknown; a word write that is skipped
(R173) erases and writes nothing (log entry 4). DESIGN CHOICE (log entry 32): a marker that a SAVE is clearing is unknown
like any word, though R185 has the scan find the slot INVALID from the marker clearing on. -/
def arrayAfterReset (free : Nat) (st : Store) : Memory :=
  match st.op.writing with
  | some w =>
    if Memory.read st.array w.addr = w.value then st.array
    else Memory.write st.array w.addr (Config.unknownWord free)
  | none => st.array

/-- R178, R179: a word write of a SAVE ends. -/
def saveWriteEnd (slot : Nat) (w : WordWrite) (rest : List WordWrite) (first second : Word16) (s : State) : State :=
  let st := s.store
  let rev := st.saveBuf.map (·.revision)
  let written := { st with array := writtenArray st.array w first second }
  if writeSucceeds st.array w first second then
    let st' := written.setEntry slot (entryAfterSuccess w st.saveBuf (st.entry slot))
    if rest = [] then endOperation .save (some slot) .ok rev (s.withStore st')
    else s.withStore { st' with op := .save slot rest }
  else
    endOperation .save (some slot) .writeFault rev
      (s.withStore (written.setEntry slot (entryAfterFailure w second (st.entry slot))))

/-- R182: a word write of an ERASE ends. -/
def eraseWriteEnd (slot : Nat) (w : WordWrite) (rest : List WordWrite) (first second : Word16) (s : State) : State :=
  let written := { s.store with array := writtenArray s.store.array w first second }
  if writeSucceeds s.store.array w first second then
    if rest = [] then endOperation .erase (some slot) .ok none (s.withStore written)
    else s.withStore { written with op := .erase slot rest }
  else endOperation .erase (some slot) .writeFault none (s.withStore written)

/-- R183: a word write of a WRITE_CAL ends. DESIGN CHOICE (log entry 33): a failed one leaves the word as it was read back, as
R179 has it for a SAVE, though R183 has the next scan find an invalid record: a marker clearing that reads back 0xC35A over an
intact record leaves one that R172 calls valid. -/
def calWriteEnd (w : WordWrite) (rest : List WordWrite) (first second : Word16) (s : State) : State :=
  let written := { s.store with array := writtenArray s.store.array w first second }
  if writeSucceeds s.store.array w first second then
    if rest = [] then endOperation .writeCal none .ok none (s.withStore { written with calValid := true })
    else s.withStore { written with op := .writeCal rest }
  else endOperation .writeCal none .writeFault none (s.withStore written)

/-- R173: the word write in progress ends, whichever operation it belongs to. -/
def endWordWrite (first second : Word16) (s : State) : State :=
  match s.store.op with
  | .save slot (w :: rest) => saveWriteEnd slot w rest first second s
  | .erase slot (w :: rest) => eraseWriteEnd slot w rest first second s
  | .writeCal (w :: rest) => calWriteEnd w rest first second s
  | .save _ [] => s
  | .erase _ [] => s
  | .writeCal [] => s
  | .idle => s
  | .scan => s
  | .load _ => s

end Sys2Proof.Machine
end

