-- ==== Sys2Proof/Machine/PlanOps.lean ====
section
/-! DEFINITION. Plan Memory's shared operations: the revision (R3), the zones (R11), an accepted edit (R2, R21) and the
bodies that plan replies carry (R10, R194). -/

namespace Sys2Proof.Machine

/-- R3: the revision after one change; after 65,535 comes 1. -/
def nextRevision (r : Nat) : Nat := if r = 65535 then 1 else r + 1

/-- R10, R194: revision and step count, as every plan reply carries them. -/
def planBody (s : State) : List Byte := le16 s.plan.revision ++ byte s.plan.steps.length

/-- R10, R194: a plan edit refused; the body gives the revision and step count. -/
def planRefused (r : Result) (s : State) : Served := (s, some { result := r, clamped := false, body := planBody s })

/-- R11: whether an index lies at or below the live index of a run. -/
def atOrBelowLive (idx : Nat) (s : State) : Bool :=
  s.inRun && (match s.liveIndex with
    | some l => decide (idx ≤ l)
    | none => false)

/-- R11: whether an index lies below the live index of a run. -/
def belowLive (idx : Nat) (s : State) : Bool :=
  s.inRun && (match s.liveIndex with
    | some l => decide (idx < l)
    | none => false)

/-- R11: whether an index is the live index of a run. -/
def isLiveIndex (idx : Nat) (s : State) : Bool := s.inRun && decide (s.liveIndex = some idx)

/-- R21: PLAN_CHANGED is posted. -/
def postPlanChanged (s : State) : State :=
  post (.planChanged s.plan.revision s.plan.origin s.plan.steps.length) s

/-- R2, R3, R21: an accepted edit from port `p` leaves plan id and steps; the revision rises, the origin becomes the port,
the slot absent, and PLAN_CHANGED is posted. -/
def acceptEdit (p : Port) (planId : Nat) (steps : List StepRecord) (s : State) : State :=
  postPlanChanged (s.withPlan
    { planId := planId, revision := nextRevision s.plan.revision, steps := steps, origin := portOrigin p, slot := none })

/-- R194: the body of an accepted INSERT_STEP or REPLACE_STEP, or of READ_STEP. -/
def stepBody (r : StepRecord) (s : State) : List Byte := planBody s ++ r.bytes

/-- R15: a record put in at an index; the steps from there on move up by one. -/
def insertAt (idx : Nat) (r : StepRecord) (steps : List StepRecord) : List StepRecord :=
  steps.take idx ++ r :: steps.drop idx

/-- R18: the record at an index removed; the steps above it move down by one. -/
def removeAt (idx : Nat) (steps : List StepRecord) : List StepRecord := steps.take idx ++ steps.drop (idx + 1)

end Sys2Proof.Machine
end

