-- ==== Sys2Proof/Machine/Encode.lean ====
section
/-! DEFINITION. The byte layouts of replies: the status record (R197), the run log entry (R198), the notice record (R203)
and the other reply bodies of R194. -/

namespace Sys2Proof.Machine

/-- An index or slot byte; 0xFF is absent (R197, R203). -/
def indexByte (i : Option Nat) : List Byte := byte (i.getD 255)

/-! ### Notices (R203) -/

/-- R203: the qualifier in bits 4 to 7 of the kind byte. -/
def Notice.kindQualifier : Notice → Nat
  | .libraryDone op _ _ rev =>
    (match op with
      | .save => 1
      | .load => 2
      | .erase => 3
      | .writeCal => 4) + bit 3 rev.isSome
  | .scaleEvent status _ seq => status.code + bit 2 seq.isSome
  | .engineState _ _ _ => 0
  | .stepBegun _ _ _ => 0
  | .stepEnded _ _ _ => 0
  | .prompt _ _ _ _ => 0
  | .tempReached _ _ => 0
  | .doseNear _ _ => 0
  | .doseOver _ _ => 0
  | .speedCapped _ _ _ _ => 0
  | .condition _ _ => 0
  | .trip _ _ => 0
  | .planChanged _ _ _ => 0
  | .permitDue _ => 0
  | .permitLapsed _ => 0
  | .tareChanged _ _ _ _ => 0

/-- R203: the kind byte. -/
def Notice.kindByte (n : Notice) : List Byte := byte (n.code + 16 * n.kindQualifier)

/-- R203: the governing cap byte of SPEED_CAPPED. -/
def SpeedCap.code : SpeedCap → Nat
  | .hot => 0
  | .overload => 1
  | .dose => 2

/-- R203: the cause bits of TARE_CHANGED. -/
def TareCause.code : TareCause → Nat
  | .push => 0
  | .pop => 1
  | .clear => 2
  | .calibration => 3

/-- R203: the port bits of TARE_CHANGED. -/
def tarePortCode : Option Port → Nat
  | some .panel => 0
  | some .link => 1
  | none => 3

/-- R203: the four data bytes of a notice. -/
def Notice.data : Notice → List Byte
  | .engineState st live q => byte st.code ++ indexByte live ++ byte q ++ byte 0
  | .stepBegun idx kind tag => byte idx ++ byte kind.code ++ le16 tag
  | .stepEnded idx reason tag => byte idx ++ byte reason.code ++ le16 tag
  | .prompt idx fallen code tag => byte (idx + bit 7 fallen) ++ byte code ++ le16 tag
  | .tempReached idx tb => indexByte idx ++ sle16 tb ++ byte 0
  | .doseNear idx added => byte idx ++ sle24 added
  | .doseOver idx added => byte idx ++ sle24 added
  | .speedCapped idx cap speed _ => byte idx ++ byte cap.code ++ le16 speed
  | .condition changed rt => le16 changed.toNat ++ le16 rt.toNat
  | .trip trips first => le16 trips.toNat ++ byte first.id ++ byte 0
  | .planChanged rev origin count => le16 rev ++ byte origin.code ++ byte count
  | .permitDue key => [key] ++ byte 0 ++ byte 0 ++ byte 0
  | .permitLapsed reason => byte reason.code ++ byte 0 ++ byte 0 ++ byte 0
  | .libraryDone _ slot result rev => indexByte slot ++ byte result.code ++ le16 (rev.getD 0)
  | .scaleEvent _ calId seq => le16 calId ++ le16 (seq.getD 0)
  | .tareChanged depth top cause port =>
    byte (depth + 8 * cause.code + 32 * tarePortCode port) ++ sle24 (top.getD 0)

/-- R203: the fourteen bytes of a notice record. -/
def NoticeRec.bytes (r : NoticeRec) : List Byte :=
  r.data.kindByte ++ byte r.count ++ le32 r.first ++ le32 r.last ++ r.data.data

/-- R203: the record of kind NONE. -/
def noNotice : List Byte := byte 255 ++ List.replicate 13 0

/-! ### The run log entry (R198) -/

/-- R198: the added weight, −2,147,483,648 when absent. -/
def LogEntry.bytes (e : LogEntry) : List Byte :=
  byte e.index ++ le16 e.tag ++ byte e.kind.code ++ byte e.reason.code ++ le32 e.active ++ le32 e.pausedFor
    ++ sle32 (e.added.getD (-2147483648)) ++ sle16 e.peak ++ byte e.flags.code

/-! ### The status record (R197) -/

/-- R197, byte 53. -/
def StoreOp.code : StoreOp → Nat
  | .idle => 0
  | .scan => 1
  | .save _ _ => 2
  | .load _ => 3
  | .erase _ _ => 4
  | .writeCal _ => 5

/-- R174, R197, byte 54: SAVE, LOAD and ERASE carry the slot they work on. -/
def StoreOp.slot : StoreOp → Option Nat
  | .save slot _ => some slot
  | .load slot => some slot
  | .erase slot _ => some slot
  | .idle => none
  | .scan => none
  | .writeCal _ => none

/-- R197: measured speed in two bytes; a figure beyond them is a free value. -/
def speedBytes (v : Nat) : List Byte := le16 (if v < 65536 then v else (Config.speedField v).toNat)

/-- R197, bytes 0 to 19: the engine and the plan. -/
def engineBytes (s : State) : List Byte :=
  byte s.engine.state.code ++ byte ((s.engine.endReason.map EndReason.code).getD 0)
    ++ indexByte (s.engine.firstTrip.map Detector.id) ++ byte s.engine.causes.code ++ le16 s.engine.trips.toNat
    ++ indexByte s.liveIndex ++ indexByte (s.phase.map Phase.code)
    ++ indexByte ((s.engine.live.bind (·.returnPhase)).map Phase.code)
    ++ le32 ((s.engine.live.map (·.active)).getD 0) ++ le32 s.engine.runClock
    ++ le16 s.plan.revision ++ byte s.plan.steps.length

/-- R197, bytes 20 to 32: the scale. -/
def scaleBytes (s : State) : List Byte :=
  sle32 s.scale.net ++ sle32 s.scale.gross ++ byte s.scale.status.code
    ++ byte (bit 0 s.scale.stable + bit 1 s.scale.lastSeq.isSome) ++ byte s.scale.tare.length
    ++ le16 (s.scale.lastSeq.getD 0)

/-- R197, bytes 33 to 47: probes, heat and stirrer. DESIGN CHOICE (log entry 34): a negative SP10 is written in two's complement,
as TB10 and TC10 are. -/
def driveBytes (s : State) : List Byte :=
  sle16 s.conv.tb ++ sle16 s.conv.tc ++ byte (bit 0 s.conv.tbHeld + bit 1 s.conv.tcHeld) ++ byte s.heat.mode.code
    ++ sle16 (s.heat.sp.getD 0) ++ byte s.heat.frameW ++ byte s.heat.frameN ++ speedBytes s.stir.measured
    ++ le16 s.stir.applied ++ byte s.stir.drive.code

/-- R197, bytes 48 to 57: detectors, permit, store and notice counts. -/
def conditionBytes (s : State) : List Byte :=
  le16 s.mon.realTime.toNat ++ le16 s.mon.latchedSet.toNat ++ byte s.permit.state.code ++ byte s.store.op.code
    ++ indexByte s.store.op.slot ++ byte (bit 0 s.store.starting) ++ byte s.notices.panelQ.length
    ++ byte s.notices.linkQ.length

/-- R197: the 58 bytes of the status record. -/
def statusRecord (s : State) : List Byte := engineBytes s ++ scaleBytes s ++ driveBytes s ++ conditionBytes s

/-! ### Other reply bodies (R194) -/

/-- R194: READ_PLAN_HEADER. -/
def headerBody (s : State) : List Byte :=
  le16 s.plan.planId ++ le16 s.plan.revision ++ byte s.plan.steps.length ++ byte s.plan.origin.code
    ++ indexByte (if s.plan.origin = .store then s.plan.slot else none)

/-- R194: READ_CAL, the capture pending byte. -/
def captureCode : Option PendingCapture → Nat
  | none => 0
  | some c => match c.body with
    | .zero _ _ _ _ => 1
    | .span _ _ => 2

/-- R104, R194: READ_CAL. -/
def calBody (s : State) : List Byte :=
  sle32 s.scale.cal.zero ++ le16 s.scale.cal.span ++ sle16 s.scale.cal.drift ++ sle16 s.scale.cal.tcal
    ++ sbyte s.scale.cal.offB ++ sbyte s.scale.cal.offC ++ le16 s.scale.cal.calId ++ byte s.scale.status.code
    ++ byte (captureCode s.scale.pendingCapture) ++ byte s.scale.tare.length

/-- R164, R194: PERMIT. -/
def permitBody (p : Permit) : List Byte :=
  byte p.state.code ++ [p.key] ++ indexByte (p.lapse.map LapseReason.code)

/-- R194: one directory entry of LIB_INFO. -/
def DirEntry.bytes (e : DirEntry) : List Byte :=
  byte (bit 0 e.valid) ++ le16 e.planId ++ byte e.count ++ le16 e.saves ++ byte (bit 0 (wornFlag e.saves))

/-- R184, R194: LIB_INFO. DESIGN CHOICE (log entry 31): the calibration-area flag reads 1 for VALID, the operation in flight
is coded as in the status record, and the two revision bytes read 0 while the revision is absent. -/
def infoBody (st : Store) : List Byte :=
  (st.directory.map DirEntry.bytes).flatten ++ byte (bit 0 st.calValid) ++ byte st.op.code ++ indexByte st.op.slot
    ++ byte (bit 0 st.saveBuf.isSome) ++ le16 ((st.saveBuf.map (·.revision)).getD 0)

/-- R191: the bytes of a reply frame from the length through the body. -/
def Reply.content (r : Reply) : List Byte :=
  byte (4 + r.body.length) ++ [r.kind, r.tag] ++ byte r.result.code
    ++ byte (bit 0 r.overrun + bit 1 r.clamped) ++ r.body

/-- R191: a reply frame, its check byte last. -/
def Reply.frame (r : Reply) : List Byte := r.content ++ [0xFF - byteSum r.content]

end Sys2Proof.Machine
end

