-- ==== Sys2Proof/Machine/RequestOps.lean ====
section
/-! DEFINITION. How a port takes a request (R187, R189, R192, R193): by its request state, then by the four checks of the
port, then by its owner, whose answer is the reply. Every request command and every sound frame comes through here. -/

namespace Sys2Proof.Machine

/-- R192: the kind code of READ_STATUS, the one request served during start-up. -/
def statusKind : Byte := 0x01

/-- R192: the port's checks in order; none when all four pass. -/
def portCheck (p : Port) (kind : Byte) (len : Nat) (s : State) : Option Result :=
  if s.store.starting ∧ kind ≠ statusKind then some .starting
  else match kindRow kind with
    | none => some .unknownKind
    | some row =>
      if row.panelOnly ∧ p = .link then some .wrongPort
      else if len ≠ row.length then some .length
      else none

/-- R192: the owner's answer is the reply; a request answered later stays outstanding. -/
def conclude (p : Port) (kind tag : Byte) (served : Served) : State :=
  match served with
  | (s, some a) => formReply p kind tag a s
  | (s, none) => s

/-- R192: a sound frame passed on by its port is judged, and handed to its owner in the same event. -/
def judgeRequest (p : Port) (kind tag : Byte) (len : Nat) (owner : State → Served) (s : State) : State :=
  match portCheck p kind len s with
  | some r => formReply p kind tag (refuse r) s
  | none => conclude p kind tag (owner (holdRequest p kind tag s))

/-- R187, R189: a sound frame is taken by the request state: discarded with OVERRUN while a request is OUTSTANDING; a
waiting reply is discarded; otherwise it is passed on. -/
def takeRequest (p : Port) (kind tag : Byte) (len : Nat) (owner : State → Served) (s : State) : State :=
  match (s.port p).state with
  | .outstanding => discardFrame p s
  | .free => judgeRequest p kind tag len owner s
  | .replyReady => judgeRequest p kind tag len owner (dropReply p s)

end Sys2Proof.Machine
end

