-- ==== Sys2Proof/Machine/NoticeRequests.lean ====
section
/-! DEFINITION. The Notice Unit's requests (R197, R201, R203) and the uptime counter (R199). -/

namespace Sys2Proof.Machine

open Host (Outcome)

/-- The notice queue of a port. -/
def Notices.queue (n : Notices) (p : Port) : List NoticeRec :=
  match p with
  | .panel => n.panelQ
  | .link => n.linkQ

/-- `n` with the notice queue of a port. -/
def Notices.setQueue (n : Notices) (p : Port) (q : List NoticeRec) : Notices :=
  match p with
  | .panel => { n with panelQ := q }
  | .link => { n with linkQ := q }

/-- `n` with the mask of a port. -/
def Notices.setMask (n : Notices) (p : Port) (m : Word16) : Notices :=
  match p with
  | .panel => { n with panelMask := m }
  | .link => { n with linkMask := m }

/-- R197: READ_STATUS. -/
def serveReadStatus (s : State) : Served := (s, some (okWith (statusRecord s)))

/-- R203: TAKE_NOTICE. -/
def serveTakeNotice (p : Port) (s : State) : Served :=
  match s.notices.queue p with
  | [] => (s, some (okWith (noNotice ++ byte 0)))
  | r :: rest => (s.withNotices (s.notices.setQueue p rest), some (okWith (r.bytes ++ byte rest.length)))

/-- R201: SET_NOTICE_MASK. -/
def serveSetNoticeMask (p : Port) (mask : Word16) (s : State) : Served :=
  (s.withNotices (s.notices.setMask p mask), some (okWith (le16 mask.toNat)))

/-- READ_STATUS (R197). -/
def execReadStatus (dt : Nat) (p : Port) (tag : Byte) (s : State) : Outcome State Fault Refusal :=
  .next (takeRequest p 0x01 tag 0 serveReadStatus (s.after dt))

/-- TAKE_NOTICE (R203). -/
def execTakeNotice (dt : Nat) (p : Port) (tag : Byte) (s : State) : Outcome State Fault Refusal :=
  .next (takeRequest p 0x02 tag 0 (serveTakeNotice p) (s.after dt))

/-- SET_NOTICE_MASK (R201). -/
def execSetNoticeMask (dt : Nat) (p : Port) (tag : Byte) (mask : Word16) (s : State) : Outcome State Fault Refusal :=
  .next (takeRequest p 0x03 tag 2 (serveSetNoticeMask p mask) (s.after dt))

/-- R199: the uptime counter one second on; after 4,294,967,295 it becomes 0. -/
def uptimeAfter (n : Nat) : Nat := if n < 4294967295 then n + 1 else 0

/-- R199: the uptime counter rises. -/
def tickUptime (s : State) : State := s.withNotices { s.notices with uptime := uptimeAfter s.notices.uptime }

/-- UPTIME_TICK (R199). -/
def execUptimeTick (dt : Nat) (s : State) : Outcome State Fault Refusal := .next (tickUptime (s.after dt))

end Sys2Proof.Machine
end

