-- ==== Sys2Proof/Machine/PermitRequests.lean ====
section
/-! DEFINITION. The Drive Permit (R165 to R169) and CLEAR_LATCHED (R152). -/

namespace Sys2Proof.Machine

open Host (Outcome)

/-- R166: 1,000 ms in microseconds. -/
def renewalOpens : Nat := 1000000
/-- R169: 1,500 ms in microseconds. -/
def duePeriod : Nat := 1500000

/-- R166: the other of the two keys. -/
def otherKey (k : Byte) : Byte := if k = 0x5A then 0xA5 else 0x5A

/-- R164: what the renewal timer reads. -/
def renewalReading (now : Nat) (p : Permit) : Nat := now - p.renewal.getD now

/-- R165: the permit armed. -/
def armPermit (now : Nat) : Permit :=
  { state := .armed, key := 0xA5, renewal := some now, first := true, due := some (now + duePeriod), lapse := none }

/-- R166: a renewal accepted. -/
def renewPermit (now : Nat) (p : Permit) : Permit :=
  { p with key := otherKey p.key, renewal := some now, first := false, due := some (now + duePeriod) }

/-- R168: the permit as a lapse leaves it. -/
def lapsedPermit (reason : LapseReason) : Permit :=
  { state := .lapsed, key := 0x5A, renewal := none, first := false, due := none, lapse := some reason }

/-- R168: a lapse: the permit, PERMIT_LAPSED, and the report to the Step Engine. -/
def lapsePermit (reason : LapseReason) (s : State) : State :=
  takeLapse (post (.permitLapsed reason) (s.withPermit (lapsedPermit reason)))

/-- R166: why a PERMIT taken while ARMED lapses the permit, the key judged first; none when the renewal is accepted. -/
def renewalFault (now : Nat) (key : Byte) (p : Permit) : Option LapseReason :=
  if key ≠ p.key then some .wrongKey
  else if ¬p.first ∧ renewalReading now p < renewalOpens then some .early
  else none

/-- R194: the answer to PERMIT, whose body is the same with every result. -/
def permitAnswer (r : Result) (s : State) : Answer := { result := r, clamped := false, body := permitBody s.permit }

/-- R166: PERMIT taken while ARMED. -/
def serveRenewal (key : Byte) (s : State) : Served :=
  match renewalFault s.now key s.permit with
  | some reason =>
    let s := lapsePermit reason s
    (s, some (permitAnswer .noPermit s))
  | none =>
    let s := s.withPermit (renewPermit s.now s.permit)
    (s, some (permitAnswer .ok s))

/-- R165: PERMIT taken while UNARMED or LAPSED. -/
def serveArming (key : Byte) (s : State) : Served :=
  if key = 0x5A then
    let s := takeRearm (s.withPermit (armPermit s.now))
    (s, some (permitAnswer .ok s))
  else (s, some (permitAnswer .badKey s))

/-- R165, R166: PERMIT. -/
def servePermit (key : Byte) (s : State) : Served :=
  match s.permit.state with
  | .armed => serveRenewal key s
  | .unarmed => serveArming key s
  | .lapsed => serveArming key s

/-- R152: the latched flags of the named detectors that are CLEAR are cleared. -/
def clearLatched (set : DetSet) (m : Monitor) : Monitor :=
  allDetectors.foldl
    (fun m d => if DetSet.has set d ∧ ¬(m.get d).asserted then m.put d { m.get d with latched := false } else m) m

/-- R152: CLEAR_LATCHED. -/
def serveClearLatched (set : DetSet) (s : State) : Served :=
  if 2048 ≤ set.toNat then (s, some (refuse .range))
  else
    let s := s.withMon (clearLatched set s.mon)
    (s, some (okWith (le16 s.mon.latchedSet.toNat ++ le16 (set &&& s.mon.realTime).toNat)))

/-- PERMIT (R165, R166). -/
def execPermit (dt : Nat) (p : Port) (tag : Byte) (key : Byte) (s : State) : Outcome State Fault Refusal :=
  .next (takeRequest p 0x40 tag 1 (servePermit key) (s.after dt))

/-- CLEAR_LATCHED (R152). -/
def execClearLatched (dt : Nat) (p : Port) (tag : Byte) (set : Word16) (s : State) : Outcome State Fault Refusal :=
  .next (takeRequest p 0x41 tag 2 (serveClearLatched set) (s.after dt))

/-- R167: the renewal timer of an ARMED permit reaches 2,000 ms. -/
def expirePermit (s : State) : State := if s.permit.state = .armed then lapsePermit .expired s else s

/-- R169: the due timer of an ARMED permit expires. -/
def comeDue (s : State) : State :=
  match s.permit.due with
  | some _ => postPanel (.permitDue s.permit.key) (s.withPermit { s.permit with due := none })
  | none => s

/-- PERMIT_EXPIRY (R167). -/
def execPermitExpiry (dt : Nat) (s : State) : Outcome State Fault Refusal := .next (expirePermit (s.after dt))

/-- PERMIT_DUE_TIMER (R169). -/
def execPermitDueTimer (dt : Nat) (s : State) : Outcome State Fault Refusal := .next (comeDue (s.after dt))

end Sys2Proof.Machine
end

