-- ==== Sys2Proof/Machine/PlanRequests.lean ====
section
/-! DEFINITION. The seven plan requests (R13 to R20). Of each request, `serve…` is what the owner makes of it and
`exec…` the command: the request arriving on its port. -/

namespace Sys2Proof.Machine

open Host (Outcome)

/-- R13: READ_PLAN_HEADER. -/
def serveReadPlanHeader (s : State) : Served := (s, some (okWith (headerBody s)))

/-- R14: READ_STEP. -/
def serveReadStep (idx : Nat) (s : State) : Served :=
  match s.plan.steps[idx]? with
  | none => planRefused .noStep s
  | some r => (s, some (okWith (stepBody r s)))

/-- R15, R16: the answer to an accepted INSERT_STEP or REPLACE_STEP: CLAMPED when the stored record differs from the one
received (R9), with the stored record in the body. -/
def stepAccepted (received : StepRecord) (s : State) : Answer :=
  { result := .ok, clamped := decide (received.stored ≠ received), body := stepBody received.stored s }

/-- R15: INSERT_STEP. -/
def serveInsertStep (p : Port) (rev idx : Nat) (raw : RawStep) (s : State) : Served :=
  if s.loadInFlight then planRefused .busy s
  else if rev ≠ s.plan.revision then planRefused .stale s
  else if s.plan.steps.length < idx then planRefused .noStep s
  else if 48 ≤ s.plan.steps.length then planRefused .full s
  else if atOrBelowLive idx s then planRefused .frozen s
  else match acceptRaw raw with
    | none => planRefused .range s
    | some r =>
      let s := acceptEdit p s.plan.planId (insertAt idx r.stored s.plan.steps) s
      (s, some (stepAccepted r s))

/-- R16, R17: a replacement stored at an index, adopted by the engine when it is the live step's. -/
def replaceAt (p : Port) (idx : Nat) (old r : StepRecord) (s : State) : State :=
  let s' := acceptEdit p s.plan.planId (s.plan.steps.set idx r) s
  if isLiveIndex idx s then adoptStep old r s' else s'

/-- R16: REPLACE_STEP. -/
def serveReplaceStep (p : Port) (rev idx : Nat) (raw : RawStep) (s : State) : Served :=
  if s.loadInFlight then planRefused .busy s
  else if rev ≠ s.plan.revision then planRefused .stale s
  else match s.plan.steps[idx]? with
    | none => planRefused .noStep s
    | some old =>
      if belowLive idx s then planRefused .frozen s
      else match acceptRaw raw with
        | none => planRefused .range s
        | some r =>
          if isLiveIndex idx s ∧ r.kind ≠ old.kind then planRefused .frozen s
          else
            let s := replaceAt p idx old r.stored s
            (s, some (stepAccepted r s))

/-- R18: REMOVE_STEP. -/
def serveRemoveStep (p : Port) (rev idx : Nat) (s : State) : Served :=
  if s.loadInFlight then planRefused .busy s
  else if rev ≠ s.plan.revision then planRefused .stale s
  else if s.plan.steps.length ≤ idx then planRefused .noStep s
  else if atOrBelowLive idx s then planRefused .frozen s
  else
    let s := acceptEdit p s.plan.planId (removeAt idx s.plan.steps) s
    (s, some (okWith (planBody s)))

/-- R19: CLEAR_PLAN. -/
def serveClearPlan (p : Port) (rev : Nat) (s : State) : Served :=
  if s.loadInFlight then planRefused .busy s
  else if rev ≠ s.plan.revision then planRefused .stale s
  else if s.inRun then planRefused .wrongState s
  else
    let s := acceptEdit p 0 [] s
    (s, some (okWith (planBody s)))

/-- R20: SET_PLAN_ID. -/
def serveSetPlanId (p : Port) (rev planId : Nat) (s : State) : Served :=
  if s.loadInFlight then planRefused .busy s
  else if rev ≠ s.plan.revision then planRefused .stale s
  else
    let s := acceptEdit p planId s.plan.steps s
    (s, some (okWith (planBody s)))

/-- READ_PLAN_HEADER (R13). -/
def execReadPlanHeader (dt : Nat) (p : Port) (tag : Byte) (s : State) : Outcome State Fault Refusal :=
  .next (takeRequest p 0x10 tag 0 serveReadPlanHeader (s.after dt))

/-- READ_STEP (R14). -/
def execReadStep (dt : Nat) (p : Port) (tag : Byte) (idx : Nat) (s : State) : Outcome State Fault Refusal :=
  .next (takeRequest p 0x11 tag 1 (serveReadStep idx) (s.after dt))

/-- INSERT_STEP (R15). -/
def execInsertStep (dt : Nat) (p : Port) (tag : Byte) (rev idx : Nat) (raw : RawStep) (s : State) :
    Outcome State Fault Refusal :=
  .next (takeRequest p 0x12 tag 23 (serveInsertStep p rev idx raw) (s.after dt))

/-- REPLACE_STEP (R16, R17). -/
def execReplaceStep (dt : Nat) (p : Port) (tag : Byte) (rev idx : Nat) (raw : RawStep) (s : State) :
    Outcome State Fault Refusal :=
  .next (takeRequest p 0x13 tag 23 (serveReplaceStep p rev idx raw) (s.after dt))

/-- REMOVE_STEP (R18). -/
def execRemoveStep (dt : Nat) (p : Port) (tag : Byte) (rev idx : Nat) (s : State) : Outcome State Fault Refusal :=
  .next (takeRequest p 0x14 tag 3 (serveRemoveStep p rev idx) (s.after dt))

/-- CLEAR_PLAN (R19). -/
def execClearPlan (dt : Nat) (p : Port) (tag : Byte) (rev : Nat) (s : State) : Outcome State Fault Refusal :=
  .next (takeRequest p 0x15 tag 2 (serveClearPlan p rev) (s.after dt))

/-- SET_PLAN_ID (R20). -/
def execSetPlanId (dt : Nat) (p : Port) (tag : Byte) (rev planId : Nat) (s : State) : Outcome State Fault Refusal :=
  .next (takeRequest p 0x16 tag 4 (serveSetPlanId p rev planId) (s.after dt))

end Sys2Proof.Machine
end

