-- ==== Sys2Proof/Machine/RunRequests.lean ====
section
/-! DEFINITION. The run requests (R38, R44, R47 to R50, R53, R60). -/

namespace Sys2Proof.Machine

open Host (Outcome)

/-- A request refused with an empty body. -/
def refused (r : Result) (s : State) : Served := (s, some (refuse r))

/-- A request accepted with an empty body. -/
def accepted (s : State) : Served := (s, some (okWith []))

/-- R50, R101: what an accepted START_RUN does: a pending capture is aborted as the engine leaves IDLE or ENDED, the run's
records are emptied, the engine is RUNNING, and the start step is entered (log entry 17 for the index in ENGINE_STATE). -/
def beginRun (idx : Nat) (r : StepRecord) (s : State) : State :=
  let s := endCapture .aborted s
  let s := s.withEngine { s.engine with
    state := .running, live := none, causes := CauseSet.none, trips := 0, firstTrip := none, endReason := none,
    runClock := 0, log := [] }
  let s := enterStep idx r (post (.engineState .running (some idx) 0) s)
  if s.isRunning then settleOutcome (comeIn s) else s

/-- R50: START_RUN. -/
def serveStartRun (rev idx : Nat) (s : State) : Served :=
  if s.inRun then refused .wrongState s
  else if s.loadInFlight then refused .busy s
  else if rev ≠ s.plan.revision then refused .stale s
  else match s.plan.steps[idx]? with
    | none => refused .range s
    | some r =>
      if s.permit.state ≠ .armed then refused .noPermit s
      else if s.asserts .lidOpen then refused .lidOpen s
      else if s.asserts .bowlAbsent then refused .noBowl s
      else if tripAsserted (decide (r.heatMode ≠ .off)) s then refused .causePresent s
      else
        let s := beginRun idx r s
        (s, some (okWith (le16 s.plan.revision ++ indexByte s.liveIndex)))

/-- R44: PAUSE. -/
def servePause (s : State) : Served :=
  match s.engine.state with
  | .running => accepted (enterPaused { request := true, lid := false, permit := false } s)
  | .paused => accepted s
  | .idle => refused .wrongState s
  | .tripped => refused .wrongState s
  | .ended => refused .wrongState s

/-- R47: the phase a paused step goes back to: through LOCKING, but for WAIT_CONFIRM. -/
def resumePhase (l : Live) : Live :=
  match l.phase with
  | .locking => l
  | .waitConfirm => l
  | .approach => { l with phase := .locking, returnPhase := some .approach }
  | .dwell => { l with phase := .locking, returnPhase := some .dwell }
  | .settle => { l with phase := .locking, returnPhase := some .settle }
  | .dosing => { l with phase := .locking, returnPhase := some .dosing }

/-- R47, R111: what an accepted RESUME does: RUNNING with no cause, the ramp countdown running on, the step sent back
through LOCKING where its phase requires. -/
def resumeRun (s : State) : State :=
  let s := s.withEngine { s.engine with
    state := .running, causes := CauseSet.none, live := s.engine.live.map resumePhase }
  let s := s.withHeat { s.heat with countdown := thawCountdown s.now s.heat.countdown }
  let s := postEngineState (syncWish (syncHold s))
  settleOutcome (comeIn s)

/-- R47: RESUME. -/
def serveResume (s : State) : Served :=
  if s.engine.state ≠ .paused then refused .wrongState s
  else if s.engine.causes ≠ { request := true, lid := false, permit := false } then refused .causePresent s
  else if s.asserts .bowlAbsent then refused .noBowl s
  else if tripAsserted s.liveHeated s then refused .causePresent s
  else accepted (resumeRun s)

/-- R49: ABORT. -/
def serveAbort (s : State) : Served :=
  if s.inRun then accepted (enterEnded .aborted (closeStep .aborted s)) else refused .wrongState s

/-- R48: SKIP_STEP. -/
def serveSkipStep (idx : Nat) (s : State) : Served :=
  if s.engine.state ≠ .running ∧ s.engine.state ≠ .paused then refused .wrongState s
  else if s.liveIndex ≠ some idx then refused .wrongStep s
  else accepted (endStep .skipped s)

/-- R38, check 4: CONFIRM is in the exit set, or the step has fallen back. -/
def takesConfirm (s : State) : Bool :=
  (match s.liveRecord with
    | some r => r.exits.confirm
    | none => false)
  || (match s.engine.live with
    | some l => l.fallenBack
    | none => false)

/-- R38: CONFIRM. -/
def serveConfirm (idx : Nat) (s : State) : Served :=
  if s.engine.state ≠ .running then refused .wrongState s
  else if s.liveIndex ≠ some idx then refused .wrongStep s
  else if s.phase = some .locking then refused .wrongState s
  else if takesConfirm s then accepted (endStep .confirm s)
  else refused .wrongState s

/-- R53: the cause set CLEAR_TRIP leaves. -/
def clearedCauses (s : State) : CauseSet :=
  { request := true, lid := s.asserts .lidOpen, permit := decide (s.permit.state ≠ .armed) }

/-- R53: CLEAR_TRIP. -/
def serveClearTrip (s : State) : Served :=
  if s.engine.state ≠ .tripped then refused .wrongState s
  else if s.engine.trips &&& s.mon.realTime ≠ 0 then refused .causePresent s
  else accepted (enterPaused (clearedCauses s) s)

/-- R60: READ_RUN_LOG. -/
def serveReadRunLog (pos : Nat) (s : State) : Served :=
  match s.engine.log[pos]? with
  | none => (s, some { result := .noStep, clamped := false, body := byte s.engine.log.length })
  | some e => (s, some (okWith (byte s.engine.log.length ++ e.bytes)))

/-- START_RUN (R50). -/
def execStartRun (dt : Nat) (p : Port) (tag : Byte) (rev idx : Nat) (s : State) : Outcome State Fault Refusal :=
  .next (takeRequest p 0x20 tag 3 (serveStartRun rev idx) (s.after dt))

/-- PAUSE (R44). -/
def execPause (dt : Nat) (p : Port) (tag : Byte) (s : State) : Outcome State Fault Refusal :=
  .next (takeRequest p 0x21 tag 0 servePause (s.after dt))

/-- RESUME (R47). -/
def execResume (dt : Nat) (p : Port) (tag : Byte) (s : State) : Outcome State Fault Refusal :=
  .next (takeRequest p 0x22 tag 0 serveResume (s.after dt))

/-- ABORT (R49). -/
def execAbort (dt : Nat) (p : Port) (tag : Byte) (s : State) : Outcome State Fault Refusal :=
  .next (takeRequest p 0x23 tag 0 serveAbort (s.after dt))

/-- SKIP_STEP (R48). -/
def execSkipStep (dt : Nat) (p : Port) (tag : Byte) (idx : Nat) (s : State) : Outcome State Fault Refusal :=
  .next (takeRequest p 0x24 tag 1 (serveSkipStep idx) (s.after dt))

/-- CONFIRM (R38). -/
def execConfirm (dt : Nat) (p : Port) (tag : Byte) (idx : Nat) (s : State) : Outcome State Fault Refusal :=
  .next (takeRequest p 0x25 tag 1 (serveConfirm idx) (s.after dt))

/-- CLEAR_TRIP (R53). -/
def execClearTrip (dt : Nat) (p : Port) (tag : Byte) (s : State) : Outcome State Fault Refusal :=
  .next (takeRequest p 0x26 tag 0 serveClearTrip (s.after dt))

/-- READ_RUN_LOG (R60). -/
def execReadRunLog (dt : Nat) (p : Port) (tag : Byte) (pos : Nat) (s : State) : Outcome State Fault Refusal :=
  .next (takeRequest p 0x27 tag 1 (serveReadRunLog pos) (s.after dt))

end Sys2Proof.Machine
end

