-- ==== Sys2Proof/Machine/ScaleRequests.lean ====
section
/-! DEFINITION. The scale requests (R88, R90, R93, R94, R100, R104) and the two deadlines of the Scale Unit (R91, R101). -/

namespace Sys2Proof.Machine

open Host (Outcome)

/-- Whether a tare or a capture is pending. -/
def scaleBusy (sc : Scale) : Bool := sc.pendingTare.isSome || sc.pendingCapture.isSome

/-- R90: 3 s in microseconds. -/
def tarePeriod : Nat := 3000000

/-- R100: 5 s in microseconds. -/
def capturePeriod : Nat := 5000000

/-- R90: TARE_PUSH; when accepted, no reply is sent yet. -/
def serveTarePush (p : Port) (s : State) : Served :=
  if s.scale.status = .uncalibrated then (s, some (refuse .wrongState))
  else if scaleBusy s.scale then (s, some (refuse .busy))
  else if 4 ≤ s.scale.tare.length then (s, some (refuse .full))
  else (s.withScale { s.scale with pendingTare := some { port := p, deadline := s.now + tarePeriod } }, none)

/-- R93: TARE_POP. -/
def serveTarePop (p : Port) (s : State) : Served :=
  if scaleBusy s.scale then (s, some (refuse .busy))
  else if s.scale.tare = [] then (s, some (refuse .range))
  else
    let s := postTareChanged .pop (some p) (s.withScale (formNet { s.scale with tare := s.scale.tare.drop 1 }))
    (s, some (okWith (byte s.scale.tare.length ++ sle32 (s.scale.tare.headD 0))))

/-- R94: TARE_CLEAR. -/
def serveTareClear (p : Port) (s : State) : Served :=
  if scaleBusy s.scale then (s, some (refuse .busy))
  else
    let s := postTareChanged .clear (some p) (s.withScale (formNet { s.scale with tare := [] }))
    (s, some (okWith (byte s.scale.tare.length)))

/-- R88: RESTART_SCALE. -/
def serveRestartScale (s : State) : Served :=
  let old := s.scale.status
  let s := s.withScale (restartScale s.scale)
  let s := endCapture .aborted (endTare .aborted s)
  let s := if s.scale.status = old then s else postScaleEvent s
  (s, some (okWith []))

/-- R100: the fields of a CAL_ZERO lie in range. -/
def zeroInRange (calId : Nat) (drift offB offC : Int) : Bool :=
  decide (calId ≤ 65535) && decide (-500 ≤ drift ∧ drift ≤ 500) && decide (-50 ≤ offB ∧ offB ≤ 50)
    && decide (-50 ≤ offC ∧ offC ≤ 50)

/-- R100: the fields of a CAL_SPAN lie in range. -/
def spanInRange (known calId : Nat) : Bool :=
  decide (1000 ≤ known ∧ known ≤ 100000) && decide (calId ≤ 65535)

/-- R100: the checks of a capture in order, and the capture made pending; no reply is sent yet. -/
def beginCapture (body : CaptureBody) (inRange : Bool) (s : State) : Served :=
  if s.inRun then (s, some (refuse .wrongState))
  else if scaleBusy s.scale then (s, some (refuse .busy))
  else if !inRange then (s, some (refuse .range))
  else if s.stir.measured ≠ 0 then (s, some (refuse .unstable))
  else (s.withScale { s.scale with
    pendingCapture := some { body := body, sum := 0, count := 0, deadline := s.now + capturePeriod } }, none)

/-- R100: CAL_ZERO. -/
def serveCalZero (calId : Nat) (drift offB offC : Int) (s : State) : Served :=
  beginCapture (.zero calId drift offB offC) (zeroInRange calId drift offB offC) s

/-- R100: CAL_SPAN. -/
def serveCalSpan (known calId : Nat) (s : State) : Served :=
  beginCapture (.span known calId) (spanInRange known calId) s

/-- R104: READ_CAL. -/
def serveReadCal (s : State) : Served := (s, some (okWith (calBody s)))

/-- TARE_PUSH (R90). -/
def execTarePush (dt : Nat) (p : Port) (tag : Byte) (s : State) : Outcome State Fault Refusal :=
  .next (takeRequest p 0x30 tag 0 (serveTarePush p) (s.after dt))

/-- TARE_POP (R93). -/
def execTarePop (dt : Nat) (p : Port) (tag : Byte) (s : State) : Outcome State Fault Refusal :=
  .next (takeRequest p 0x31 tag 0 (serveTarePop p) (s.after dt))

/-- TARE_CLEAR (R94). -/
def execTareClear (dt : Nat) (p : Port) (tag : Byte) (s : State) : Outcome State Fault Refusal :=
  .next (takeRequest p 0x32 tag 0 (serveTareClear p) (s.after dt))

/-- RESTART_SCALE (R88). -/
def execRestartScale (dt : Nat) (p : Port) (tag : Byte) (s : State) : Outcome State Fault Refusal :=
  .next (takeRequest p 0x33 tag 0 serveRestartScale (s.after dt))

/-- CAL_ZERO (R100). -/
def execCalZero (dt : Nat) (p : Port) (tag : Byte) (calId : Nat) (drift offB offC : Int) (s : State) :
    Outcome State Fault Refusal :=
  .next (takeRequest p 0x34 tag 6 (serveCalZero calId drift offB offC) (s.after dt))

/-- CAL_SPAN (R100). -/
def execCalSpan (dt : Nat) (p : Port) (tag : Byte) (known calId : Nat) (s : State) : Outcome State Fault Refusal :=
  .next (takeRequest p 0x35 tag 6 (serveCalSpan known calId) (s.after dt))

/-- READ_CAL (R104). -/
def execReadCal (dt : Nat) (p : Port) (tag : Byte) (s : State) : Outcome State Fault Refusal :=
  .next (takeRequest p 0x36 tag 0 serveReadCal (s.after dt))

/-- TARE_DEADLINE (R91): a tare still pending is answered UNSTABLE. -/
def execTareDeadline (dt : Nat) (s : State) : Outcome State Fault Refusal :=
  .next (endTare .unstable (s.after dt))

/-- CAPTURE_DEADLINE (R101): a capture still pending ends with UNSTABLE. -/
def execCaptureDeadline (dt : Nat) (s : State) : Outcome State Fault Refusal :=
  .next (endCapture .unstable (s.after dt))

end Sys2Proof.Machine
end

