-- ==== Sys2Proof/Machine/StoreRequests.lean ====
section
/-! DEFINITION. The library requests (R177, R180, R182 to R184) and the ends of the store's work (R173, R176, R181). -/

namespace Sys2Proof.Machine

open Host (Outcome)

/-- R174: whether an operation is in flight. -/
def storeBusy (st : Store) : Bool := decide (st.op ≠ .idle)

/-- R177: the snapshot of the working plan. -/
def snapshotOf (pl : Plan) : Snapshot :=
  { planId := pl.planId, revision := pl.revision, origin := pl.origin, steps := pl.steps }

/-- R177: LIB_SAVE. -/
def serveLibSave (slot : Nat) (s : State) : Served :=
  if 7 < slot then (s, some (refuse .range))
  else if storeBusy s.store then (s, some (refuse .busy))
  else if wornFlag (s.store.entry slot).saves then (s, some (refuse .worn))
  else
    let x := snapshotOf s.plan
    (s.withStore { s.store with op := .save slot (saveWrites slot (s.store.entry slot).saves x), saveBuf := some x },
     some (okWith (byte slot ++ le16 x.revision ++ byte x.steps.length)))

/-- R180: LIB_LOAD. -/
def serveLibLoad (slot : Nat) (s : State) : Served :=
  if 7 < slot then (s, some (refuse .range))
  else if s.inRun then (s, some (refuse .wrongState))
  else if storeBusy s.store then (s, some (refuse .busy))
  else if (s.store.entry slot).valid = false then (s, some (refuse .emptySlot))
  else (s.withStore { s.store with op := .load slot }, some (okWith (byte slot)))

/-- R182: LIB_ERASE. -/
def serveLibErase (slot : Nat) (s : State) : Served :=
  if 7 < slot then (s, some (refuse .range))
  else if storeBusy s.store then (s, some (refuse .busy))
  else
    let st := s.store.setEntry slot (s.store.entry slot).invalid
    (s.withStore { st with op := .erase slot (eraseWrites slot) }, some (okWith (byte slot)))

/-- R184: LIB_INFO. -/
def serveLibInfo (s : State) : Served := (s, some (okWith (infoBody s.store)))

/-- R183: LIB_WRITE_CAL. -/
def serveLibWriteCal (s : State) : Served :=
  if s.inRun then (s, some (refuse .wrongState))
  else if storeBusy s.store then (s, some (refuse .busy))
  else
    let c := s.scale.cal
    (s.withStore { s.store with op := .writeCal (calWrites c), calCopy := some c, calValid := false },
     some (okWith (le16 c.calId)))

/-- LIB_SAVE (R177). -/
def execLibSave (dt : Nat) (p : Port) (tag : Byte) (slot : Nat) (s : State) : Outcome State Fault Refusal :=
  .next (takeRequest p 0x50 tag 1 (serveLibSave slot) (s.after dt))

/-- LIB_LOAD (R180). -/
def execLibLoad (dt : Nat) (p : Port) (tag : Byte) (slot : Nat) (s : State) : Outcome State Fault Refusal :=
  .next (takeRequest p 0x51 tag 1 (serveLibLoad slot) (s.after dt))

/-- LIB_ERASE (R182). -/
def execLibErase (dt : Nat) (p : Port) (tag : Byte) (slot : Nat) (s : State) : Outcome State Fault Refusal :=
  .next (takeRequest p 0x52 tag 1 (serveLibErase slot) (s.after dt))

/-- LIB_INFO (R184). -/
def execLibInfo (dt : Nat) (p : Port) (tag : Byte) (s : State) : Outcome State Fault Refusal :=
  .next (takeRequest p 0x53 tag 0 serveLibInfo (s.after dt))

/-- LIB_WRITE_CAL (R183). -/
def execLibWriteCal (dt : Nat) (p : Port) (tag : Byte) (s : State) : Outcome State Fault Refusal :=
  .next (takeRequest p 0x54 tag 0 serveLibWriteCal (s.after dt))

/-- R97: the calibration the Scale Unit takes at the end of the scan. -/
def offeredCalibration (m : Memory) : Calibration :=
  if calRecordValid m ∧ (storedCalibration m).inRange then storedCalibration m else Calibration.default

/-- R176: the end of the start-up scan. -/
def endScan (s : State) : State :=
  match s.store.op with
  | .scan =>
    let m := s.store.array
    let s := s.withStore { s.store with
      directory := (List.range 8).map (scanEntry m), calValid := calRecordValid m, op := .idle, starting := false }
    changeCalibration (offeredCalibration m) s
  | .idle => s
  | .save _ _ => s
  | .load _ => s
  | .erase _ _ => s
  | .writeCal _ => s

/-- R22, R181: a load that passes every test replaces the working plan in one event. -/
def replacePlan (slot planId : Nat) (steps : List StepRecord) (s : State) : State :=
  postPlanChanged (s.withPlan
    { planId := planId, revision := nextRevision s.plan.revision, steps := steps, origin := .store, slot := some slot })

/-- R181: the LOAD finishes reading its slot and judges the image. -/
def endLoad (s : State) : State :=
  match s.store.op with
  | .load slot =>
    match judgeImage s.store.array slot with
    | (.ok, planId, steps) =>
      let s := replacePlan slot planId steps s
      endOperation .load (some slot) .ok (some s.plan.revision) s
    | (r, _, _) => endOperation .load (some slot) r none s
  | .idle => s
  | .scan => s
  | .save _ _ => s
  | .erase _ _ => s
  | .writeCal _ => s

/-- SCAN_END (R176). -/
def execScanEnd (dt : Nat) (s : State) : Outcome State Fault Refusal := .next (endScan (s.after dt))

/-- WORD_WRITE_END (R173). -/
def execWordWriteEnd (dt : Nat) (first second : Word16) (s : State) : Outcome State Fault Refusal :=
  .next (endWordWrite first second (s.after dt))

/-- LOAD_READ_END (R181). -/
def execLoadReadEnd (dt : Nat) (s : State) : Outcome State Fault Refusal := .next (endLoad (s.after dt))

end Sys2Proof.Machine
end

