-- ==== Sys2Proof/Machine/PortEvents.lean ====
section
/-! DEFINITION. The ports' events: select periods of the Panel Port (R187, R188), the Link Port's receiver (R189) and its
transmitter (R190), and the owners that frames are handed to (R192, R194). -/

namespace Sys2Proof.Machine

open Host (Outcome)

/-- R192, R194: the owner of a request serves it. -/
def serveRequest (p : Port) (r : Request) (s : State) : Served :=
  match r with
  | .readStatus => serveReadStatus s
  | .takeNotice => serveTakeNotice p s
  | .setNoticeMask mask => serveSetNoticeMask p mask s
  | .readPlanHeader => serveReadPlanHeader s
  | .readStep idx => serveReadStep idx s
  | .insertStep rev idx raw => serveInsertStep p rev idx raw s
  | .replaceStep rev idx raw => serveReplaceStep p rev idx raw s
  | .removeStep rev idx => serveRemoveStep p rev idx s
  | .clearPlan rev => serveClearPlan p rev s
  | .setPlanId rev planId => serveSetPlanId p rev planId s
  | .startRun rev idx => serveStartRun rev idx s
  | .pause => servePause s
  | .resume => serveResume s
  | .abort => serveAbort s
  | .skipStep idx => serveSkipStep idx s
  | .confirm idx => serveConfirm idx s
  | .clearTrip => serveClearTrip s
  | .readRunLog pos => serveReadRunLog pos s
  | .tarePush => serveTarePush p s
  | .tarePop => serveTarePop p s
  | .tareClear => serveTareClear p s
  | .restartScale => serveRestartScale s
  | .calZero calId drift offB offC => serveCalZero calId drift offB offC s
  | .calSpan known calId => serveCalSpan known calId s
  | .readCal => serveReadCal s
  | .permit key => servePermit key s
  | .clearLatched set => serveClearLatched set s
  | .libSave slot => serveLibSave slot s
  | .libLoad slot => serveLibLoad slot s
  | .libErase slot => serveLibErase slot s
  | .libInfo => serveLibInfo s
  | .libWriteCal => serveLibWriteCal s

/-- R192: the owner of the request that a kind and a body spell. The port has judged the length before. -/
def serveFrame (p : Port) (kind : Byte) (body : List Byte) (s : State) : Served :=
  match requestOf kind body with
  | some r => serveRequest p r s
  | none => (s, some (refuse .length))

/-- R191: a frame is sound when the bytes from its length to its check sum to 0xFF. -/
def soundFrame (frame : List Byte) : Bool := decide (byteSum frame = 0xFF)

/-- R191: the kind, tag and body of a frame, given from its length byte to its check byte. -/
def frameBody (frame : List Byte) : List Byte := (frame.drop 3).take (frame.length - 4)

/-- R187, R189: a sound frame, given from its length byte to its check byte, is taken by its port. -/
def takeFrame (p : Port) (frame : List Byte) (s : State) : State :=
  let kind := frame.getD 1 0
  let body := frameBody frame
  takeRequest p kind (frame.getD 2 0) body.length (serveFrame p kind body) s

/-! ### The Panel Port -/

/-- R187: the request frame among the bytes of a select period, or none where it is damaged. Bytes after the check byte
are ignored. -/
def panelFrame (bytes : List Byte) : Option (List Byte) :=
  let n := (bytes.headD 0).toNat
  if n < 2 ∨ 122 < n ∨ bytes.length < n + 2 then none
  else if soundFrame (bytes.take (n + 2)) then some (bytes.take (n + 2)) else none

/-- R187: a damaged frame is answered FRAME_CHECK, or discarded while a request is OUTSTANDING. DESIGN CHOICE (log entry 35): the
two bytes after the length byte are the kind and the tag received, whatever the length byte says, 0 and 1 too. -/
def takeDamaged (bytes : List Byte) (s : State) : State :=
  match s.panel.state with
  | .outstanding => discardFrame .panel s
  | .free => formReply .panel (bytes.getD 1 0) (bytes.getD 2 0) (refuse .frameCheck) s
  | .replyReady => formReply .panel (bytes.getD 1 0) (bytes.getD 2 0) (refuse .frameCheck) (dropReply .panel s)

/-- R187: a select period beginning 0x01 ends; PSDO shifted out 0x00. -/
def panelRequest (bytes : List Byte) (s : State) : State :=
  let s := s.withPsdo (List.replicate bytes.length 0)
  match panelFrame bytes with
  | some frame => takeFrame .panel frame s
  | none => takeDamaged bytes s

/-- R188: `n` bytes shifted out of a reply frame, followed by 0x00. -/
def shiftOut (frame : List Byte) (n : Nat) : List Byte :=
  frame.take n ++ List.replicate (n - frame.length) 0

/-- R188: a select period beginning 0x02 reads the reply; it is taken once the whole frame has been shifted out. -/
def panelRead (clocked : Nat) (s : State) : State :=
  match s.panel.state, s.panel.reply with
  | .replyReady, some r =>
    let s := s.withPsdo (shiftOut r.frame clocked)
    if r.frame.length ≤ clocked then s.withPanel { s.panel with state := .free, reply := none } else s
  | _, _ => s.withPsdo (List.replicate clocked 0)

/-! ### The Link Port -/

/-- R189: the sync byte. -/
def syncByte : Byte := 0xA5

/-- R189: a complete frame: a failed check discards it without a reply, a sound one is taken by the request state. -/
def linkComplete (frame : List Byte) (s : State) : State :=
  if soundFrame frame then takeFrame .link frame s else s

/-- R189: the receiver after a byte on LRXD, and the frame that the byte completes, from its length byte to its check
byte. -/
def LinkRx.take (b : Byte) : LinkRx → LinkRx × Option (List Byte)
  | .hunt => (if b = syncByte then .receiving [] else .hunt, none)
  | .receiving [] =>
    (if b = syncByte then .receiving [] else if b.toNat < 2 ∨ 122 < b.toNat then .hunt else .receiving [b], none)
  | .receiving (n :: got) =>
    let frame := n :: got ++ [b]
    if n.toNat + 2 ≤ frame.length then (.hunt, some frame) else (.receiving frame, none)

/-- R189: one byte arrives on LRXD; a frame that it completes is taken. -/
def linkByte (b : Byte) (s : State) : State :=
  match s.rx.take b with
  | (rx, some frame) => linkComplete frame (s.withRx rx)
  | (rx, none) => s.withRx rx

/-- R189: bytes that arrive one after another. -/
def linkBytes (bytes : List Byte) (s : State) : State := bytes.foldl (fun s b => linkByte b s) s

/-- R189: a frame in progress is abandoned. -/
def abandonFrame (s : State) : State := s.withRx .hunt

/-- R190: the last byte of a reply has been sent, and the Link Port is FREE. -/
def linkSent (s : State) : State :=
  match s.link.reply with
  | some _ => s.withLink { s.link with state := .free, buffer := none, reply := none }
  | none => s

/-- PANEL_REQUEST_FRAME (R187). -/
def execPanelRequestFrame (dt : Nat) (bytes : List Byte) (s : State) : Outcome State Fault Refusal :=
  .next (panelRequest bytes (s.after dt))

/-- PANEL_REPLY_READ (R188). -/
def execPanelReplyRead (dt : Nat) (clocked : Nat) (s : State) : Outcome State Fault Refusal :=
  .next (panelRead clocked (s.after dt))

/-- LINK_FRAME_COMPLETE (R189): the bytes up to a frame's check byte (log entry 18). -/
def execLinkFrameComplete (dt : Nat) (bytes : List Byte) (s : State) : Outcome State Fault Refusal :=
  .next (linkBytes bytes (s.after dt))

/-- LINK_BYTE_GAP_TIMEOUT (R189). -/
def execLinkByteGapTimeout (dt : Nat) (s : State) : Outcome State Fault Refusal := .next (abandonFrame (s.after dt))

/-- LINK_STOP_BIT_MISSING (R189). -/
def execLinkStopBitMissing (dt : Nat) (s : State) : Outcome State Fault Refusal :=
  .next ((s.after dt).withRx .hunt)

/-- LINK_REPLY_SENT (R190). -/
def execLinkReplySent (dt : Nat) (s : State) : Outcome State Fault Refusal := .next (linkSent (s.after dt))

/-- LINK_BYTE_RECEIVED (R189). -/
def execLinkByteReceived (dt : Nat) (b : Byte) (s : State) : Outcome State Fault Refusal :=
  .next (linkByte b (s.after dt))

end Sys2Proof.Machine
end

