-- ==== Sys2Proof/Machine/Reset.lean ====
section
/-! DEFINITION. RESET (R24 and the reset values of every chapter): every block at its reset values, the nonvolatile array
kept (R170, R185). -/

namespace Sys2Proof.Machine

open Host (Outcome)

/-- The part after a reset: the reset values, about the array as the reset leaves it. The commands that wait are the
outside's and stay (log entry 4). -/
def resetState (s : State) : State :=
  { State.reset with
    pending := s.pending, free := s.free + 1, store := Store.reset (arrayAfterReset s.free s.store) }

/-- RESET (R24). -/
def execReset (s : State) : Outcome State Fault Refusal := .next (resetState s)

end Sys2Proof.Machine
end

