-- ==== Sys2Proof/Machine/StirEvents.lean ====
section
/-! DEFINITION. The Stir Unit's events: the tach edge (R132), the no-edge timeout (R134) and the control update (R139). -/

namespace Sys2Proof.Machine

open Host (Outcome)

/-- R132, R134: 250 ms in microseconds. -/
def noEdgePeriod : Nat := 250000

/-- R132, steps 1 to 4: the Stir Unit after an edge at time `now`. -/
def edgeStir (now : Nat) (st : Stir) : Stir :=
  { st with ring := ringAfterEdge now st, lastEdge := some now, noEdge := some (now + noEdgePeriod), stopped := false,
            measured := speedOf (ringAfterEdge now st) }

/-- R132: a tach edge. -/
def tachEdge (s : State) : State :=
  let old := s.stir.measured
  let s := tellStopped false (s.withStir (edgeStir s.now s.stir))
  s.withConv (takeEdge s.now old s.stir.measured s.conv)

/-- R134: the Stir Unit after the no-edge timer expires. -/
def standStir (st : Stir) : Stir :=
  { st with ring := [], lastEdge := none, noEdge := none, stopped := true, measured := 0 }

/-- R134: the no-edge timer expires. -/
def noEdgeTimeout (s : State) : State :=
  match s.stir.noEdge with
  | some _ =>
    let old := s.stir.measured
    let s := s.withStir (standStir s.stir)
    let s := if old = 0 then s else s.withConv (takeSpeed s.now 0 s.conv)
    tellStopped true s
  | none => s

/-- R137: whether the engine is RUNNING in a phase in which the pattern clock counts and the blade is driven (R140). -/
def stirWorking (s : State) : Bool :=
  s.isRunning && (match s.phase with
    | some .approach => true
    | some .dwell => true
    | some .settle => true
    | some .dosing => true
    | some .locking => false
    | some .waitConfirm => false
    | none => false)

/-- R140: whether the live step is a DOSE step. -/
def liveIsDose (s : State) : Bool :=
  match s.engine.live with
  | some l => decide (l.kind = .dose)
  | none => false

/-- R128: 10 ms in microseconds. -/
def controlPeriod : Nat := 10000

/-- R139, parts 1 and 2. -/
def updatePattern (s : State) : State :=
  s.withStir (patternClock (stirWorking s) (endWait s.stir))

/-- R139, part 3, and R141: the applied setpoint, with SPEED_CAPPED at the first capping of a step. -/
def updateApplied (s : State) : State :=
  let st := s.stir
  let applied := appliedSetpoint (stirWorking s) (liveIsDose s) st
  let s := s.withStir { st with applied := applied }
  if stirDriven (stirWorking s) st ∧ ¬st.capped then
    match governingCap (liveIsDose s) st, s.liveIndex with
    | some (cap, limit), some idx =>
      post (.speedCapped idx cap st.speed limit) (s.withStir { s.stir with capped := true })
    | _, _ => s
  else s

/-- R139, parts 4 and 5, and R131. -/
def updateDrive (s : State) : State :=
  let st := { s.stir with ramped := rampSetpoint (decide (s.engine.state = .tripped)) s.stir }
  s.withStir (formDrive st)

/-- R144: whether the latest IM is ABOVE; none counts as not ABOVE. -/
def highCurrent (st : Stir) : Bool :=
  match st.im with
  | some (_, b) => decide (b = .above)
  | none => false

/-- R139, part 6, and R144: the shortfall verdict and the handover to STALL. -/
def updateStall (s : State) : State :=
  let v := shortfallVerdict s.stir.ramped s.stir.measured
  let s := s.withStir { s.stir with shortfall := v, controlTimer := s.now + controlPeriod }
  stallHandover v (highCurrent s.stir) s

/-- R139: one control update. -/
def controlUpdate (s : State) : State := updateStall (updateDrive (updateApplied (updatePattern s)))

/-- TACH_EDGE (R132). -/
def execTachEdge (dt : Nat) (s : State) : Outcome State Fault Refusal := .next (tachEdge (s.after dt))

/-- NO_EDGE_TIMEOUT (R134). -/
def execNoEdgeTimeout (dt : Nat) (s : State) : Outcome State Fault Refusal := .next (noEdgeTimeout (s.after dt))

/-- CONTROL_UPDATE (R139). -/
def execControlUpdate (dt : Nat) (s : State) : Outcome State Fault Refusal := .next (controlUpdate (s.after dt))

end Sys2Proof.Machine
end

