-- ==== Sys2Proof/Machine/Dispatch.lean ====
section
/-! DEFINITION. The dispatch: one arm for each constructor of `Instr`, each one call of the command's meaning. -/

namespace Sys2Proof.Machine

def exec (i : Instr) (s : State) : Host.Outcome State Fault Refusal :=
  match i with
  | .reset => Sys2Proof.Machine.execReset s
  | .readStatus dt p tag => Sys2Proof.Machine.execReadStatus dt p tag s
  | .takeNotice dt p tag => Sys2Proof.Machine.execTakeNotice dt p tag s
  | .setNoticeMask dt p tag mask => Sys2Proof.Machine.execSetNoticeMask dt p tag mask s
  | .readPlanHeader dt p tag => Sys2Proof.Machine.execReadPlanHeader dt p tag s
  | .readStep dt p tag idx => Sys2Proof.Machine.execReadStep dt p tag idx s
  | .insertStep dt p tag rev idx raw => Sys2Proof.Machine.execInsertStep dt p tag rev idx raw s
  | .replaceStep dt p tag rev idx raw => Sys2Proof.Machine.execReplaceStep dt p tag rev idx raw s
  | .removeStep dt p tag rev idx => Sys2Proof.Machine.execRemoveStep dt p tag rev idx s
  | .clearPlan dt p tag rev => Sys2Proof.Machine.execClearPlan dt p tag rev s
  | .setPlanId dt p tag rev planId => Sys2Proof.Machine.execSetPlanId dt p tag rev planId s
  | .startRun dt p tag rev idx => Sys2Proof.Machine.execStartRun dt p tag rev idx s
  | .pause dt p tag => Sys2Proof.Machine.execPause dt p tag s
  | .resume dt p tag => Sys2Proof.Machine.execResume dt p tag s
  | .abort dt p tag => Sys2Proof.Machine.execAbort dt p tag s
  | .skipStep dt p tag idx => Sys2Proof.Machine.execSkipStep dt p tag idx s
  | .confirm dt p tag idx => Sys2Proof.Machine.execConfirm dt p tag idx s
  | .clearTrip dt p tag => Sys2Proof.Machine.execClearTrip dt p tag s
  | .readRunLog dt p tag pos => Sys2Proof.Machine.execReadRunLog dt p tag pos s
  | .tarePush dt p tag => Sys2Proof.Machine.execTarePush dt p tag s
  | .tarePop dt p tag => Sys2Proof.Machine.execTarePop dt p tag s
  | .tareClear dt p tag => Sys2Proof.Machine.execTareClear dt p tag s
  | .restartScale dt p tag => Sys2Proof.Machine.execRestartScale dt p tag s
  | .calZero dt p tag calId drift offB offC => Sys2Proof.Machine.execCalZero dt p tag calId drift offB offC s
  | .calSpan dt p tag known calId => Sys2Proof.Machine.execCalSpan dt p tag known calId s
  | .readCal dt p tag => Sys2Proof.Machine.execReadCal dt p tag s
  | .permit dt p tag key => Sys2Proof.Machine.execPermit dt p tag key s
  | .clearLatched dt p tag set => Sys2Proof.Machine.execClearLatched dt p tag set s
  | .libSave dt p tag slot => Sys2Proof.Machine.execLibSave dt p tag slot s
  | .libLoad dt p tag slot => Sys2Proof.Machine.execLibLoad dt p tag slot s
  | .libErase dt p tag slot => Sys2Proof.Machine.execLibErase dt p tag slot s
  | .libInfo dt p tag => Sys2Proof.Machine.execLibInfo dt p tag s
  | .libWriteCal dt p tag => Sys2Proof.Machine.execLibWriteCal dt p tag s
  | .panelRequestFrame dt bytes => Sys2Proof.Machine.execPanelRequestFrame dt bytes s
  | .panelReplyRead dt clocked => Sys2Proof.Machine.execPanelReplyRead dt clocked s
  | .linkFrameComplete dt bytes => Sys2Proof.Machine.execLinkFrameComplete dt bytes s
  | .linkByteGapTimeout dt => Sys2Proof.Machine.execLinkByteGapTimeout dt s
  | .linkStopBitMissing dt => Sys2Proof.Machine.execLinkStopBitMissing dt s
  | .linkReplySent dt => Sys2Proof.Machine.execLinkReplySent dt s
  | .timeBaseTick dt => Sys2Proof.Machine.execTimeBaseTick dt s
  | .settleDeadline dt => Sys2Proof.Machine.execSettleDeadline dt s
  | .senseTimerExpiry dt => Sys2Proof.Machine.execSenseTimerExpiry dt s
  | .senseConversionEnd dt code => Sys2Proof.Machine.execSenseConversionEnd dt code s
  | .freeTrigger dt => Sys2Proof.Machine.execFreeTrigger dt s
  | .weighGroupEnd dt c0 c1 c2 c3 => Sys2Proof.Machine.execWeighGroupEnd dt c0 c1 c2 c3 s
  | .tareDeadline dt => Sys2Proof.Machine.execTareDeadline dt s
  | .captureDeadline dt => Sys2Proof.Machine.execCaptureDeadline dt s
  | .tachEdge dt => Sys2Proof.Machine.execTachEdge dt s
  | .noEdgeTimeout dt => Sys2Proof.Machine.execNoEdgeTimeout dt s
  | .controlUpdate dt => Sys2Proof.Machine.execControlUpdate dt s
  | .lidSample dt lidIsOpen fbLocked => Sys2Proof.Machine.execLidSample dt lidIsOpen fbLocked s
  | .plateauTimer dt => Sys2Proof.Machine.execPlateauTimer dt s
  | .frameEnd dt => Sys2Proof.Machine.execFrameEnd dt s
  | .slotBoundary dt => Sys2Proof.Machine.execSlotBoundary dt s
  | .rampRise dt => Sys2Proof.Machine.execRampRise dt s
  | .permitExpiry dt => Sys2Proof.Machine.execPermitExpiry dt s
  | .permitDueTimer dt => Sys2Proof.Machine.execPermitDueTimer dt s
  | .uptimeTick dt => Sys2Proof.Machine.execUptimeTick dt s
  | .scanEnd dt => Sys2Proof.Machine.execScanEnd dt s
  | .wordWriteEnd dt first second => Sys2Proof.Machine.execWordWriteEnd dt first second s
  | .loadReadEnd dt => Sys2Proof.Machine.execLoadReadEnd dt s
  | .linkByteReceived dt b => Sys2Proof.Machine.execLinkByteReceived dt b s

end Sys2Proof.Machine
end

