-- ==== Sys2Proof/Machine/Pins.lean ====
section
/-! DEFINITION. The outputs as the outside sees them (00_scope.md, Signals; R119, R143, R146, R186, R190, R202), and how
long each running timer has left (the state tables of R61, R90, R100, R106, R128, R146, R164). -/

namespace Sys2Proof.Machine

/-- PRDY: high while a Panel Port reply waits (R188). -/
def State.prdy (s : State) : Bool := decide (s.panel.state = .replyReady)

/-- PNOTE_N: low while the panel queue holds a notice (R202). -/
def State.pnoteN (s : State) : Bool := s.notices.panelQ.isEmpty

/-- LNOTE_N: low while the link queue holds a notice (R202). -/
def State.lnoteN (s : State) : Bool := s.notices.linkQ.isEmpty

/-- LTXD: the bytes of the reply being sent: the sync byte and the frame (R190). -/
def State.ltxd (s : State) : List Byte :=
  match s.link.reply with
  | some r => syncByte :: r.frame
  | none => []

/-- COIL_GATE (R119). -/
def State.coilGate (s : State) : Bool := s.heat.gate

/-- MDUTY (R143). -/
def State.mduty (s : State) : Nat := s.stir.duty

/-- MDIR (R128). -/
def State.mdir (s : State) : Direction := s.stir.drive

/-- LOCK_OUT (R146). -/
def State.lockOut (s : State) : LockDemand := s.lid.demand

/-- EXC (R62). -/
def State.excOut (s : State) : Bool := s.conv.exc

/-- The stage of a weigh group in progress (R62). -/
def State.stage (s : State) : Option Nat :=
  match s.conv.state with
  | .weigh began => weighStage s.now began
  | .idle => none
  | .sense _ => none

/-- The time that a timer has left. -/
def State.left (s : State) (expiry : Nat) : Nat := expiry - s.now

/-- How long the lid sample timer has left; its command carries the two levels that will be sampled (R146, R147). -/
def State.lidTimerLeft (s : State) : Nat := s.left s.lid.sampleTimer

/-- The other timers that run and can still be waited for, as the command of each expiry and the time left, in
microseconds. -/
def State.timers (s : State) : List (Instr × Nat) :=
  let t := fun (i : Nat → Instr) (expiry : Nat) => (i (s.left expiry), s.left expiry)
  [t .timeBaseTick s.engine.timeBase, t .senseTimerExpiry s.conv.senseTimer, t .plateauTimer s.heat.plateauTimer,
   t .controlUpdate s.stir.controlTimer]
  ++ ((s.engine.live.bind (·.settleBy)).toList.map (t .settleDeadline))
  ++ (s.conv.freeTimer.toList.map (t .freeTrigger))
  ++ (s.scale.pendingTare.toList.map (fun x => t .tareDeadline x.deadline))
  ++ (s.scale.pendingCapture.toList.map (fun x => t .captureDeadline x.deadline))
  ++ (s.stir.noEdge.toList.map (t .noEdgeTimeout))
  ++ (match s.heat.countdown with
      | .running expiry => [t .rampRise expiry]
      | .frozen _ => []
      | .stopped => [])
  ++ (s.permit.renewal.toList.map (fun x => t .permitExpiry (x + 2000000)))
  ++ (s.permit.due.toList.map (t .permitDueTimer))

end Sys2Proof.Machine
end

