-- ==== Sys2Proof/WellFormed.lean ====
section
/-! DEFINITION. Which commands are well formed: every operand fits the field that carries it (R191, R194, R195) or the
converter that yields it (R72). A command that is not well formed is none that a master or the part can give. -/

namespace Sys2Proof

/-- Each field of a received step record fits its byte or its two bytes (R195). -/
def RawStep.wf (r : RawStep) : Bool :=
  decide (r.kind < 256) && decide (r.exitSet < 256) && decide (r.heatMode < 256) && decide (r.heatValue < 256)
    && decide (r.ramp < 256) && decide (r.boil < 256) && decide (r.speed < 65536) && decide (r.direction < 256)
    && decide (r.pattern < 256) && decide (r.onTime < 256) && decide (r.offTime < 256) && decide (r.duration < 65536)
    && decide (r.timerStart < 256) && decide (r.prompt < 256) && decide (r.target < 65536) && decide (r.tag < 65536)

/-- Each field of a request's body fits the bytes R194 gives it. -/
def Request.wf : Request → Bool
  | .readStep idx => decide (idx < 256)
  | .insertStep rev idx raw => decide (rev < 65536) && decide (idx < 256) && raw.wf
  | .replaceStep rev idx raw => decide (rev < 65536) && decide (idx < 256) && raw.wf
  | .removeStep rev idx => decide (rev < 65536) && decide (idx < 256)
  | .clearPlan rev => decide (rev < 65536)
  | .setPlanId rev planId => decide (rev < 65536) && decide (planId < 65536)
  | .startRun rev idx => decide (rev < 65536) && decide (idx < 256)
  | .skipStep idx => decide (idx < 256)
  | .confirm idx => decide (idx < 256)
  | .readRunLog pos => decide (pos < 256)
  | .calZero calId drift offB offC =>
    decide (calId < 65536) && decide (-32768 ≤ drift ∧ drift < 32768) && decide (-128 ≤ offB ∧ offB < 128)
      && decide (-128 ≤ offC ∧ offC < 128)
  | .calSpan known calId => decide (known < 4294967296) && decide (calId < 65536)
  | .libSave slot => decide (slot < 256)
  | .libLoad slot => decide (slot < 256)
  | .libErase slot => decide (slot < 256)
  | .readStatus => true
  | .takeNotice => true
  | .setNoticeMask _ => true
  | .readPlanHeader => true
  | .pause => true
  | .resume => true
  | .abort => true
  | .clearTrip => true
  | .tarePush => true
  | .tarePop => true
  | .tareClear => true
  | .restartScale => true
  | .readCal => true
  | .permit _ => true
  | .clearLatched _ => true
  | .libInfo => true
  | .libWriteCal => true

/-- The request that a command carries, for the rows that are requests. -/
def Instr.request : Instr → Option Request
  | .readStatus _ _ _ => some .readStatus
  | .takeNotice _ _ _ => some .takeNotice
  | .setNoticeMask _ _ _ mask => some (.setNoticeMask mask)
  | .readPlanHeader _ _ _ => some .readPlanHeader
  | .readStep _ _ _ idx => some (.readStep idx)
  | .insertStep _ _ _ rev idx raw => some (.insertStep rev idx raw)
  | .replaceStep _ _ _ rev idx raw => some (.replaceStep rev idx raw)
  | .removeStep _ _ _ rev idx => some (.removeStep rev idx)
  | .clearPlan _ _ _ rev => some (.clearPlan rev)
  | .setPlanId _ _ _ rev planId => some (.setPlanId rev planId)
  | .startRun _ _ _ rev idx => some (.startRun rev idx)
  | .pause _ _ _ => some .pause
  | .resume _ _ _ => some .resume
  | .abort _ _ _ => some .abort
  | .skipStep _ _ _ idx => some (.skipStep idx)
  | .confirm _ _ _ idx => some (.confirm idx)
  | .clearTrip _ _ _ => some .clearTrip
  | .readRunLog _ _ _ pos => some (.readRunLog pos)
  | .tarePush _ _ _ => some .tarePush
  | .tarePop _ _ _ => some .tarePop
  | .tareClear _ _ _ => some .tareClear
  | .restartScale _ _ _ => some .restartScale
  | .calZero _ _ _ calId drift offB offC => some (.calZero calId drift offB offC)
  | .calSpan _ _ _ known calId => some (.calSpan known calId)
  | .readCal _ _ _ => some .readCal
  | .permit _ _ _ key => some (.permit key)
  | .clearLatched _ _ _ set => some (.clearLatched set)
  | .libSave _ _ _ slot => some (.libSave slot)
  | .libLoad _ _ _ slot => some (.libLoad slot)
  | .libErase _ _ _ slot => some (.libErase slot)
  | .libInfo _ _ _ => some .libInfo
  | .libWriteCal _ _ _ => some .libWriteCal
  | .reset => none
  | .panelRequestFrame _ _ => none
  | .panelReplyRead _ _ => none
  | .linkFrameComplete _ _ => none
  | .linkByteGapTimeout _ => none
  | .linkStopBitMissing _ => none
  | .linkReplySent _ => none
  | .timeBaseTick _ => none
  | .settleDeadline _ => none
  | .senseTimerExpiry _ => none
  | .senseConversionEnd _ _ => none
  | .freeTrigger _ => none
  | .weighGroupEnd _ _ _ _ _ => none
  | .tareDeadline _ => none
  | .captureDeadline _ => none
  | .tachEdge _ => none
  | .noEdgeTimeout _ => none
  | .controlUpdate _ => none
  | .lidSample _ _ _ => none
  | .plateauTimer _ => none
  | .frameEnd _ => none
  | .slotBoundary _ => none
  | .rampRise _ => none
  | .permitExpiry _ => none
  | .permitDueTimer _ => none
  | .uptimeTick _ => none
  | .scanEnd _ => none
  | .wordWriteEnd _ _ _ => none
  | .loadReadEnd _ => none
  | .linkByteReceived _ _ => none

/-- The command by which a request arrives on port `p` with a tag, `dt` after the command before it. -/
def Request.command (dt : Nat) (p : Port) (tag : Byte) : Request → Instr
  | .readStatus => .readStatus dt p tag
  | .takeNotice => .takeNotice dt p tag
  | .setNoticeMask mask => .setNoticeMask dt p tag mask
  | .readPlanHeader => .readPlanHeader dt p tag
  | .readStep idx => .readStep dt p tag idx
  | .insertStep rev idx raw => .insertStep dt p tag rev idx raw
  | .replaceStep rev idx raw => .replaceStep dt p tag rev idx raw
  | .removeStep rev idx => .removeStep dt p tag rev idx
  | .clearPlan rev => .clearPlan dt p tag rev
  | .setPlanId rev planId => .setPlanId dt p tag rev planId
  | .startRun rev idx => .startRun dt p tag rev idx
  | .pause => .pause dt p tag
  | .resume => .resume dt p tag
  | .abort => .abort dt p tag
  | .skipStep idx => .skipStep dt p tag idx
  | .confirm idx => .confirm dt p tag idx
  | .clearTrip => .clearTrip dt p tag
  | .readRunLog pos => .readRunLog dt p tag pos
  | .tarePush => .tarePush dt p tag
  | .tarePop => .tarePop dt p tag
  | .tareClear => .tareClear dt p tag
  | .restartScale => .restartScale dt p tag
  | .calZero calId drift offB offC => .calZero dt p tag calId drift offB offC
  | .calSpan known calId => .calSpan dt p tag known calId
  | .readCal => .readCal dt p tag
  | .permit key => .permit dt p tag key
  | .clearLatched set => .clearLatched dt p tag set
  | .libSave slot => .libSave dt p tag slot
  | .libLoad slot => .libLoad dt p tag slot
  | .libErase slot => .libErase dt p tag slot
  | .libInfo => .libInfo dt p tag
  | .libWriteCal => .libWriteCal dt p tag

/-- A command is well formed when the request it carries is, and when a sense code has 12 bits (R72). -/
def Instr.wf (i : Instr) : Bool :=
  match i with
  | .senseConversionEnd _ code => decide (code < 4096)
  | i => match i.request with
    | some r => r.wf
    | none => true

end Sys2Proof
end

