-- ==== Sys2Proof/Safety.lean ====
section
/-! DEFINITION. What the spec says holds of the part whatever it has been asked to do, block by block: each of these is a
promise of a numbered rule over all states of a run, in the terms the statements use. -/

namespace Sys2Proof.Machine

/-! ### What the statements speak of -/

/-- R187, R189, R192: port `p` takes a request and passes it on: none is OUTSTANDING there and the start-up scan is over.
The panel's own requests also need `p` to be the Panel Port. -/
def State.admits (s : State) (p : Port) : Bool := decide ((s.port p).state ≠ .outstanding) && !s.store.starting

/-- "The checks are made in the order given, and the first that fails gives the result": the result of the first check of a
list that fails, none when every check passes. -/
def firstFailure : List (Bool × Result) → Option Result
  | [] => none
  | (fails, r) :: rest => if fails then some r else firstFailure rest

/-! ### Phases and their checks (R28 to R30) -/

/-- R30, tests 1 to 3: the end event found in phase `ph` of a step, with its active tenths, the reached flag and BOIL: TIMER
before TEMP before BOIL. -/
def endInPhase (r : StepRecord) (ph : Phase) (active : Nat) (reached boiling : Bool) : Option StepEnd :=
  let counts := decide (ph ∈ [Phase.dwell, .dosing, .waitConfirm])
  let heats := decide (ph ∈ [Phase.approach, .dwell])
  if r.exits.timer && counts && (r.duration.map (fun d => decide (10 * d ≤ active))).getD false then some .timer
  else if r.exits.temp && heats && reached then some .temp
  else if r.exits.boil && heats && boiling then some .boil
  else none

/-- R30: the phase entry checks: the phase the step is then in, and the end event found. An APPROACH with no end event whose
target is reached moves to DWELL and is checked again. -/
def checkedPhase (r : StepRecord) (ph : Phase) (active : Nat) (reached boiling : Bool) : Phase × Option StepEnd :=
  match endInPhase r ph active reached boiling with
  | some e => (ph, some e)
  | none =>
    if ph = .approach ∧ reached then (.dwell, endInPhase r .dwell active reached boiling) else (ph, none)

/-- R28: the working phase that a step begins in. -/
def firstPhase (r : StepRecord) : Phase :=
  if r.kind = .dose then .settle else if r.start = .atTarget then .approach else .dwell

/-! ### What a step's entry hands over (R33) -/

/-- R33, step 2: whether a step falls back as it is entered: a DOSE step while the scale is UNCALIBRATED. -/
def State.fallsBack (s : State) (r : StepRecord) : Bool :=
  decide (r.kind = .dose) && decide (s.scale.status = .uncalibrated)

/-- R41, R42: whether a step waits for the person from its entry on: a PROMPT step, or a DOSE step fallen back. -/
def waitsForPerson (r : StepRecord) (fallen : Bool) : Bool := decide (r.kind = .prompt) || fallen

/-- R121, R122: whether a TEMP step's target is met as it is handed over with TB10 `tb`, which also fixes the direction: TB10
lies within 1 °C of it. -/
def metAtEntry (r : StepRecord) (tb : Int) : Bool :=
  decide (r.heatMode = .temp) && decide (10 * (r.heatValue : Int) - 10 ≤ tb ∧ tb ≤ 10 * (r.heatValue : Int) + 10)

/-- R110: whether the setpoint of a TEMP step starts at TB10 and rises with the ramp. -/
def rampsAtEntry (r : StepRecord) (tb : Int) : Bool :=
  decide (r.heatMode = .temp) && r.ramp.isSome && decide (tb < 10 * (r.heatValue : Int))

/-- R110, R111: the ramp countdown started at 6 s: it runs in a RUNNING engine. -/
def sixSeconds (running : Bool) (now : Nat) : Countdown := if running then .running (now + 6000000) else .frozen 6000000

/-- What a handover leaves alone in the Heat Unit: the frame in progress with its gate, and what was delivered to it. -/
def frameKept (h h' : Heat) : Prop :=
  h'.frameN = h.frameN ∧ h'.frameW = h.frameW ∧ h'.slot = h.slot ∧ h'.gate = h.gate ∧ h'.tb = h.tb ∧ h'.tbHeld = h.tbHeld
    ∧ h'.supplyLow = h.supplyLow ∧ h'.ring = h.ring ∧ h'.plateauTimer = h.plateauTimer

/-- R107, R110, R121, R122: the Heat Unit `h'` after it has taken the heat fields of a step entered: mode, target, power,
ramp, setpoint, direction, reached flag and ramp countdown. A loop run with the new fields has set the pending pair (R112,
R113): another would change nothing. -/
def heatEntered (running : Bool) (now : Nat) (r : StepRecord) (h h' : Heat) : Prop :=
  let target : Int := 10 * (r.heatValue : Int)
  let temp := decide (r.heatMode = .temp)
  h'.mode = r.heatMode
    ∧ h'.target = (if temp then some target else none)
    ∧ h'.power = (if r.heatMode = .power then some r.heatValue else none)
    ∧ h'.ramp = (if temp then r.ramp else none)
    ∧ h'.sp = (if temp then some (if rampsAtEntry r h.tb then h.tb else target) else none)
    ∧ h'.dir = (if temp then some (if h.tb < target then .rising else .falling) else none)
    ∧ h'.reached = metAtEntry r h.tb
    ∧ h'.countdown = (if rampsAtEntry r h.tb then sixSeconds running now else .stopped)
    ∧ h'.integral = (if running ∧ temp then h.integral else 0) ∧ loopRun running h' = h' ∧ frameKept h h'

/-- R109: the Heat Unit forced off, with the boil hold out (R37). -/
def heatForcedOff (now : Nat) (h : Heat) : Heat :=
  { h with
    gate := false, frameW := 0, next := { n := 100, w := 0, step := .none }, integral := 0, boilHold := false
    countdown := match h.countdown with
      | .running expiry => .frozen (expiry - now)
      | c => c }

/-- R136: the direction of ON segment `seg` of a step's pattern: the second of KNEAD turns the other way. -/
def segmentTurns (dir : Direction) (pattern : Pattern) (seg : Nat) : Direction :=
  if pattern = .knead ∧ seg = 2 then (if dir = .forward then .reverse else .forward) else dir

/-- R33, R129: the Stir Unit `st'` holds the stirring fields of a step handed over to `st`: the pattern at its first segment,
the capped mark clear, and a reversal wait where the step's direction differs from the drive direction. -/
def stirEntered (r : StepRecord) (st st' : Stir) : Prop :=
  st' = { st with
    speed := r.speed, dir := r.direction, pattern := r.pattern, onTime := r.onTime, offTime := r.offTime, seg := 0,
    elapsed := 0, capped := false, wait := st.wait || decide (r.direction ≠ st.drive) }

/-- R29, R147, R148: the lock is held where a step that wants it is entered: the feedback shows locked, LID_OPEN is clear, and
the demand is LOCKED or becomes so with the wish. -/
def State.lockReady (s : State) : Bool :=
  decide (s.lid.feedback = some true) && !s.asserts .lidOpen
    && (decide (s.lid.demand = .locked) || (!s.lid.wish && !s.lid.lidOpen))

/-- R28 to R30, R33, step 6: the phase of a step once its entry is done, with the end event found: `running` says that the
engine is RUNNING, `lock` that the lock is held, so that LOCKING passes in the same event, `met` that the target is met. -/
def entryPhase (r : StepRecord) (fallen running lock met boiling : Bool) : Phase × Option StepEnd :=
  if waitsForPerson r fallen then (if running then checkedPhase r .waitConfirm 0 met boiling else (.waitConfirm, none))
  else if running && lock then (if r.kind = .dose then (.settle, none) else checkedPhase r (firstPhase r) 0 met boiling)
  else (.locking, none)

/-- R28, R33: the context of a step just entered at index `idx`, in phase `ph` at time `now`; `tb` is the TB10 held. -/
def enteredLive (idx : Nat) (r : StepRecord) (fallen : Bool) (ph : Phase) (tb : Int) (now : Nat) : Live :=
  { index := idx, kind := r.kind, phase := ph
    returnPhase := if ph = .locking then some (firstPhase r) else none
    active := 0, pausedFor := 0
    settleBy := if ph = .settle then some (now + 5000000) else none
    reference := none, lastAdded := 0, nearPosted := false, fallenBack := fallen,
    flags := { refUnsteady := false, fallback := fallen, overdose := false }, peak := tb }

/-- R33, R41, R42, R122: the notices of a step's entry, in their order: TEMP_REACHED where the target is met, STEP_BEGUN, and
PROMPT where the step waits for the person. -/
def entryNotices (idx : Nat) (r : StepRecord) (fallen : Bool) (tb : Int) (s : State) : State :=
  let s := if metAtEntry r tb then post (.tempReached (some idx) tb) s else s
  let s := post (.stepBegun idx r.kind r.tag) s
  if waitsForPerson r fallen then post (.prompt idx fallen r.prompt r.tag) s else s

/-! ### What an adoption hands over (R54) -/

/-- R108: the heat fields of an adopted record keep the target that the Heat Unit holds. -/
def keepsTarget (r : StepRecord) (h : Heat) : Bool :=
  decide (r.heatMode = .temp ∧ h.mode = .temp ∧ h.target = some (10 * (r.heatValue : Int)))

/-- R108, R122: the target is newly met as a record is adopted: judged afresh where the target changes, and where the ramp
alone changes while the reached flag is clear. -/
def metAtAdoption (r : StepRecord) (h : Heat) : Bool :=
  let target : Int := 10 * (r.heatValue : Int)
  if keepsTarget r h then
    !h.reached && decide (h.ramp ≠ r.ramp) && (match h.dir with
      | some .rising => decide (target - 10 ≤ h.tb)
      | some .falling => decide (h.tb ≤ target + 10)
      | none => false)
  else metAtEntry r h.tb

/-- R108, R110, R121: the Heat Unit `h'` after it has taken the heat fields of a record adopted by `h`, whose mode goes with
its fields (`Heat.modeSafe`). -/
def heatAdopted (running : Bool) (now : Nat) (r : StepRecord) (h h' : Heat) : Prop :=
  let target : Int := 10 * (r.heatValue : Int)
  let temp := decide (r.heatMode = .temp)
  h'.mode = r.heatMode ∧ h'.target = (if temp then some target else none) ∧ h'.ramp = r.ramp
    ∧ h'.power = (if r.heatMode = .power then some r.heatValue else none)
    ∧ h'.dir = (if keepsTarget r h then h.dir
        else if temp then some (if h.tb < target then .rising else .falling) else none)
    ∧ h'.reached = (metAtAdoption r h || (keepsTarget r h && h.reached))
    ∧ (temp = false → h'.sp = none ∧ h'.countdown = .stopped)
    ∧ (temp ∧ h.mode ≠ .temp → h'.sp = some (if rampsAtEntry r h.tb then h.tb else target)
        ∧ h'.countdown = (if rampsAtEntry r h.tb then sixSeconds running now else .stopped))
    ∧ (∀ sp, temp ∧ h.mode = .temp ∧ h.sp = some sp →
        (keepsTarget r h = true →
          h'.sp = some (if r.ramp = none ∧ sp < target then target else sp)
          ∧ h'.countdown = (if r.ramp = none ∧ sp < target then .stopped else h.countdown))
        ∧ (keepsTarget r h = false →
          h'.sp = some (if r.ramp.isSome ∧ sp < target then sp else target)
          ∧ h'.countdown = (if r.ramp.isSome ∧ sp < target then
              (if h.countdown = .stopped then sixSeconds running now else h.countdown) else .stopped)))
    ∧ h'.integral = (if running ∧ temp then h.integral else 0) ∧ loopRun running h' = h' ∧ frameKept h h'

/-- R130: the Stir Unit `st'` after it has taken the stirring fields of a record adopted by `st`: a changed pattern restarts,
and a changed pattern or direction begins a reversal wait where the ON segment in progress turns against the drive. -/
def stirAdopted (r : StepRecord) (st st' : Stir) : Prop :=
  let seg := if st.pattern = r.pattern then st.seg else 0
  st' = { st with
    speed := r.speed, dir := r.direction, pattern := r.pattern, onTime := r.onTime, offTime := r.offTime, seg := seg
    elapsed := if st.pattern = r.pattern then st.elapsed else 0
    wait := st.wait || (decide (st.pattern ≠ r.pattern ∨ st.dir ≠ r.direction) && decide (seg % 2 = 0)
      && decide (segmentTurns r.direction r.pattern seg ≠ st.drive)) }

/-- R54, R122: the notices of an adoption, in their order: TEMP_REACHED where the target is newly met, and PROMPT where a
changed prompt code meets a step that waits for the person. -/
def adoptionNotices (old r : StepRecord) (l : Live) (h : Heat) (s : State) : State :=
  let s := if metAtAdoption r h then post (.tempReached (some l.index) h.tb) s else s
  if l.phase = .waitConfirm ∧ (l.kind = .prompt ∨ l.fallenBack = true) ∧ r.prompt ≠ old.prompt then
    post (.prompt l.index l.fallenBack r.prompt r.tag) s
  else s

/-- R54, R56: the live step context after an adoption that takes no end event: a changed weight target clears near posted,
and a timer start of AT_ENTRY moves a kept phase or return phase of APPROACH to DWELL. -/
def adoptedLive (old r : StepRecord) (l : Live) : Live :=
  { l with
    phase := if r.start = .atEntry ∧ l.phase = .approach then .dwell else l.phase
    returnPhase := if r.start = .atEntry ∧ l.returnPhase = some .approach then some .dwell else l.returnPhase
    nearPosted := if r.kind = .dose ∧ r.target ≠ old.target then false else l.nearPosted }

/-! ### What the Link Port's receiver completes (R189) -/

/-- R189: the frames, from length byte to check byte, that bytes arriving at the receiver complete. -/
def LinkRx.completed : List Byte → LinkRx → List (List Byte)
  | [], _ => []
  | b :: rest, rx => (rx.take b).2.toList ++ LinkRx.completed rest (rx.take b).1

/-! ### What every run keeps -/

/-- R4, R9, R196: a record that Plan Memory can hold: its fields fit their bytes, it passes R5 and R6 as it stands, and
storing it again changes nothing. -/
def StepRecord.legal (r : StepRecord) : Bool :=
  r.raw.wf && decide (acceptRaw r.raw = some r) && decide (r.stored = r)

/-- R1, R2, R3: the plan holds at most 48 steps, each as Plan Memory stores it, its numbers in range, and a slot exactly
while its origin is STORE. -/
def Plan.safe (p : Plan) : Bool :=
  decide (p.steps.length ≤ 48) && p.steps.all StepRecord.legal && decide (p.revision ≤ 65535)
    && decide (p.planId ≤ 65535) && (p.slot.isSome == decide (p.origin = .store))

/-- R25, R28: a live step context goes with its plan: the index names a step of the same kind, and the return phase is
present exactly while the phase is LOCKING. -/
def Live.safe (p : Plan) (l : Live) : Bool :=
  decide ((p.steps[l.index]?).map (·.kind) = some l.kind) && (l.returnPhase.isSome == decide (l.phase = .locking))
    && decide (l.returnPhase ≠ some .locking)

/-- R24: what each engine state holds: a live step in RUNNING, PAUSED and TRIPPED alone, the trip set and first cause in
TRIPPED, the end reason in ENDED; R43: the cause set is empty outside PAUSED and contains REQUEST in it. -/
def Engine.safe (e : Engine) : Bool :=
  (e.live.isSome == e.state.inRun)
    && (if e.state = .paused then e.causes.request else decide (e.causes = CauseSet.none))
    && (decide (e.trips ≠ 0) == decide (e.state = .tripped)) && (e.firstTrip.isSome == decide (e.state = .tripped))
    && (e.endReason.isSome == decide (e.state = .ended))

/-- R22, R24: the run as a whole; a load in flight never meets a live step. -/
def State.runSafe (s : State) : Bool :=
  s.engine.safe && (match s.engine.live with
    | some l => l.safe s.plan
    | none => true)
  && !(s.loadInFlight && s.inRun)

/-- R116: a frame length and on-count that R115 computes together, or that a force-off leaves (R109). -/
def pairSafe (n w : Nat) : Bool := (decide (n = 100) && decide (w ≤ 100)) || (decide (n = 200) && decide (w ≤ 19))

/-- R116: the frame in progress and the pending pair are whole, and the slot lies in the frame. -/
def Heat.frameSafe (h : Heat) : Bool :=
  pairSafe h.frameN h.frameW && pairSafe h.next.n h.next.w && decide (h.slot < h.frameN)

/-- R106 to R110, R121: what the heat mode goes with. TEMP: a target, a setpoint and a direction, and no power. POWER and OFF:
none of the three, the countdown stopped and the reached flag clear, and a power in POWER alone. -/
def Heat.modeSafe (h : Heat) : Bool :=
  let temp := decide (h.mode = .temp)
  (h.target.isSome == temp) && (h.sp.isSome == temp) && (h.dir.isSome == temp)
    && (h.power.isSome == decide (h.mode = .power)) && (temp || (decide (h.countdown = .stopped) && !h.reached))

/-- R27, R120: nothing is driven: coil off, on-counts 0, integral 0, applied setpoint 0. -/
def State.undriven (s : State) : Bool :=
  !s.heat.gate && decide (s.heat.frameW = 0) && decide (s.heat.next.w = 0) && decide (s.heat.next.step = .none)
    && decide (s.heat.integral = 0) && decide (s.stir.applied = 0)

/-- R27, R106, R116: the heat mode goes with its fields, the frames are whole, and outside RUNNING nothing is driven. -/
def State.driveSafe (s : State) : Bool := s.heat.modeSafe && s.heat.frameSafe && (s.isRunning || s.undriven)

/-- R164, R168: the Drive Permit's own state. -/
def Permit.safe (p : Permit) : Bool :=
  if p.state = .armed then p.renewal.isSome && decide (p.lapse = none)
  else decide (p.key = 0x5A) && decide (p.renewal = none) && decide (p.due = none) && !p.first
    && (p.lapse.isSome == decide (p.state = .lapsed))

/-- R46, R168: the engine is RUNNING only while the permit is ARMED, and a PAUSED engine without it holds PERMIT. -/
def State.permitSafe (s : State) : Bool :=
  s.permit.safe
    && (decide (s.permit.state = .armed)
      || (decide (s.engine.state ≠ .running) && (decide (s.engine.state ≠ .paused) || s.engine.causes.permit)))

/-- R100: the fields of a capture's body lie in range. -/
def CaptureBody.inRange : CaptureBody → Bool
  | .zero calId drift offB offC => zeroInRange calId drift offB offC
  | .span known calId => spanInRange known calId

/-- R81, R100, R101: a pending capture: its body in range, fewer than eight samples, and a sum of as many raw sums. -/
def PendingCapture.safe (x : PendingCapture) : Bool :=
  x.body.inRange && decide (x.count < 8)
    && decide (-2097152 * (x.count : Int) ≤ x.sum ∧ x.sum ≤ 2097148 * (x.count : Int))

/-- R98: the net holds from a change of the working calibration to the next sample: the scale restarted with G not 0, its
stack and its window empty. -/
def Scale.netHeld (sc : Scale) : Bool :=
  decide (sc.status = .restarting) && decide (sc.cal.span ≠ 0) && decide (sc.tare = []) && decide (sc.window = [])

/-- R79, R80, R84, R85, R90, R97, R98: the Scale Unit's figures: every field of the working calibration in its range, a
pending capture that can only set such fields, at most 4 levels and 8 entries, room for a pending tare's level, at most one
of a tare and a capture pending, the net formed from F and the top of the stack but where a change of calibration holds it,
STABLE only with a full window, and a status that goes with the span factor. -/
def Scale.safe (sc : Scale) : Bool :=
  sc.cal.inRange && (match sc.pendingCapture with
    | some x => x.safe
    | none => true)
    && decide (sc.tare.length ≤ 4) && decide (sc.window.length ≤ 8)
    && (sc.pendingTare.isNone || (decide (sc.tare.length < 4) && sc.pendingCapture.isNone))
    && (sc.netHeld || decide (sc.net = sc.gross - sc.tare.headD 0))
    && (!sc.stable || (decide (sc.window.length = 8) && decide (sc.cal.span ≠ 0)))
    && (decide (sc.status ≠ .ready) || decide (sc.cal.span ≠ 0))
    && (decide (sc.status ≠ .uncalibrated) || decide (sc.cal.span = 0))
    && (decide (sc.cal.span ≠ 0) || decide (sc.tare = []))

/-- R199, R200: a queue holds at most one notice of each kind, each with a repeat count from 1 to 255. -/
def queueSafe (q : List NoticeRec) : Bool :=
  decide ((q.map (fun r => r.data.code)).Nodup) && q.all (fun r => decide (1 ≤ r.count ∧ r.count ≤ 255))

/-- R199, R200: both queues; PERMIT_DUE, kind 11, never enters the link queue. -/
def Notices.safe (n : Notices) : Bool :=
  queueSafe n.panelQ && queueSafe n.linkQ && n.linkQ.all (fun r => decide (r.data.code ≠ 11))

/-- R170, R174, R175, R176: the array keeps its form, the directory has eight entries, and the start-up flag is set
exactly while SCAN is in flight. -/
def Store.safe (st : Store) : Bool :=
  st.array.wf && decide (st.directory.length = 8) && (st.starting == decide (st.op = .scan))

/-- R128, R135, R136, R142, R143: the Stir Unit's figures, and measured speed 0 whenever the stopped indication is set. -/
def Stir.safe (st : Stir) : Bool :=
  decide (st.seg < 4) && decide (st.ring.length ≤ 12) && decide (st.duty ≤ 1000) && decide (-200 ≤ st.integral ∧ st.integral ≤ 200)
    && (!st.stopped || decide (st.measured = 0))

/-- R134, R148: the stopped indication as the Lid Controller last saw it is the Stir Unit's. -/
def State.lidSafe (s : State) : Bool := (s.lid.stopped == s.stir.stopped) && (!s.stir.stopped || decide (s.stir.measured = 0))

/-- R90, R100, R186, R190: what a port's request state goes with. FREE: no reply in its slot. OUTSTANDING: a request in the
buffer or, on the Link Port, a reply being sent, one of the two. REPLY_READY: the Panel Port's alone, with a reply. -/
def PortState.safe (p : Port) (x : PortState) : Bool :=
  match x.state with
  | .free => x.buffer.isNone && x.reply.isNone
  | .outstanding => (x.buffer.isSome && x.reply.isNone) || (decide (p = .link) && x.buffer.isNone && x.reply.isSome)
  | .replyReady => decide (p = .panel) && x.buffer.isNone && x.reply.isSome

/-- R90, R100, R186: both ports, and the requests that the Scale Unit answers later: each stands outstanding on its port, in
the buffer, with no reply yet, and at most one of the two waits. -/
def State.portSafe (s : State) : Bool :=
  s.panel.safe .panel && s.link.safe .link
    && (match s.scale.pendingTare with
        | some x => (s.port x.port).buffer.isSome && s.scale.pendingCapture.isNone
        | none => true)
    && (s.scale.pendingCapture.isNone || s.panel.buffer.isSome)

end Sys2Proof.Machine
end

