-- ==== Sys2Proof/Certificates/Slice0/Obligations.lean ====
section
/-! DEFINITION. The statements for the provers, chapter by chapter. A request is `admitted` where its port takes it and
passes it on (R187, R189, R192); `formReply p kind tag a s` is `s` with the reply `a` formed on port `p` (R186, R191, R193),
so an equation `exec c s = .next (formReply p kind tag a t)` says the reply and, through `t`, all that changes. -/

section Statements

open Sys2Proof Sys2Proof.Machine

/-! ### The queue of commands -/

/-- One step runs the command at the front of the queue on the state that holds the rest of the queue; with no command
waiting the part idles: nothing changes, and no time passes. The queue is the model's own (log entry 2). -/
def Obligations.StepRunsFrontCommand : Prop :=
  (∀ (c : Instr) (s : State), step { s with pending := c :: s.pending } = exec c s)
  ∧ (∀ s : State, s.pending = [] → step s = .next s)

/-! ### Frames and records -/

/-- R191, R194, R195: every well-formed request reads back from its kind code and body, and its body has the length of its
row of the kind code table. -/
def Obligations.RequestReadsBackFromItsFrame : Prop :=
  ∀ r : Request, r.wf = true →
    requestOf r.kind r.body = some r
      ∧ (kindRow r.kind).map (·.length) = some r.body.length
      ∧ ((kindRow r.kind).map (·.panelOnly) = some true ↔ r.kind ∈ ([0x26, 0x34, 0x35, 0x40, 0x54] : List Byte))

/-- R187, R189, R191, R192: a request's frame, sent after the sync byte on the Link Port or in a select period of the
Panel Port, has exactly the effect of the request arriving on that port; bytes after the check byte of a select period
are ignored, and PSDO shifts out 0x00. The frame's events complete, and so does the request's command. How the rows
stand for frames and what `psdo` records is the model's own: log entries 5, 7 and 18. -/
def Obligations.FramedRequestIsItsCommand : Prop :=
  (∀ (r : Request) (dt : Nat) (tag : Byte) (s : State), r.wf = true → s.rx = .hunt →
    ∃ t, exec (.linkFrameComplete dt (0xA5 :: r.frame tag)) s = .next t
      ∧ exec (r.command dt .link tag) s = .next t)
  ∧ (∀ (r : Request) (dt : Nat) (tag : Byte) (extra : List Byte) (s : State), r.wf = true →
    ∃ t, exec (.panelRequestFrame dt (r.frame tag ++ extra)) s = .next t
      ∧ exec (r.command dt .panel tag)
          { s with psdo := List.replicate ((r.frame tag).length + extra.length) 0 } = .next t)

/-- R5 to R9, R196: whatever record is accepted, the record stored for it is in range, passes the tests of R5 and R6 as it
stands, and would be stored unchanged. -/
def Obligations.StoredRecordIsLegal : Prop :=
  ∀ (raw : RawStep) (r : StepRecord), raw.wf = true → acceptRaw raw = some r →
    r.stored.legal = true
      ∧ r.stored.speed ≤ 10700 ∧ (r.stored.speed = 0 ∨ 40 ≤ r.stored.speed)
      ∧ (r.stored.kind = .dose → r.stored.speed ≤ 600) ∧ (r.stored.kind = .prompt → r.stored.speed = 0)
      ∧ (1 ≤ r.stored.onTime ∧ r.stored.onTime ≤ 60) ∧ (1 ≤ r.stored.offTime ∧ r.stored.offTime ≤ 60)
      ∧ (r.stored.heatMode = .temp → 30 ≤ r.stored.heatValue ∧ r.stored.heatValue ≤ 160)
      ∧ (r.stored.heatMode = .power → 1 ≤ r.stored.heatValue ∧ r.stored.heatValue ≤ 100)
      ∧ (r.stored.heatMode = .off → r.stored.heatValue = 0)
      ∧ (∀ x, r.stored.ramp = some x → r.stored.heatMode = .temp ∧ 1 ≤ x ∧ x ≤ 20)
      ∧ (∀ x, r.stored.target = some x → r.stored.kind = .dose ∧ 1 ≤ x ∧ x ≤ 5000)
      ∧ (r.stored.exits.boil = true ↔ r.stored.boil = .endStep)

/-! ### Plan Memory -/

/-- R10 to R20, 1.6: the checks of each plan request in their order; a refused request is answered with the first that
fails, with the plan's revision and step count, and changes nothing else. -/
def Obligations.PlanRequestRefusals : Prop :=
  ∀ (dt : Nat) (p : Port) (tag : Byte) (rev idx planId : Nat) (raw : RawStep) (res : Result) (s : State),
    s.admits p = true →
    (s.plan.steps.length ≤ idx →
      exec (.readStep dt p tag idx) s
        = .next (formReply p 0x11 tag { result := .noStep, clamped := false, body := planBody s } (s.after dt)))
    ∧ (firstFailure [(s.loadInFlight, .busy), (decide (rev ≠ s.plan.revision), .stale),
          (decide (s.plan.steps.length < idx), .noStep), (decide (s.plan.steps.length = 48), .full),
          (atOrBelowLive idx s, .frozen), (decide (acceptRaw raw = none), .range)] = some res →
        s.plan.steps.length ≤ 48 →
        exec (.insertStep dt p tag rev idx raw) s
          = .next (formReply p 0x12 tag { result := res, clamped := false, body := planBody s } (s.after dt)))
    ∧ (firstFailure [(s.loadInFlight, .busy), (decide (rev ≠ s.plan.revision), .stale),
          (decide (s.plan.steps.length ≤ idx), .noStep), (belowLive idx s, .frozen),
          (decide (acceptRaw raw = none), .range),
          (isLiveIndex idx s
            && decide ((acceptRaw raw).map (·.kind) ≠ (s.plan.steps[idx]?).map (·.kind)), .frozen)] = some res →
        exec (.replaceStep dt p tag rev idx raw) s
          = .next (formReply p 0x13 tag { result := res, clamped := false, body := planBody s } (s.after dt)))
    ∧ (firstFailure [(s.loadInFlight, .busy), (decide (rev ≠ s.plan.revision), .stale),
          (decide (s.plan.steps.length ≤ idx), .noStep), (atOrBelowLive idx s, .frozen)] = some res →
        exec (.removeStep dt p tag rev idx) s
          = .next (formReply p 0x14 tag { result := res, clamped := false, body := planBody s } (s.after dt)))
    ∧ (firstFailure [(s.loadInFlight, .busy), (decide (rev ≠ s.plan.revision), .stale), (s.inRun, .wrongState)]
          = some res →
        exec (.clearPlan dt p tag rev) s
          = .next (formReply p 0x15 tag { result := res, clamped := false, body := planBody s } (s.after dt)))
    ∧ (firstFailure [(s.loadInFlight, .busy), (decide (rev ≠ s.plan.revision), .stale)] = some res →
        exec (.setPlanId dt p tag rev planId) s
          = .next (formReply p 0x16 tag { result := res, clamped := false, body := planBody s } (s.after dt)))

/-- R3, R9, R15, R16, R21: an INSERT_STEP that passes its checks puts the stored record at the index and moves the steps
from there on up by one; a REPLACE_STEP that passes its checks, at an index that is not the live step's, stores the record
in place of the one there. Either posts PLAN_CHANGED; nothing else changes. -/
def Obligations.InsertAndReplaceStoreTheRecord : Prop :=
  ∀ (dt : Nat) (p : Port) (tag : Byte) (rev idx rev' : Nat) (raw : RawStep) (r : StepRecord) (s : State),
    s.admits p = true → s.loadInFlight = false → rev = s.plan.revision →
    (s.inRun = true → ∀ l, s.engine.live = some l → l.index < idx) →
    acceptRaw raw = some r → rev' = (if rev = 65535 then 1 else rev + 1) →
    (idx ≤ s.plan.steps.length → s.plan.steps.length < 48 →
      exec (.insertStep dt p tag rev idx raw) s
        = .next (formReply p 0x12 tag
            { result := .ok, clamped := decide (r.stored ≠ r),
              body := le16 rev' ++ byte (s.plan.steps.length + 1) ++ r.stored.bytes }
            (post (.planChanged rev' (portOrigin p) (s.plan.steps.length + 1))
              ((s.after dt).withPlan
                { planId := s.plan.planId, revision := rev',
                  steps := s.plan.steps.take idx ++ r.stored :: s.plan.steps.drop idx,
                  origin := portOrigin p, slot := none }))))
    ∧ (idx < s.plan.steps.length →
      exec (.replaceStep dt p tag rev idx raw) s
        = .next (formReply p 0x13 tag
            { result := .ok, clamped := decide (r.stored ≠ r),
              body := le16 rev' ++ byte s.plan.steps.length ++ r.stored.bytes }
            (post (.planChanged rev' (portOrigin p) s.plan.steps.length)
              ((s.after dt).withPlan
                { planId := s.plan.planId, revision := rev', steps := s.plan.steps.set idx r.stored,
                  origin := portOrigin p, slot := none }))))

/-- R17, R54 to R56, R108, R130: a REPLACE_STEP of the live step is stored and adopted at once, whether the run is PAUSED,
TRIPPED or RUNNING: the units take the new fields, the step keeps its index, kind, clocks, reference, last added, fallen
back mark and log flags, and PLAN_CHANGED, TEMP_REACHED and PROMPT are posted as due. PAUSED, TRIPPED or in LOCKING no end
event is taken and a kept phase or return phase of APPROACH becomes DWELL for AT_ENTRY. RUNNING in another phase the phase
and end consequences follow. A step that takes heat from OFF while PROBE_FAULT_B is asserted trips, or joins the trip set of
a TRIPPED run. The heat mode goes with its fields, as every step keeps it (EveryStepKeepsTheDriveSafe). The model's own: how
the consequences are found (log entry 13), the loop run under the new boil hold (log entry 11), and a changed pattern whose
first segment is compared with the drive (log entry 22). -/
def Obligations.ReplaceLiveStepOfPausedRunIsAdopted : Prop :=
  ∀ (dt : Nat) (p : Port) (tag : Byte) (rev rev' idx : Nat) (raw : RawStep) (old got r : StepRecord) (l : Live)
    (s : State),
    s.admits p = true → s.loadInFlight = false → rev = s.plan.revision → s.inRun = true →
    s.engine.live = some l → l.index = idx → s.plan.steps[idx]? = some old → acceptRaw raw = some got →
    got.kind = old.kind → r = got.stored → rev' = (if rev = 65535 then 1 else rev + 1) → s.heat.modeSafe = true →
    let now := s.now + dt
    let running := decide (s.engine.state = .running)
    let faulted := s.asserts .probeB && decide (r.heatMode ≠ .off ∧ old.heatMode = .off)
    let kept := adoptedLive old r l
    let adopted := adoptionNotices old r l s.heat
      (post (.planChanged rev' (portOrigin p) s.plan.steps.length) s)
    let reached := metAtAdoption r s.heat || (keepsTarget r s.heat && s.heat.reached)
    let moves := running && decide (l.phase ≠ .locking)
    let found := if moves then checkedPhase r kept.phase l.active reached (s.asserts .boil)
      else (kept.phase, none)
    ∃ t : State, exec (.replaceStep dt p tag rev idx raw) s = .next t
      ∧ t.plan = { planId := s.plan.planId, revision := rev', steps := s.plan.steps.set idx r,
                   origin := portOrigin p, slot := none }
      ∧ t.port p = (formReply p 0x13 tag
          { result := .ok, clamped := decide (r ≠ got), body := le16 rev' ++ byte s.plan.steps.length ++ r.bytes } s).port p
      ∧ t.conv = s.conv ∧ t.scale = s.scale ∧ t.mon = s.mon ∧ t.permit = s.permit ∧ t.store = s.store
      ∧ t.free = s.free ∧ t.pending = s.pending ∧ t.now = now
      ∧ (faulted = false → found.2 = none →
          t.engine = { s.engine with live := some { kept with
            phase := found.1, returnPhase := if moves then l.returnPhase else kept.returnPhase } }
          ∧ heatAdopted running now r s.heat t.heat
          ∧ t.heat.boilHold = (running && s.asserts .boil && decide (r.boil = .hold))
          ∧ stirAdopted r s.stir t.stir ∧ t.lid = s.lid ∧ t.notices = adopted.notices)
      ∧ (∀ e, faulted = false → found.2 = some e →
          ∃ more, t.engine.log = s.engine.log ++ logEntryOf l r e :: more)
      ∧ (faulted = true → s.engine.state ≠ .tripped →
          t.engine = { s.engine with
            state := .tripped, causes := { request := false, lid := false, permit := false },
            trips := Detector.probeB.set, firstTrip := some .probeB, live := some { kept with settleBy := none } }
          ∧ (∃ h, heatAdopted running now r s.heat h ∧ t.heat = heatForcedOff now h)
          ∧ (∃ st, stirAdopted r s.stir st ∧ t.stir = { st with applied := 0 }) ∧ t.lid.wish = false
          ∧ t.notices = (post (.engineState .tripped (some idx) 6)
              (post (.trip Detector.probeB.set .probeB) adopted)).notices)
      ∧ (faulted = true → s.engine.state = .tripped →
          t.engine = { s.engine with trips := s.engine.trips ||| Detector.probeB.set, live := some kept }
          ∧ heatAdopted false now r s.heat t.heat ∧ stirAdopted r s.stir t.stir)

/-- R18, R19, R20, R3, R21: a REMOVE_STEP, CLEAR_PLAN or SET_PLAN_ID that passes its checks changes the plan as its rule
says and posts PLAN_CHANGED; nothing else changes. -/
def Obligations.RemoveClearAndSetIdEditThePlan : Prop :=
  ∀ (dt : Nat) (p : Port) (tag : Byte) (rev idx planId rev' : Nat) (s : State),
    s.admits p = true → s.loadInFlight = false → rev = s.plan.revision →
    rev' = (if rev = 65535 then 1 else rev + 1) →
    (idx < s.plan.steps.length → (s.inRun = true → ∀ l, s.engine.live = some l → l.index < idx) →
      exec (.removeStep dt p tag rev idx) s
        = .next (formReply p 0x14 tag
            { result := .ok, clamped := false, body := le16 rev' ++ byte (s.plan.steps.length - 1) }
            (post (.planChanged rev' (portOrigin p) (s.plan.steps.length - 1))
              ((s.after dt).withPlan
                { planId := s.plan.planId, revision := rev',
                  steps := s.plan.steps.take idx ++ s.plan.steps.drop (idx + 1),
                  origin := portOrigin p, slot := none }))))
    ∧ (s.inRun = false →
      exec (.clearPlan dt p tag rev) s
        = .next (formReply p 0x15 tag { result := .ok, clamped := false, body := le16 rev' ++ byte 0 }
            (post (.planChanged rev' (portOrigin p) 0)
              ((s.after dt).withPlan
                { planId := 0, revision := rev', steps := [], origin := portOrigin p, slot := none }))))
    ∧ exec (.setPlanId dt p tag rev planId) s
        = .next (formReply p 0x16 tag
            { result := .ok, clamped := false, body := le16 rev' ++ byte s.plan.steps.length }
            (post (.planChanged rev' (portOrigin p) s.plan.steps.length)
              ((s.after dt).withPlan
                { planId := planId, revision := rev', steps := s.plan.steps, origin := portOrigin p, slot := none })))

/-- R1 to R9, R22: every step of the part keeps the plan safe, when the commands that wait are well formed: at most 48
steps, each as Plan Memory stores it, header fields in range, a slot exactly while the origin is STORE. -/
def Obligations.EveryStepKeepsThePlanSafe : Prop :=
  ∀ s t : State, s.pending.all Instr.wf = true → s.plan.safe = true → step s = .next t →
    t.plan.safe = true ∧ t.pending.all Instr.wf = true

/-- R11: whatever command is taken during a run, other than a reset, no step below the live index changes. -/
def Obligations.PastZoneNeverChanges : Prop :=
  ∀ (c : Instr) (s t : State) (l : Live) (i : Nat), s.runSafe = true → s.inRun = true → s.engine.live = some l →
    i < l.index → c ≠ .reset → exec c s = .next t → t.plan.steps[i]? = s.plan.steps[i]?

/-! ### Reading -/

/-- R13, R14, R60, R104, R184, R197: the reading requests are answered with what they read and change nothing but their
port; READ_STATUS is answered during start-up as well. The bytes of the bodies are laid out in StatusRecordLayout; how three
of LIB_INFO's bytes are coded, and a negative SP10 in the status record, is the model's own (log entries 31 and 34). -/
def Obligations.ReadingRequestsChangeNothing : Prop :=
  ∀ (dt : Nat) (p : Port) (tag : Byte) (s : State), (s.port p).state ≠ .outstanding →
    exec (.readStatus dt p tag) s
      = .next (formReply p 0x01 tag { result := .ok, clamped := false, body := statusRecord s } (s.after dt))
    ∧ (s.store.starting = false →
      exec (.readPlanHeader dt p tag) s
        = .next (formReply p 0x10 tag
            { result := .ok, clamped := false,
              body := le16 s.plan.planId ++ le16 s.plan.revision ++ byte s.plan.steps.length ++ byte s.plan.origin.code
                ++ byte (if s.plan.origin = .store then s.plan.slot.getD 255 else 255) } (s.after dt))
      ∧ (∀ (idx : Nat) (r : StepRecord), s.plan.steps[idx]? = some r →
          exec (.readStep dt p tag idx) s
            = .next (formReply p 0x11 tag
                { result := .ok, clamped := false,
                  body := le16 s.plan.revision ++ byte s.plan.steps.length ++ r.bytes } (s.after dt)))
      ∧ (∀ (pos : Nat) (e : LogEntry), s.engine.log[pos]? = some e →
          exec (.readRunLog dt p tag pos) s
            = .next (formReply p 0x27 tag
                { result := .ok, clamped := false, body := byte s.engine.log.length ++ e.bytes } (s.after dt)))
      ∧ (∀ pos : Nat, s.engine.log.length ≤ pos →
          exec (.readRunLog dt p tag pos) s
            = .next (formReply p 0x27 tag
                { result := .noStep, clamped := false, body := byte s.engine.log.length } (s.after dt)))
      ∧ exec (.readCal dt p tag) s
          = .next (formReply p 0x36 tag
              { result := .ok, clamped := false,
                body := sle32 s.scale.cal.zero ++ le16 s.scale.cal.span ++ sle16 s.scale.cal.drift
                  ++ sle16 s.scale.cal.tcal ++ sbyte s.scale.cal.offB ++ sbyte s.scale.cal.offC ++ le16 s.scale.cal.calId
                  ++ byte s.scale.status.code ++ byte (captureCode s.scale.pendingCapture)
                  ++ byte s.scale.tare.length } (s.after dt))
      ∧ exec (.libInfo dt p tag) s
          = .next (formReply p 0x53 tag
              { result := .ok, clamped := false, body := infoBody s.store } (s.after dt)))

/-- R184, R194, R197, R198: where each field of the status record stands (the bytes from `n` on, `k` of them), each of a run
log entry's 20 bytes, and each of LIB_INFO's body: eight directory entries of 7 bytes, slot 0 first, and 6 bytes more. (That
the calibration-area flag reads 1 for VALID, that the operation in flight is coded as in the status record, and that the
revision bytes read 0 while the revision is absent, is the model's own: log entry 31; so is a negative SP10 written in two's
complement: log entry 34.) -/
def Obligations.StatusRecordLayout : Prop :=
  (∀ s : State,
    let field := fun (n k : Nat) => ((statusRecord s).drop n).take k
    (statusRecord s).length = 58
      ∧ field 0 1 = byte s.engine.state.code
      ∧ field 1 1 = byte ((s.engine.endReason.map EndReason.code).getD 0)
      ∧ field 2 1 = byte ((s.engine.firstTrip.map Detector.id).getD 255)
      ∧ field 3 1 = byte s.engine.causes.code
      ∧ field 4 2 = le16 s.engine.trips.toNat
      ∧ field 6 1 = byte (s.liveIndex.getD 255)
      ∧ field 7 1 = byte ((s.phase.map Phase.code).getD 255)
      ∧ field 8 1 = byte (((s.engine.live.bind (·.returnPhase)).map Phase.code).getD 255)
      ∧ field 9 4 = le32 ((s.engine.live.map (·.active)).getD 0)
      ∧ field 13 4 = le32 s.engine.runClock
      ∧ field 17 2 = le16 s.plan.revision
      ∧ field 19 1 = byte s.plan.steps.length
      ∧ field 20 4 = sle32 s.scale.net
      ∧ field 24 4 = sle32 s.scale.gross
      ∧ field 28 1 = byte s.scale.status.code
      ∧ field 29 1 = byte (bit 0 s.scale.stable + bit 1 s.scale.lastSeq.isSome)
      ∧ field 30 1 = byte s.scale.tare.length
      ∧ field 31 2 = le16 (s.scale.lastSeq.getD 0)
      ∧ field 33 2 = sle16 s.conv.tb
      ∧ field 35 2 = sle16 s.conv.tc
      ∧ field 37 1 = byte (bit 0 s.conv.tbHeld + bit 1 s.conv.tcHeld)
      ∧ field 38 1 = byte s.heat.mode.code
      ∧ field 39 2 = sle16 (s.heat.sp.getD 0)
      ∧ field 41 1 = byte s.heat.frameW
      ∧ field 42 1 = byte s.heat.frameN
      ∧ (s.stir.measured < 65536 → field 43 2 = le16 s.stir.measured)
      ∧ field 45 2 = le16 s.stir.applied
      ∧ field 47 1 = byte s.stir.drive.code
      ∧ field 48 2 = le16 s.mon.realTime.toNat
      ∧ field 50 2 = le16 s.mon.latchedSet.toNat
      ∧ field 52 1 = byte s.permit.state.code
      ∧ field 53 1 = byte s.store.op.code
      ∧ field 54 1 = byte (s.store.op.slot.getD 255)
      ∧ field 55 1 = byte (if s.store.starting then 1 else 0)
      ∧ field 56 1 = byte s.notices.panelQ.length
      ∧ field 57 1 = byte s.notices.linkQ.length)
  ∧ (∀ e : LogEntry,
    let field := fun (n k : Nat) => (e.bytes.drop n).take k
    e.bytes.length = 20 ∧ field 0 1 = byte e.index ∧ field 1 2 = le16 e.tag ∧ field 3 1 = byte e.kind.code
    ∧ field 4 1 = byte (match e.reason with
        | .timer => 0
        | .temp => 1
        | .boil => 2
        | .weight => 3
        | .confirm => 4
        | .skipped => 5
        | .aborted => 6)
    ∧ field 5 4 = le32 e.active ∧ field 9 4 = le32 e.pausedFor
    ∧ field 13 4 = sle32 (e.added.getD (-2147483648)) ∧ field 17 2 = sle16 e.peak
    ∧ field 19 1 = byte ((if e.flags.refUnsteady then 1 else 0) + (if e.flags.fallback then 2 else 0)
        + (if e.flags.overdose then 4 else 0)))
  ∧ (∀ s : State, s.store.directory.length = 8 →
    let field := fun (n k : Nat) => ((infoBody s.store).drop n).take k
    (infoBody s.store).length = 62
    ∧ (∀ (slot : Nat) (e : DirEntry), s.store.directory[slot]? = some e →
        field (7 * slot) 1 = byte (if e.valid then 1 else 0) ∧ field (7 * slot + 1) 2 = le16 e.planId
        ∧ field (7 * slot + 3) 1 = byte e.count ∧ field (7 * slot + 4) 2 = le16 e.saves
        ∧ field (7 * slot + 6) 1 = byte (if 50000 ≤ e.saves then 1 else 0))
    ∧ field 56 1 = byte (if s.store.calValid then 1 else 0) ∧ field 57 1 = byte s.store.op.code
    ∧ field 58 1 = byte (s.store.op.slot.getD 255) ∧ field 59 1 = byte (if s.store.saveBuf.isSome then 1 else 0)
    ∧ (∀ x, s.store.saveBuf = some x → field 60 2 = le16 x.revision)
    ∧ (s.store.saveBuf = none → field 60 2 = le16 0))

/-! ### The Step Engine -/

/-- R38, R44, R47 to R50, R53: the checks of each run request in their order; a refused request is answered with the first
that fails and an empty body, and changes nothing else. -/
def Obligations.RunRequestRefusals : Prop :=
  ∀ (dt : Nat) (p : Port) (tag : Byte) (rev idx : Nat) (res : Result) (s : State), s.admits p = true →
    let refused := fun (kind : Byte) =>
      Host.Outcome.next (formReply p kind tag { result := res, clamped := false, body := [] } (s.after dt))
    let probeCounts := fun (heated : Bool) => heated && s.asserts .probeB
    let tripping := fun (heated : Bool) =>
      s.asserts .lockFault || s.asserts .overheat || s.asserts .dryPan || s.asserts .stall || s.asserts .probeC
        || probeCounts heated
    (firstFailure [(s.inRun, .wrongState), (s.loadInFlight, .busy), (decide (rev ≠ s.plan.revision), .stale),
        (decide (s.plan.steps.length ≤ idx), .range), (decide (s.permit.state ≠ .armed), .noPermit),
        (s.asserts .lidOpen, .lidOpen), (s.asserts .bowlAbsent, .noBowl),
        (tripping (((s.plan.steps[idx]?).map (fun r => decide (r.heatMode ≠ .off))).getD false), .causePresent)] = some res →
      exec (.startRun dt p tag rev idx) s = refused 0x20)
    ∧ (firstFailure [(decide (s.engine.state ≠ .running ∧ s.engine.state ≠ .paused), .wrongState)] = some res →
      exec (.pause dt p tag) s = refused 0x21)
    ∧ (firstFailure [(decide (s.engine.state ≠ .paused), .wrongState),
        (decide (s.engine.causes ≠ { request := true, lid := false, permit := false }), .causePresent),
        (s.asserts .bowlAbsent, .noBowl), (tripping s.liveHeated, .causePresent)] = some res →
      exec (.resume dt p tag) s = refused 0x22)
    ∧ (firstFailure [(!s.inRun, .wrongState)] = some res → exec (.abort dt p tag) s = refused 0x23)
    ∧ (firstFailure [(decide (s.engine.state ≠ .running ∧ s.engine.state ≠ .paused), .wrongState),
        (decide (s.liveIndex ≠ some idx), .wrongStep)] = some res →
      exec (.skipStep dt p tag idx) s = refused 0x24)
    ∧ (firstFailure [(decide (s.engine.state ≠ .running), .wrongState), (decide (s.liveIndex ≠ some idx), .wrongStep),
        (decide (s.phase = some .locking), .wrongState),
        (!((s.liveRecord.map (·.exits.confirm)).getD false)
          && !((s.engine.live.map (·.fallenBack)).getD false), .wrongState)] = some res →
      exec (.confirm dt p tag idx) s = refused 0x25)
    ∧ (p = .panel →
      firstFailure [(decide (s.engine.state ≠ .tripped), .wrongState),
        (decide (s.engine.trips &&& s.mon.realTime ≠ 0), .causePresent)] = some res →
      exec (.clearTrip dt p tag) s = refused 0x26)

/-- R24, R27 to R30, R33, R41, R42, R50, R101, R107, R129: whenever its checks pass, START_RUN runs and is answered OK with
the revision and the live index; a pending capture is aborted and answered ABORTED. The engine RUNNING on a fresh run record
enters the start step: its context and phase, its heat and stirring fields, its lock wish, and ENGINE_STATE, then TEMP_REACHED
where the target is met, STEP_BEGUN and PROMPT. With the lock held, LOCKING passes in the same event, and a phase entry
check may end the step at once. The model's own: ENGINE_STATE carries the start index and the reply the live index as the
event leaves it (log entry 17), and the loop run is made under the new boil hold (log entry 11). -/
def Obligations.StartRunEntersTheStartStep : Prop :=
  ∀ (dt : Nat) (p : Port) (tag : Byte) (rev idx : Nat) (r : StepRecord) (s : State),
    s.admits p = true → s.inRun = false → s.loadInFlight = false → rev = s.plan.revision →
    s.plan.steps[idx]? = some r → s.permit.state = .armed → s.asserts .lidOpen = false →
    s.asserts .bowlAbsent = false → s.asserts .lockFault = false → s.asserts .overheat = false →
    s.asserts .dryPan = false → s.asserts .stall = false → s.asserts .probeC = false →
    (s.asserts .probeB = false ∨ r.heatMode = .off) →
    let now := s.now + dt
    let fallen := s.fallsBack r
    let entry := entryPhase r fallen true s.lockReady (metAtEntry r s.heat.tb) (s.asserts .boil)
    let live := enteredLive idx r fallen entry.1 s.conv.tb now
    ∃ t : State, exec (.startRun dt p tag rev idx) s = .next t
      ∧ t.scale = { s.scale with pendingCapture := none }
      ∧ t.plan = s.plan ∧ t.conv = s.conv ∧ t.mon = s.mon ∧ t.permit = s.permit ∧ t.store = s.store
      ∧ ((p = .link ∨ s.scale.pendingCapture = none) →
          t.port p = (formReply p 0x20 tag
            { result := .ok, clamped := false, body := le16 rev ++ byte (t.liveIndex.getD 255) } s).port p)
      ∧ (∀ x q, p = .link → s.scale.pendingCapture = some x → s.panel.buffer = some q →
          t.panel = (formReply .panel q.kind q.tag { result := .aborted, clamped := false, body := [] } s).panel)
      ∧ (entry.2 = none →
          t.engine =
            { state := .running, causes := { request := false, lid := false, permit := false }, trips := 0,
              firstTrip := none, endReason := none, runClock := 0, log := [], timeBase := s.engine.timeBase,
              live := some live }
          ∧ heatEntered true now r s.heat t.heat ∧ t.heat.boilHold = (s.asserts .boil && decide (r.boil = .hold))
          ∧ stirEntered r s.stir t.stir ∧ t.lid.wish = !waitsForPerson r fallen
          ∧ t.notices = (entryNotices idx r fallen s.heat.tb (post (.engineState .running (some idx) 0) s)).notices)
      ∧ (∀ e, entry.2 = some e → ∃ more, t.engine.log = logEntryOf live r e :: more)

/-- R27, R37, R39, R44, R109: PAUSE taken while RUNNING enters PAUSED with the cause set {REQUEST}: heat forced off, applied
setpoint 0, the settle deadline and the wish for the lock withdrawn, phases and clocks kept, ENGINE_STATE posted. Taken
while PAUSED it changes nothing and is answered OK. -/
def Obligations.PauseStopsTheRun : Prop :=
  ∀ (dt : Nat) (p : Port) (tag : Byte) (s : State), s.admits p = true →
    (s.engine.state = .running →
      ∃ t : State, exec (.pause dt p tag) s = .next t
        ∧ t.engine = { s.engine with
            state := .paused, causes := { request := true, lid := false, permit := false }, trips := 0,
            firstTrip := none, live := s.engine.live.map (fun l => { l with settleBy := none }) }
        ∧ t.heat = { s.heat with
            gate := false, frameW := 0, next := { n := 100, w := 0, step := .none }, integral := 0, boilHold := false,
            countdown := match s.heat.countdown with
              | .running expiry => .frozen (expiry - (s.now + dt))
              | c => c }
        ∧ t.stir = { s.stir with applied := 0 } ∧ t.lid.wish = false
        ∧ t.notices = (post (.engineState .paused s.liveIndex 1) s).notices
        ∧ t.port p = (formReply p 0x21 tag { result := .ok, clamped := false, body := [] } s).port p
        ∧ t.plan = s.plan ∧ t.conv = s.conv ∧ t.scale = s.scale ∧ t.mon = s.mon ∧ t.permit = s.permit
        ∧ t.store = s.store)
    ∧ (s.engine.state = .paused →
      exec (.pause dt p tag) s
        = .next (formReply p 0x21 tag { result := .ok, clamped := false, body := [] } (s.after dt)))

/-- R26, R28 to R30, R39, R47, R111: a RESUME that passes its checks brings the engine to RUNNING with no cause and the ramp
countdown running on. A step in a working phase other than WAIT_CONFIRM goes back through LOCKING, with that phase as its
return phase; a step paused in LOCKING keeps both. Without the lock held it waits there. With it held LOCKING passes in the
same event: SETTLE starts a fresh deadline with the reference absent, and any other phase is checked, as WAIT_CONFIRM is, so
that the step goes on or ends at once. -/
def Obligations.ResumeGoesBackThroughLocking : Prop :=
  ∀ (dt : Nat) (p : Port) (tag : Byte) (l : Live) (r : StepRecord) (s : State),
    s.admits p = true → s.runSafe = true → s.engine.state = .paused →
    s.engine.causes = { request := true, lid := false, permit := false } → s.engine.live = some l →
    s.plan.steps[l.index]? = some r → s.asserts .bowlAbsent = false → s.asserts .lockFault = false →
    s.asserts .overheat = false → s.asserts .dryPan = false → s.asserts .stall = false → s.asserts .probeC = false →
    (s.asserts .probeB = false ∨ r.heatMode = .off) →
    let now := s.now + dt
    let work := if l.phase = .locking then l.returnPhase.getD .locking else l.phase
    let found := if l.phase ≠ .waitConfirm ∧ s.lockReady = false then (Phase.locking, none)
      else if work = .settle then (.settle, none)
      else checkedPhase r work l.active s.heat.reached (s.asserts .boil)
    let live := { l with
      phase := found.1
      returnPhase := if found.1 = .locking then some work else none
      settleBy := if found.1 = .settle then some (now + 5000000) else l.settleBy
      reference := if found.1 = .settle then none else l.reference }
    ∃ t : State, exec (.resume dt p tag) s = .next t
      ∧ t.port p = (formReply p 0x22 tag { result := .ok, clamped := false, body := [] } s).port p
      ∧ t.plan = s.plan ∧ t.conv = s.conv ∧ t.scale = s.scale ∧ t.mon = s.mon ∧ t.permit = s.permit
      ∧ t.store = s.store
      ∧ (found.2 = none →
          t.engine = { s.engine with
            state := .running, causes := { request := false, lid := false, permit := false }, live := some live }
          ∧ t.heat = { s.heat with
              boilHold := s.asserts .boil && decide (r.boil = .hold)
              countdown := match s.heat.countdown with
                | .frozen left => .running (now + left)
                | c => c }
          ∧ t.stir = s.stir ∧ t.lid.wish = !decide (l.phase = .waitConfirm)
          ∧ t.notices = (post (.engineState .running (some l.index) 0) s).notices)
      ∧ (∀ e, found.2 = some e → ∃ more, t.engine.log = s.engine.log ++ logEntryOf live r e :: more)

/-- R27, R49, R58, R109: ABORT taken during a run ends the live step with ABORTED and the run with it: the entry of R58 is
appended to the run log, the context is discarded, the cause set, trip set and first cause are emptied, the Heat Unit is
back at rest and nothing is driven. -/
def Obligations.AbortEndsTheRun : Prop :=
  ∀ (dt : Nat) (p : Port) (tag : Byte) (l : Live) (r : StepRecord) (s : State),
    s.admits p = true → s.inRun = true → s.engine.live = some l → s.plan.steps[l.index]? = some r →
    ∃ t : State, exec (.abort dt p tag) s = .next t
      ∧ t.engine = { s.engine with
          state := .ended, live := none, causes := { request := false, lid := false, permit := false }, trips := 0,
          firstTrip := none, endReason := some .aborted,
          log := s.engine.log ++
            [{ index := l.index, tag := r.tag, kind := l.kind, reason := .aborted, active := l.active,
               pausedFor := l.pausedFor, added := if l.kind = .dose then some l.lastAdded else none, peak := l.peak,
               flags := l.flags }] }
      ∧ t.heat.mode = .off ∧ t.heat.target = none ∧ t.heat.power = none ∧ t.heat.ramp = none ∧ t.heat.sp = none
      ∧ t.heat.dir = none ∧ t.heat.reached = false ∧ t.heat.countdown = .stopped ∧ t.heat.boilHold = false
      ∧ t.heat.frameN = s.heat.frameN ∧ t.undriven = true
      ∧ t.stir = { s.stir with applied := 0 } ∧ t.lid.wish = false
      ∧ t.notices = (post (.engineState .ended none 2) (post (.stepEnded l.index .aborted r.tag) s)).notices
      ∧ t.port p = (formReply p 0x23 tag { result := .ok, clamped := false, body := [] } s).port p
      ∧ t.plan = s.plan ∧ t.conv = s.conv ∧ t.scale = s.scale ∧ t.mon = s.mon ∧ t.permit = s.permit
      ∧ t.store = s.store

/-- R33 to R35, R38, R48, R58: SKIP_STEP and CONFIRM, where accepted, end the live step with SKIPPED and CONFIRM: its run log
entry is appended and STEP_ENDED posted. Where no step stands above it the run ends COMPLETED. Where one does, that step is
entered in the same engine state, with the context, fields and notices of its entry; a heated step entered under
PROBE_FAULT_B trips at once, and in RUNNING a phase entry check may end the step at once. The model's own: the trip keeps the
entry phase and comes before step 6 of R33 (log entry 12), and the loop run is made under the new boil hold (log entry 11). -/
def Obligations.SkipAndConfirmEndTheStep : Prop :=
  ∀ (dt : Nat) (p : Port) (tag kind : Byte) (c : Instr) (e : StepEnd) (l : Live) (r : StepRecord) (s : State),
    s.admits p = true → s.engine.live = some l → s.plan.steps[l.index]? = some r →
    ((c = .skipStep dt p tag l.index ∧ kind = 0x24 ∧ e = .skipped
        ∧ (s.engine.state = .running ∨ s.engine.state = .paused))
      ∨ (c = .confirm dt p tag l.index ∧ kind = 0x25 ∧ e = .confirm ∧ s.engine.state = .running
        ∧ l.phase ≠ .locking ∧ (r.exits.confirm = true ∨ l.fallenBack = true))) →
    let now := s.now + dt
    let running := decide (s.engine.state = .running)
    let ended := post (.stepEnded l.index e r.tag) s
    ∃ (t : State) (more : List LogEntry), exec c s = .next t
      ∧ t.engine.log = s.engine.log ++ logEntryOf l r e :: more
      ∧ t.port p = (formReply p kind tag { result := .ok, clamped := false, body := [] } s).port p
      ∧ t.plan = s.plan ∧ t.conv = s.conv ∧ t.scale = s.scale ∧ t.mon = s.mon ∧ t.permit = s.permit
      ∧ t.store = s.store
      ∧ (s.plan.steps[l.index + 1]? = none →
          t.engine = { s.engine with
            state := .ended, live := none, causes := { request := false, lid := false, permit := false }, trips := 0,
            firstTrip := none, endReason := some .completed, log := s.engine.log ++ [logEntryOf l r e] }
          ∧ t.undriven = true ∧ t.notices = (post (.engineState .ended none 1) ended).notices)
      ∧ (∀ r', s.plan.steps[l.index + 1]? = some r' →
          let fallen := s.fallsBack r'
          let entry := entryPhase r' fallen running s.lockReady (metAtEntry r' s.heat.tb) (s.asserts .boil)
          let live := fun (ph : Phase) => enteredLive (l.index + 1) r' fallen ph s.conv.tb now
          let begun := entryNotices (l.index + 1) r' fallen s.heat.tb ended
          ((s.asserts .probeB = false ∨ r'.heatMode = .off) →
            (entry.2 = none →
              t.engine = { s.engine with live := some (live entry.1), log := s.engine.log ++ [logEntryOf l r e] }
              ∧ heatEntered running now r' s.heat t.heat
              ∧ t.heat.boilHold = (running && s.asserts .boil && decide (r'.boil = .hold))
              ∧ stirEntered r' s.stir t.stir ∧ t.lid.wish = (running && !waitsForPerson r' fallen)
              ∧ t.notices = begun.notices)
            ∧ (∀ e', entry.2 = some e' →
                ∃ more', more = logEntryOf (live entry.1) r' e' :: more'))
          ∧ (s.asserts .probeB = true → r'.heatMode ≠ .off →
              t.engine = { s.engine with
                state := .tripped, causes := { request := false, lid := false, permit := false },
                trips := Detector.probeB.set, firstTrip := some .probeB, log := s.engine.log ++ [logEntryOf l r e]
                live := some (live (if waitsForPerson r' fallen then .waitConfirm else .locking)) }
              ∧ (∃ h, heatEntered running now r' s.heat h ∧ t.heat = heatForcedOff now h)
              ∧ (∃ st, stirEntered r' s.stir st ∧ t.stir = { st with applied := 0 }) ∧ t.lid.wish = false
              ∧ t.notices = (post (.engineState .tripped (some (l.index + 1)) 6)
                  (post (.trip Detector.probeB.set .probeB) begun)).notices))

/-- R53: CLEAR_TRIP from the panel, taken while TRIPPED with every member of the trip set clear, leaves the run PAUSED with
REQUEST, with LID where LID_OPEN is asserted and PERMIT where the permit is not ARMED; the step keeps its phases. -/
def Obligations.ClearTripLeavesTheRunPaused : Prop :=
  ∀ (dt : Nat) (tag : Byte) (s : State), s.admits .panel = true → s.engine.state = .tripped →
    s.engine.trips &&& s.mon.realTime = 0 →
    ∃ t : State, exec (.clearTrip dt .panel tag) s = .next t
      ∧ t.engine = { s.engine with
          state := .paused, trips := 0, firstTrip := none,
          causes := { request := true, lid := s.asserts .lidOpen, permit := decide (s.permit.state ≠ .armed) },
          live := s.engine.live.map (fun l => { l with settleBy := none }) }
      ∧ t.undriven = true ∧ t.lid.wish = false
      ∧ t.panel = (formReply .panel 0x26 tag { result := .ok, clamped := false, body := [] } s).panel
      ∧ t.plan = s.plan ∧ t.conv = s.conv ∧ t.scale = s.scale ∧ t.mon = s.mon ∧ t.permit = s.permit
      ∧ t.store = s.store

/-- R24, R28, R43, R22: every step of the part keeps the run safe: a live step exactly in RUNNING, PAUSED and TRIPPED, whose
index names a step of its kind in the plan, with a return phase exactly while LOCKING; the cause set, trip set, first cause
and end reason exactly in the states that hold them, REQUEST among the causes of PAUSED; no load in flight with a live step. -/
def Obligations.EveryStepKeepsTheRunSafe : Prop :=
  ∀ s t : State, s.runSafe = true → step s = .next t → t.runSafe = true

/-- R27, R106 to R109, R116, R120: every step of the part keeps the drive safe: the target, setpoint and direction stand
exactly in TEMP mode and the power exactly in POWER mode, the frame and the pending pair are whole, and outside RUNNING the
coil is off, the on-counts and the integral are 0 and the applied setpoint is 0. -/
def Obligations.EveryStepKeepsTheDriveSafe : Prop :=
  ∀ s t : State, s.driveSafe = true → step s = .next t → t.driveSafe = true

/-- R46, R164, R168: every step of the part keeps the permit safe: the engine is RUNNING only while the permit is ARMED. -/
def Obligations.EveryStepKeepsThePermitSafe : Prop :=
  ∀ s t : State, s.permitSafe = true → step s = .next t →
    t.permitSafe = true ∧ (t.engine.state = .running → t.permit.state = .armed)

/-- R59: an entry of the run log, once appended, does not change and keeps its place, whatever is done other than a reset, a
START_RUN, or a frame that carries START_RUN: on the Panel Port the frame of the select period, on the Link Port any frame
that the bytes complete. -/
def Obligations.RunLogOnlyGrows : Prop :=
  ∀ (c : Instr) (s t : State), exec c s = .next t →
    (match c with
      | .reset => False
      | .startRun _ _ _ _ _ => False
      | .panelRequestFrame _ bytes => ∀ frame, panelFrame bytes = some frame → frame.getD 1 0 ≠ 0x20
      | .linkFrameComplete _ bytes => ∀ frame ∈ LinkRx.completed bytes s.rx, frame.getD 1 0 ≠ 0x20
      | .linkByteReceived _ b => ∀ frame ∈ LinkRx.completed [b] s.rx, frame.getD 1 0 ≠ 0x20
      | _ => True) →
    ∃ more : List LogEntry, t.engine.log = s.engine.log ++ more

/-- R31, R32: an expiry of the time base adds 1 to the step clock in RUNNING in DWELL, DOSING and WAIT_CONFIRM, to the
paused count in PAUSED and TRIPPED, and to the run clock in RUNNING, while they are below 4,294,967,295 (what they read past
it is open: log entry 3). Where TIMER is enabled and the step clock then meets the duration, the step ends with TIMER;
otherwise nothing else changes. -/
def Obligations.TimeBaseTickCounts : Prop :=
  ∀ (dt : Nat) (s : State), ∃ t : State, exec (.timeBaseTick dt) s = .next t
    ∧ ∀ (l : Live) (r : StepRecord) (l' : Live),
      s.engine.live = some l → s.plan.steps[l.index]? = some r → l.active < 4294967295 → l.pausedFor < 4294967295 →
      s.engine.runClock < 4294967295 →
      l' = { l with
        active := if s.engine.state = .running ∧ l.phase ∈ [Phase.dwell, .dosing, .waitConfirm] then l.active + 1
          else l.active
        pausedFor := if s.engine.state = .paused ∨ s.engine.state = .tripped then l.pausedFor + 1 else l.pausedFor } →
      (¬(s.engine.state = .running ∧ l.phase ∈ [Phase.dwell, .dosing, .waitConfirm] ∧ r.exits.timer = true
          ∧ ∃ d, r.duration = some d ∧ 10 * d ≤ l'.active) →
        t = { (s.after dt) with
          free := t.free
          engine := { s.engine with
            live := some l'
            runClock := if s.engine.state = .running then s.engine.runClock + 1 else s.engine.runClock
            timeBase := s.now + dt + 100000 } })
      ∧ (s.engine.state = .running → l.phase ∈ [Phase.dwell, .dosing, .waitConfirm] → r.exits.timer = true →
          (∃ d, r.duration = some d ∧ 10 * d ≤ l'.active) →
          ∃ more, t.engine.log = s.engine.log ++ logEntryOf l' r .timer :: more)

/-- R39, R30: when the settle deadline runs out in RUNNING in SETTLE, the reference becomes the net the Scale Unit reports,
REF_UNSTEADY joins the log flags and the step moves to DOSING, where TIMER may end it at once. In any other state or phase
nothing changes: that an expiry of a stopped deadline does nothing is the model's own (log entry 1). -/
def Obligations.SettleDeadlineTakesTheReference : Prop :=
  ∀ (dt : Nat) (s : State),
    (¬(s.engine.state = .running ∧ s.phase = some .settle) → exec (.settleDeadline dt) s = .next (s.after dt))
    ∧ (∀ (l l' : Live) (r : StepRecord), s.engine.state = .running → s.engine.live = some l → l.phase = .settle →
        s.plan.steps[l.index]? = some r →
        l' = { l with reference := some s.scale.net, phase := .dosing, settleBy := none,
                      flags := { l.flags with refUnsteady := true } } →
        ((r.exits.timer = true → ∀ d, r.duration = some d → l.active < 10 * d) →
          exec (.settleDeadline dt) s = .next ((s.after dt).withEngine { s.engine with live := some l' }))
        ∧ (∀ d, r.exits.timer = true → r.duration = some d → 10 * d ≤ l.active →
          ∃ t more, exec (.settleDeadline dt) s = .next t
            ∧ t.engine.log = s.engine.log ++ logEntryOf l' r .timer :: more))

/-- R39, R40, R87: a weigh sample and a DOSE step. In SETTLE a stable one becomes the reference. In DOSING added = net −
reference is kept as last added and DOSE_NEAR is posted once at nine tenths of the target; at the target the step ends with
WEIGHT, with OVERDOSE and DOSE_OVER past the overdose limit, each posted before STEP_ENDED. Outside RUNNING it does nothing.
The sample that ends a weigh group comes with the net and the STABLE verdict that the chain forms. The model's own: its
SCALE_EVENT is posted before its results are handed on (log entry 16), and while G = 0 the engine is handed a net of 0 with
STABLE clear (log entry 23). -/
def Obligations.DoseStepWeighsAgainstItsReference : Prop :=
  (∀ (net : Int) (stable : Bool) (l : Live) (r : StepRecord) (s : State),
    s.engine.live = some l → s.plan.steps[l.index]? = some r →
    (s.engine.state ≠ .running → takeWeight net stable s = s)
    ∧ (s.engine.state = .running → l.phase = .settle →
        (r.exits.timer = true → ∀ d, r.duration = some d → l.active < 10 * d) →
        takeWeight net stable s =
          if stable then s.withEngine { s.engine with
            live := some { l with reference := some net, phase := .dosing, settleBy := none } }
          else s)
    ∧ (∀ (ref : Int) (g : Nat), s.engine.state = .running → l.phase = .dosing → l.reference = some ref →
        r.target = some g →
        let added := net - ref
        let target10 : Int := 10 * (g : Int)
        (added < target10 →
          takeWeight net stable s =
            if target10 * 9 / 10 ≤ added ∧ l.nearPosted = false then
              post (.doseNear l.index added) (s.withEngine { s.engine with
                live := some { l with lastAdded := added, nearPosted := true } })
            else s.withEngine { s.engine with live := some { l with lastAdded := added } })
        ∧ (target10 ≤ added →
          let past := decide (target10 + max (target10 / 10) 50 < added)
          let l' := { l with
            lastAdded := added, nearPosted := true
            flags := { l.flags with overdose := l.flags.overdose || past } }
          let near := if l.nearPosted then s else post (.doseNear l.index added) s
          let noted := if past then post (.doseOver l.index added) near else near
          let ended := post (.stepEnded l.index .weight r.tag) noted
          let t := takeWeight net stable s
          t = endStep .weight (noted.withEngine { s.engine with live := some l' })
          ∧ (∃ more, t.engine.log = s.engine.log ++ logEntryOf l' r .weight :: more)
          ∧ (s.plan.steps[l.index + 1]? = none →
              t.engine.state = .ended ∧ t.notices = (post (.engineState .ended none 1) ended).notices)
          ∧ (∀ r', s.plan.steps[l.index + 1]? = some r' → (s.asserts .probeB = false ∨ r'.heatMode = .off) →
              (entryPhase r' (s.fallsBack r') true s.lockReady (metAtEntry r' s.heat.tb) (s.asserts .boil)).2 = none →
              t.liveIndex = some (l.index + 1)
              ∧ t.notices = (entryNotices (l.index + 1) r' (s.fallsBack r') s.heat.tb ended).notices))))
  ∧ (∀ (dt began : Nat) (c0 c1 c2 c3 : Int) (s : State), s.conv.state = .weigh began →
      s.conv.weighDiscard = false → s.scale.pendingCapture = none →
      ∃ t u : State, exec (.weighGroupEnd dt c0 c1 c2 c3) s = .next t
        ∧ (let net := if s.scale.cal.span = 0 then 0 else t.scale.gross - s.scale.tare.headD 0
           let v := takeWeight net t.scale.stable u
           t.engine = v.engine ∧ t.heat = v.heat ∧ t.stir = v.stir ∧ t.lid = v.lid
           ∧ (s.scale.pendingTare = none → net = t.scale.net ∧ t = { v with conv := t.conv }))
        ∧ u.plan = s.plan
        ∧ ((t.asserts .bowlAbsent = s.asserts .bowlAbsent ∨ s.engine.state ≠ .running) → u.engine = s.engine)
        ∧ (t.asserts .bowlAbsent = s.asserts .bowlAbsent → t.asserts .overload = s.asserts .overload →
            s.scale.pendingTare = none →
            u = { (s.after dt) with
              scale := t.scale, mon := t.mon, conv := u.conv
              notices := if t.scale.status = s.scale.status then s.notices
                else (post (.scaleEvent t.scale.status s.scale.cal.calId (some s.conv.nextSeq)) s).notices }))

/-! ### Lid, protection and trips -/

/-- R150 and the table of 7.3, with R158's shortfall count as STALL's set count: how one input counts. A detector that
changes has both counts 0, and its latched flag set on an assertion; no other detector changes. -/
def Obligations.DetectorsCountInputsInARow : Prop :=
  ∀ (d : Detector) (q : Qualifies) (setLen clearLen : Nat) (s : State),
    (d, setLen, clearLen) ∈
      ([(.lidOpen, 3, 10), (.lockFault, 1, 10), (.overheat, 3, 20), (.dryPan, 20, 20), (.boil, 5, 10),
        (.stall, 200, 100), (.probeB, 1, 40), (.probeC, 1, 40), (.overload, 8, 8), (.bowlAbsent, 8, 8),
        (.supplyLow, 10, 10)] : List (Detector × Nat × Nat)) →
    let x := s.mon.get d
    let t := detectorInput d q s
    t.mon.get d =
      (if x.asserted then
        (if q = .toClear then
          (if clearLen ≤ x.clearCount + 1 then
            { asserted := false, latched := x.latched, setCount := 0, clearCount := 0 }
          else { x with clearCount := x.clearCount + 1 })
        else { x with clearCount := 0 })
      else
        (if q = .toAssert then
          (if setLen ≤ x.setCount + 1 then { asserted := true, latched := true, setCount := 0, clearCount := 0 }
          else { x with setCount := x.setCount + 1 })
        else { x with setCount := 0 }))
    ∧ (∀ d', d' ≠ d → t.mon.get d' = s.mon.get d')
    ∧ ((t.mon.get d).asserted = x.asserted →
        t = s.withMon (s.mon.put d (t.mon.get d)))

/-- R27, R51, R151, R163: the assertion of a trip-class detector while RUNNING or PAUSED (BOWL_ABSENT in RUNNING alone,
PROBE_FAULT_B while the live step is heated) makes the engine TRIPPED with that detector as trip set and first cause, keeps
the step's phases, forces everything off, and posts CONDITION before TRIP before ENGINE_STATE. -/
def Obligations.TripClassAssertionTripsTheRun : Prop :=
  ∀ (d : Detector) (s : State),
    ((d ∈ [Detector.lockFault, .overheat, .dryPan, .stall, .probeC]
        ∧ (s.engine.state = .running ∨ s.engine.state = .paused))
      ∨ (d = .probeB ∧ s.liveHeated = true ∧ (s.engine.state = .running ∨ s.engine.state = .paused))
      ∨ (d = .bowlAbsent ∧ s.engine.state = .running)) →
    let t := changeDetector d true s
    t.engine = { s.engine with
        state := .tripped, causes := { request := false, lid := false, permit := false }, trips := d.set,
        firstTrip := some d, live := s.engine.live.map (fun l => { l with settleBy := none }) }
      ∧ t.undriven = true ∧ t.heat.boilHold = false ∧ t.lid.wish = false
      ∧ (t.mon.get d).asserted = true ∧ (t.mon.get d).latched = true
      ∧ t.notices = (post (.engineState .tripped s.liveIndex d.id)
          (post (.trip d.set d) (post (.condition d.set t.mon.realTime) s))).notices

/-- R51, R52, R163: while TRIPPED, a trip-class assertion other than BOWL_ABSENT's joins the trip set and the first cause
stays, PROBE_FAULT_B's while the live step is heated; CONDITION is posted, and for a new member TRIP and ENGINE_STATE. (That
a member of the trip set adds nothing more is the model's own: log entry 10.) In IDLE and ENDED, for BOWL_ABSENT in PAUSED
and TRIPPED, and for PROBE_FAULT_B where the live step is not heated, the assertion reaches nothing in the engine. -/
def Obligations.FurtherAssertionsJoinTheTripSet : Prop :=
  ∀ (d : Detector) (s : State),
    d ∈ [Detector.lockFault, .overheat, .dryPan, .stall, .probeC, .probeB, .bowlAbsent] →
    let t := changeDetector d true s
    let told := post (.condition d.set t.mon.realTime) s
    let trips := s.engine.trips ||| d.set
    (s.engine.state = .tripped → d ≠ .bowlAbsent → (d = .probeB → s.liveHeated = true) →
      t.engine = { s.engine with trips := trips } ∧ t.heat = s.heat ∧ t.stir = s.stir ∧ t.lid = s.lid
      ∧ (∀ first, s.engine.firstTrip = some first → s.engine.trips.getLsbD d.id = false →
          t.notices = (post (.engineState .tripped s.liveIndex first.id) (post (.trip trips first) told)).notices)
      ∧ (s.engine.trips.getLsbD d.id = true → t.notices = told.notices))
    ∧ ((s.engine.state = .idle ∨ s.engine.state = .ended
        ∨ (d = .bowlAbsent ∧ (s.engine.state = .paused ∨ s.engine.state = .tripped))
        ∨ (d = .probeB ∧ s.liveHeated = false)) →
      t.engine = s.engine ∧ t.heat = s.heat ∧ t.stir = s.stir ∧ t.lid = s.lid ∧ t.notices = told.notices)

/-- R152: CLEAR_LATCHED is refused with RANGE when its set names more than the eleven detectors; otherwise it clears the
latched flag of each detector named that is CLEAR, changes nothing else, and answers with the latched set and the named
detectors kept because they are asserted. -/
def Obligations.ClearLatchedClearsNamedFlags : Prop :=
  ∀ (dt : Nat) (p : Port) (tag : Byte) (set : Word16) (s : State), s.admits p = true →
    (set &&& 0xF800 ≠ 0 →
      exec (.clearLatched dt p tag set) s
        = .next (formReply p 0x41 tag { result := .range, clamped := false, body := [] } (s.after dt)))
    ∧ (set &&& 0xF800 = 0 →
      ∃ m : Monitor, exec (.clearLatched dt p tag set) s
          = .next (formReply p 0x41 tag
              { result := .ok, clamped := false,
                body := le16 m.latchedSet.toNat ++ le16 (set &&& s.mon.realTime).toNat }
              ((s.after dt).withMon m))
        ∧ m.stallCurrent = s.mon.stallCurrent
        ∧ ∀ d : Detector, m.get d = { s.mon.get d with
            latched := (s.mon.get d).latched && !(set.getLsbD d.id && !(s.mon.get d).asserted) })

/-- R45, R147, R153, R154: an expiry of the sample timer keeps both samples and feeds LID_OPEN and LOCK_FAULT. Where neither
changes and no step waits in LOCKING, nothing else changes. The third open sample in RUNNING outside WAIT_CONFIRM pauses
the run with {LID, REQUEST}, and the tenth closed one takes LID out of the causes of a PAUSED run. A feedback still against
the demand 300 ms after the demand changed asserts LOCK_FAULT at once, which trips a RUNNING or PAUSED run. -/
def Obligations.LidSampleFeedsTheDetectors : Prop :=
  ∀ (dt : Nat) (lidIsOpen fbLocked : Bool) (s : State), ∃ t : State, exec (.lidSample dt lidIsOpen fbLocked) s = .next t
    ∧ t.lid.switch = some lidIsOpen ∧ t.lid.feedback = some fbLocked ∧ t.lid.sampleTimer = s.now + dt + 10000
    ∧ (let open' := if lidIsOpen then Qualifies.toAssert else .toClear
       let late := decide (fbLocked ≠ decide (s.lid.demand = .locked)) && decide (300000 ≤ s.now + dt - s.lid.demandAt)
       let lock' := if fbLocked = decide (s.lid.demand = .locked) then Qualifies.toClear
         else if late then .toAssert else .neither
       let noChange := decide (t.mon.lockFault.asserted = s.mon.lockFault.asserted)
       ((countInput 3 10 open' s.mon.lidOpen).2 = false → (countInput 1 10 lock' s.mon.lockFault).2 = false →
         s.phase ≠ some .locking →
         t = { (s.after dt) with
           lid := { s.lid with switch := some lidIsOpen, feedback := some fbLocked, sampleTimer := s.now + dt + 10000 }
           mon := { s.mon with
             lidOpen := (countInput 3 10 open' s.mon.lidOpen).1
             lockFault := (countInput 1 10 lock' s.mon.lockFault).1 } })
       ∧ (lidIsOpen = true → s.mon.lidOpen.asserted = false → 2 ≤ s.mon.lidOpen.setCount →
           t.mon.lidOpen = { asserted := true, latched := true, setCount := 0, clearCount := 0 }
           ∧ (s.engine.state = .running → s.phase ≠ some .waitConfirm → noChange = true →
               t.engine = { s.engine with
                 state := .paused, causes := { request := true, lid := true, permit := false }, trips := 0,
                 firstTrip := none, live := s.engine.live.map (fun l => { l with settleBy := none }) }
               ∧ t.undriven = true ∧ t.lid.wish = false
               ∧ t.notices = (post (.engineState .paused s.liveIndex 3)
                   (post (.condition Detector.lidOpen.set t.mon.realTime) s)).notices)
           ∧ ((s.engine.state ≠ .running ∨ s.phase = some .waitConfirm) → noChange = true →
               t.engine = s.engine
               ∧ t.notices = (post (.condition Detector.lidOpen.set t.mon.realTime) s).notices))
       ∧ (lidIsOpen = false → s.mon.lidOpen.asserted = true → 9 ≤ s.mon.lidOpen.clearCount →
           t.mon.lidOpen = { asserted := false, latched := s.mon.lidOpen.latched, setCount := 0, clearCount := 0 }
           ∧ (s.engine.state = .paused → s.engine.causes.lid = true → noChange = true →
               t.engine = { s.engine with causes := { s.engine.causes with lid := false } }
               ∧ t.notices = (post (.engineState .paused s.liveIndex t.engine.causes.code)
                   (post (.condition Detector.lidOpen.set t.mon.realTime) s)).notices))
       ∧ (late = true → s.mon.lockFault.asserted = false → (countInput 3 10 open' s.mon.lidOpen).2 = false →
           t.mon.lockFault = { asserted := true, latched := true, setCount := 0, clearCount := 0 }
           ∧ ((s.engine.state = .running ∨ s.engine.state = .paused) →
               t.engine = { s.engine with
                 state := .tripped, causes := { request := false, lid := false, permit := false },
                 trips := Detector.lockFault.set, firstTrip := some .lockFault
                 live := s.engine.live.map (fun l => { l with settleBy := none }) }
               ∧ t.undriven = true ∧ t.lid.wish = false
               ∧ t.notices = (post (.engineState .tripped s.liveIndex 1)
                   (post (.trip Detector.lockFault.set .lockFault)
                     (post (.condition Detector.lockFault.set t.mon.realTime) s))).notices)))

/-- R29, R147: a step RUNNING in LOCKING leaves it at the first sample that shows locked while the demand is LOCKED and
LID_OPEN is clear; here for a step that SETTLE, or a working phase with no end condition met, waits behind. -/
def Obligations.LockConfirmationEndsLocking : Prop :=
  ∀ (dt : Nat) (l : Live) (r : StepRecord) (ph : Phase) (s : State),
    s.engine.state = .running → s.engine.live = some l → s.plan.steps[l.index]? = some r → l.phase = .locking →
    l.returnPhase = some ph → ph ≠ .locking → s.lid.demand = .locked → s.lid.lidOpen = false →
    s.mon.lidOpen.asserted = false → s.mon.lockFault.asserted = false →
    s.heat.reached = false → s.mon.boil.asserted = false →
    (r.exits.timer = true → ∀ d, r.duration = some d → l.active < 10 * d) →
    ∃ t : State, exec (.lidSample dt false true) s = .next t
      ∧ t.engine = { s.engine with
          live := some { l with
            phase := ph, returnPhase := none
            settleBy := if ph = .settle then some (s.now + dt + 5000000) else l.settleBy
            reference := if ph = .settle then none else l.reference } }
      ∧ t.heat = s.heat ∧ t.stir = s.stir ∧ t.lid.demand = .locked ∧ t.notices = s.notices

/-- R148: the lock demand, decided at each change of an input; an unchanged demand keeps its time. -/
def Obligations.LockDemandFollowsItsTable : Prop :=
  ∀ (now : Nat) (l : Lid),
    (l.wish = true → l.lidOpen = false → (decideDemand now l).demand = .locked)
    ∧ (l.wish = true → l.lidOpen = true → (decideDemand now l).demand = l.demand)
    ∧ (l.wish = false → l.stopped = true → (decideDemand now l).demand = .unlocked)
    ∧ (l.wish = false → l.stopped = false → (decideDemand now l).demand = l.demand)
    ∧ (decideDemand now l).demandAt = (if (decideDemand now l).demand = l.demand then l.demandAt else now)
    ∧ decideDemand now l = { l with demand := (decideDemand now l).demand, demandAt := (decideDemand now l).demandAt }

/-- R148: whatever command is taken, the lock demand changes from LOCKED to UNLOCKED only while measured stir speed is 0. -/
def Obligations.LockIsReleasedOnlyAtRest : Prop :=
  ∀ (c : Instr) (s t : State), s.lidSafe = true → exec c s = .next t →
    t.lidSafe = true ∧ (s.lid.demand = .locked → t.lid.demand = .unlocked → t.stir.measured = 0)

/-- R46, R165, R166, R168: PERMIT from the panel. UNARMED or LAPSED, key 0x5A arms the permit and takes PERMIT out of the
causes of a PAUSED run, and any other key is refused with BAD_KEY and changes nothing. ARMED, the expected key at a first
renewal or from 1,000 ms on renews, and any other request lapses the permit, the key judged first. -/
def Obligations.PermitArmsRenewsAndLapses : Prop :=
  ∀ (dt : Nat) (tag key : Byte) (s : State), s.admits .panel = true →
    let now := s.now + dt
    let reply := fun (res : Result) (x : Permit) =>
      (formReply .panel 0x40 tag
        { result := res, clamped := false,
          body := byte x.state.code ++ [x.key] ++ byte ((x.lapse.map LapseReason.code).getD 255) } s).panel
    (s.permit.state ≠ .armed → key = 0x5A →
      ∃ t : State, exec (.permit dt .panel tag key) s = .next t
        ∧ t.permit = { state := .armed, key := 0xA5, renewal := some now, first := true, due := some (now + 1500000),
                       lapse := none }
        ∧ t.engine = (if s.engine.state = .paused then
            { s.engine with causes := { s.engine.causes with permit := false } } else s.engine)
        ∧ t.panel = reply .ok t.permit ∧ t.plan = s.plan ∧ t.heat = s.heat ∧ t.stir = s.stir ∧ t.lid = s.lid
        ∧ t.mon = s.mon ∧ t.scale = s.scale ∧ t.store = s.store ∧ t.conv = s.conv)
    ∧ (s.permit.state ≠ .armed → key ≠ 0x5A →
      exec (.permit dt .panel tag key) s = .next ((s.after dt).withPanel (reply .badKey s.permit)))
    ∧ (s.permit.state = .armed → key = s.permit.key →
        (s.permit.first = true ∨ ∃ at', s.permit.renewal = some at' ∧ 1000000 ≤ now - at') →
      ∃ t : State, exec (.permit dt .panel tag key) s = .next t
        ∧ t.permit = { s.permit with
            key := if s.permit.key = 0x5A then 0xA5 else 0x5A, renewal := some now, first := false,
            due := some (now + 1500000) }
        ∧ t = ((s.after dt).withPermit t.permit).withPanel (reply .ok t.permit))
    ∧ (s.permit.state = .armed →
        (key ≠ s.permit.key ∨ (s.permit.first = false ∧ ∃ at', s.permit.renewal = some at' ∧ now - at' < 1000000)) →
      ∃ t : State, exec (.permit dt .panel tag key) s = .next t
        ∧ t.permit = { state := .lapsed, key := 0x5A, renewal := none, first := false, due := none,
                       lapse := some (if key ≠ s.permit.key then .wrongKey else .early) }
        ∧ t.panel = reply .noPermit t.permit ∧ t.engine.state ≠ .running
        ∧ (s.engine.state = .running → t.engine.state = .paused
            ∧ t.engine.causes = { request := true, lid := false, permit := true } ∧ t.undriven = true)
        ∧ (s.engine.state = .paused → t.engine = { s.engine with causes := { s.engine.causes with permit := true } })
        ∧ (s.engine.state ≠ .running → s.engine.state ≠ .paused → t.engine = s.engine))

/-- R167, R168, R169: the renewal timer of an ARMED permit running out lapses it with EXPIRED; the due timer posts
PERMIT_DUE with the expected key for the panel port alone and stops. With no such timer running nothing changes. That
an expiry of a stopped timer, or an end of work not in progress, changes nothing is the model's own: log entry 1. -/
def Obligations.PermitTimersLapseAndCallForRenewal : Prop :=
  ∀ (dt : Nat) (s : State),
    (s.permit.state ≠ .armed → exec (.permitExpiry dt) s = .next (s.after dt))
    ∧ (s.permit.state = .armed →
      ∃ t : State, exec (.permitExpiry dt) s = .next t
        ∧ t.permit = { state := .lapsed, key := 0x5A, renewal := none, first := false, due := none,
                       lapse := some .expired }
        ∧ (s.engine.state = .running → t.engine.state = .paused
            ∧ t.engine.causes = { request := true, lid := false, permit := true } ∧ t.undriven = true)
        ∧ (s.engine.state = .paused → t.engine = { s.engine with causes := { s.engine.causes with permit := true } })
        ∧ (s.engine.state ≠ .running → s.engine.state ≠ .paused →
            t = post (.permitLapsed .expired) ((s.after dt).withPermit t.permit)))
    ∧ (s.permit.due = none → exec (.permitDueTimer dt) s = .next (s.after dt))
    ∧ (∀ at', s.permit.due = some at' →
      exec (.permitDueTimer dt) s
        = .next ((s.after dt).withPermit { s.permit with due := none } |>.withNotices
            { s.notices with
              panelQ := postTo s.notices.panelMask s.notices.uptime (.permitDue s.permit.key) s.notices.panelQ }))

/-! ### The Sensor Converter -/

/-- R62, R63, R64, R66: the two timers of the converter. An expiry of the sense timer begins a scan when the converter
is IDLE and sets scan due otherwise; an expiry of the free-running timer issues a weigh trigger, which begins a weigh
group when the converter is IDLE, waits behind a sense conversion, and is ignored in a weigh group. That an expiry of
a stopped timer, or an end of work not in progress, changes nothing is the model's own: log entry 1. -/
def Obligations.ConverterTimersStartItsWork : Prop :=
  ∀ (dt : Nat) (s : State),
    (exec (.senseTimerExpiry dt) s = .next ((s.after dt).withConv
      (match s.conv.state with
        | .idle => { s.conv with state := .sense .tb, scanPos := some .tc, senseTimer := s.now + dt + 50000 }
        | _ => { s.conv with scanDue := true, senseTimer := s.now + dt + 50000 })))
    ∧ (s.conv.freeTimer = none → exec (.freeTrigger dt) s = .next (s.after dt))
    ∧ (∀ at', s.conv.freeTimer = some at' →
      exec (.freeTrigger dt) s = .next ((s.after dt).withConv
        (match s.conv.state with
          | .idle => { s.conv with freeTimer := some (s.now + dt + 25000), state := .weigh (s.now + dt), exc := true }
          | .sense _ => { s.conv with freeTimer := some (s.now + dt + 25000), weighWaiting := true }
          | .weigh _ => { s.conv with freeTimer := some (s.now + dt + 25000) })))

/-- R65, R71 to R75: the end of a sense conversion. While the first scan is discarded nothing is delivered. Otherwise
a plausible TB or TC code sets the value and clears HELD, an implausible one keeps the value and sets HELD, either
verdict joins the history, and IM and VS take their values. The detectors take their inputs: TB those of PROBE_FAULT_B
and DRY_PAN, TC those of PROBE_FAULT_C and OVERHEAT, IM STALL's current count, VS that of SUPPLY_LOW; no other detector
is fed. Then the arbiter serves a waiting weigh trigger, goes on with the scan, or becomes IDLE. With no conversion in
progress nothing changes. That an end of work not in progress changes nothing, and the start value of the offset that
TC10 is held with, are the model's own: log entries 1 and 30. -/
def Obligations.SenseConversionEndsAndIsDelivered : Prop :=
  ∀ (dt code : Nat) (s : State), code < 4096 →
    ((∀ ch, s.conv.state ≠ .sense ch) → exec (.senseConversionEnd dt code) s = .next (s.after dt))
    ∧ (∀ ch, s.conv.state = .sense ch →
      ∃ t : State, exec (.senseConversionEnd dt code) s = .next t
        ∧ (let good := decide (20 ≤ code ∧ code ≤ 4075)
           let value : Int := ((code * 2900 / 4096 : Nat) : Int) - 400
           let c := s.conv
           if c.senseDiscard then
             t.conv.tb = c.tb ∧ t.conv.tc = c.tc ∧ t.conv.im = c.im ∧ t.conv.vs = c.vs ∧ t.conv.tbHeld = c.tbHeld
               ∧ t.conv.tcHeld = c.tcHeld ∧ t.conv.tbHist = c.tbHist ∧ t.conv.tcHist = c.tcHist
               ∧ t.mon = s.mon ∧ t.engine = s.engine ∧ t.heat = s.heat ∧ t.stir = s.stir ∧ t.notices = s.notices
           else
             t.conv.tb = (if ch = .tb ∧ good then value + s.scale.cal.offB else c.tb)
               ∧ t.conv.tbHeld = (if ch = .tb then !good else c.tbHeld)
               ∧ t.conv.tbHist = (if ch = .tb then c.tbHist.drop 1 ++ [good] else c.tbHist)
               ∧ t.conv.tc = (if ch = .tc ∧ good then value + s.scale.cal.offC else c.tc)
               ∧ t.conv.tcHeld = (if ch = .tc then !good else c.tcHeld)
               ∧ t.conv.tcHist = (if ch = .tc then c.tcHist.drop 1 ++ [good] else c.tcHist)
               ∧ t.conv.im = (if ch = .im then code * 4 else c.im)
               ∧ t.conv.vs = (if ch = .vs then code * 1200 / 4096 else c.vs)
               ∧ t.conv.tcOffset = (if ch = .tc ∧ good then s.scale.cal.offC else c.tcOffset)
               ∧ (ch = .tb → t.heat.tb = t.conv.tb ∧ t.heat.tbHeld = t.conv.tbHeld ∧ t.stir.tb = t.conv.tb)
               ∧ (let probe := fun (d : Detector) (hist : List Bool) =>
                    if s.asserts d then (if good then Qualifies.toClear else .neither)
                    else if 3 ≤ (hist.filter (fun v => !v)).length then .toAssert else .neither
                  let above := fun (lo hi x : Int) =>
                    if hi < x then Qualifies.toAssert else if x < lo then .toClear else .neither
                  let v := code * 1200 / 4096
                  match ch with
                  | .tb => t.mon = (detectorInput .dryPan (above 1500 1750 t.conv.tb)
                      (detectorInput .probeB (probe .probeB t.conv.tbHist) s)).mon
                  | .tc => t.mon = (detectorInput .overheat (above 2000 2300 t.conv.tc)
                      (detectorInput .probeC (probe .probeC t.conv.tcHist) s)).mon
                  | .im => t.mon =
                      (if s.mon.stall.asserted then s.mon
                       else if code * 4 ≤ 12000 then { s.mon with stallCurrent := 0 }
                       else if s.mon.stallCurrent + 1 < 10 then
                         { s.mon with stallCurrent := s.mon.stallCurrent + 1 }
                       else
                         { s.mon with
                           stall := { asserted := true, latched := true, setCount := 0, clearCount := 0 }
                           stallCurrent := 0 })
                      ∧ t.stir.im = some (code * 4,
                          if 12000 < code * 4 then .above else if code * 4 < 10000 then .below else .inside)
                  | .vs => t.mon = (detectorInput .supplyLow
                      (if v < 900 then .toAssert else if 930 < v then .toClear else .neither) s).mon))
        ∧ t.conv.senseDiscard = (if ch = .vs then false else s.conv.senseDiscard)
        ∧ (let next : Option Channel := match ch with
             | .tb => some .tc
             | .tc => some .im
             | .im => some .vs
             | .vs => if s.conv.scanDue then some .tb else none
           if s.conv.weighWaiting then
             t.conv.state = .weigh (s.now + dt) ∧ t.conv.exc = true ∧ t.conv.weighWaiting = false
               ∧ t.conv.scanPos = next
           else match next with
             | some ch' => t.conv.state = .sense ch' ∧ t.conv.scanPos = nextChannel ch'
             | none => t.conv.state = .idle ∧ t.conv.scanPos = none)
        ∧ t.plan = s.plan ∧ t.scale = s.scale ∧ t.permit = s.permit ∧ t.store = s.store)

/-- R62, R65, R68 to R71, R81 to R86, R105, R160, R161: the end of a weigh group. EXC goes off and the arbiter goes on with
the scan, begins the scan that is due, or becomes IDLE. The first group after reset forms no sample. Any other takes the
next sequence number and is carried through the chain: with G = 0 the weights are 0, otherwise the gross value joins the
window with its MOTION and OVERRANGE flags, F is the rounded mean, STABLE is judged over a full window, and F's bands are
the inputs of OVERLOAD and BOWL_ABSENT. A status that changes posts SCALE_EVENT. That an expiry of a stopped timer, or an end of work not in progress, changes
nothing is the model's own: log entry 1. -/
def Obligations.WeighGroupEndsAndIsWeighed : Prop :=
  ∀ (dt began : Nat) (c0 c1 c2 c3 : Int) (s : State),
    ((∀ at', s.conv.state ≠ .weigh at') → exec (.weighGroupEnd dt c0 c1 c2 c3) s = .next (s.after dt))
    ∧ (s.conv.state = .weigh began →
      ∃ t : State, exec (.weighGroupEnd dt c0 c1 c2 c3) s = .next t
        ∧ t.conv.exc = false ∧ t.conv.weighDiscard = false
        ∧ (match s.conv.scanPos with
            | some ch => t.conv.state = .sense ch ∧ t.conv.scanPos = nextChannel ch ∧ t.conv.scanDue = s.conv.scanDue
            | none =>
              if s.conv.scanDue then
                t.conv.state = .sense .tb ∧ t.conv.scanPos = some .tc ∧ t.conv.scanDue = false
              else t.conv.state = .idle)
        ∧ (s.conv.weighDiscard = true → t.scale = s.scale ∧ t.mon = s.mon ∧ t.engine = s.engine
            ∧ t.conv.nextSeq = s.conv.nextSeq)
        ∧ (s.conv.weighDiscard = false →
            t.conv.nextSeq = (if s.conv.nextSeq < 65535 then s.conv.nextSeq + 1 else 0)
            ∧ t.scale.lastSeq = some s.conv.nextSeq
            ∧ (s.scale.pendingTare = none → s.scale.pendingCapture = none →
                let S := clampInt (-524288) 524287 c0 + clampInt (-524288) 524287 c1 + clampInt (-524288) 524287 c2
                  + clampInt (-524288) 524287 c3
                let gross := roundDiv ((S - s.scale.cal.zero) * s.scale.cal.span) 65536
                  - roundDiv (s.scale.cal.drift * (s.conv.tc - s.scale.cal.tcal)) 100
                let k := clampInt (-524288) 524287
                let w := t.scale.window
                t.scale.cal = s.scale.cal ∧ t.scale.tare = s.scale.tare
                ∧ (s.scale.cal.span = 0 →
                    t.scale.gross = 0 ∧ t.scale.net = 0 ∧ t.scale.stable = false ∧ w = s.scale.window
                    ∧ t.scale.status = (if s.scale.status = .restarting then .uncalibrated else s.scale.status)
                    ∧ t.mon = s.mon)
                ∧ (s.scale.cal.span ≠ 0 →
                    w = (if s.scale.window.length < 8 then s.scale.window else s.scale.window.drop 1) ++
                      [{ gross := gross
                         motion := decide (600 < s.stir.measured ∨ (s.stir.ramped ≠ 0 ∧ s.stir.measured = 0))
                         overrange := [k c0, k c1, k c2, k c3].any (fun c => decide (c = -524288 ∨ c = 524287)) }]
                    ∧ t.scale.gross = roundDiv (w.map (·.gross)).sum w.length
                    ∧ t.scale.net = t.scale.gross - s.scale.tare.headD 0
                    ∧ (t.scale.stable = true ↔ w.length = 8 ∧ (∀ a ∈ w, ∀ b ∈ w, a.gross - b.gross ≤ 20)
                        ∧ ∀ a ∈ w, a.motion = false ∧ a.overrange = false)
                    ∧ t.scale.status = (if s.scale.status = .restarting then .ready else s.scale.status)
                    ∧ t.mon = (detectorInput .bowlAbsent
                        (if t.scale.gross < 5000 then .toAssert else if 6000 < t.scale.gross then .toClear else .neither)
                        (detectorInput .overload
                          (if 100000 < t.scale.gross then .toAssert else if t.scale.gross < 95000 then .toClear
                           else .neither) s)).mon)
                ∧ (s.engine.state ≠ .running → t.asserts .overload = s.asserts .overload →
                    t.asserts .bowlAbsent = s.asserts .bowlAbsent →
                    t.engine = s.engine ∧ t.heat = s.heat ∧ t.stir = s.stir ∧ t.lid = s.lid
                    ∧ t.notices = (if t.scale.status = s.scale.status then s.notices
                        else (post (.scaleEvent t.scale.status s.scale.cal.calId (some s.conv.nextSeq)) s).notices)))))

/-! ### The Scale Unit -/

/-- R84, R89, R90, R93, R94, R95: the three tare requests. A refused one is answered with the first check that fails. An
accepted TARE_PUSH waits, with its port and a deadline of 3 s, and its request stays outstanding with no reply; TARE_POP
removes the top level, TARE_CLEAR all of them, and the net is formed again from F and the new top. -/
def Obligations.TareRequestsChangeTheStack : Prop :=
  ∀ (dt : Nat) (p : Port) (tag : Byte) (s : State), s.admits p = true →
    let busy := s.scale.pendingTare.isSome || s.scale.pendingCapture.isSome
    let refused := fun (kind : Byte) (res : Result) =>
      Host.Outcome.next (formReply p kind tag { result := res, clamped := false, body := [] } (s.after dt))
    (∀ res, firstFailure [(decide (s.scale.status = .uncalibrated), .wrongState), (busy, .busy),
        (decide (4 ≤ s.scale.tare.length), .full)] = some res → exec (.tarePush dt p tag) s = refused 0x30 res)
    ∧ (s.scale.status ≠ .uncalibrated → busy = false → s.scale.tare.length < 4 →
      exec (.tarePush dt p tag) s
        = .next (((s.after dt).withScale
            { s.scale with pendingTare := some { port := p, deadline := s.now + dt + 3000000 } }).setPort p
            { state := .outstanding, buffer := some { kind := 0x30, tag := tag }, overrun := (s.port p).overrun,
              reply := if (s.port p).state = .replyReady then none else (s.port p).reply }))
    ∧ (∀ res, firstFailure [(busy, .busy), (decide (s.scale.tare = []), .range)] = some res →
        exec (.tarePop dt p tag) s = refused 0x31 res)
    ∧ (∀ top rest, busy = false → s.scale.tare = top :: rest →
      exec (.tarePop dt p tag) s
        = .next (formReply p 0x31 tag
            { result := .ok, clamped := false, body := byte rest.length ++ sle32 (rest.headD 0) }
            (post (.tareChanged rest.length rest.head? .pop (some p))
              ((s.after dt).withScale { s.scale with tare := rest, net := s.scale.gross - rest.headD 0 }))))
    ∧ (busy = true → exec (.tareClear dt p tag) s = refused 0x32 .busy)
    ∧ (busy = false →
      exec (.tareClear dt p tag) s
        = .next (formReply p 0x32 tag { result := .ok, clamped := false, body := byte 0 }
            (post (.tareChanged 0 none .clear (some p))
              ((s.after dt).withScale { s.scale with tare := [], net := s.scale.gross }))))

/-- R80, R88, R91, R92, R101: what ends a tare or a capture that waits. A RESTART_SCALE empties the window, clears
STABLE, makes the status RESTARTING, or UNCALIBRATED with G = 0, and answers what waits with ABORTED; the two
deadlines answer it with UNSTABLE, and change nothing where nothing waits. That an expiry of a stopped timer, or an
end of work not in progress, changes nothing is the model's own: log entry 1. -/
def Obligations.RestartsAndDeadlinesEndWhatWaits : Prop :=
  ∀ (dt : Nat) (p : Port) (tag : Byte) (s : State), s.portSafe = true →
    (s.admits p = true →
      ∃ t : State, exec (.restartScale dt p tag) s = .next t
        ∧ t.scale = { s.scale with
            window := [], stable := false, pendingTare := none, pendingCapture := none,
            status := if s.scale.cal.span = 0 then .uncalibrated else .restarting }
        ∧ t.notices = (if t.scale.status = s.scale.status then s.notices
            else (post (.scaleEvent t.scale.status s.scale.cal.calId s.scale.lastSeq) s).notices)
        ∧ t.port p = (formReply p 0x33 tag { result := .ok, clamped := false, body := [] } s).port p
        ∧ (∀ x r, s.scale.pendingTare = some x → (s.port x.port).buffer = some r →
            t.port x.port
              = (formReply x.port r.kind r.tag { result := .aborted, clamped := false, body := [] } s).port x.port)
        ∧ (∀ x r, s.scale.pendingCapture = some x → s.panel.buffer = some r →
            t.panel = (formReply .panel r.kind r.tag { result := .aborted, clamped := false, body := [] } s).panel)
        ∧ t.engine = s.engine ∧ t.conv = s.conv ∧ t.heat = s.heat ∧ t.stir = s.stir ∧ t.mon = s.mon ∧ t.plan = s.plan
        ∧ t.permit = s.permit ∧ t.store = s.store ∧ t.lid = s.lid)
    ∧ (s.scale.pendingTare = none → exec (.tareDeadline dt) s = .next (s.after dt))
    ∧ (∀ x r, s.scale.pendingTare = some x → (s.port x.port).buffer = some r →
        exec (.tareDeadline dt) s
          = .next (formReply x.port r.kind r.tag { result := .unstable, clamped := false, body := [] }
              ((s.after dt).withScale { s.scale with pendingTare := none })))
    ∧ (s.scale.pendingCapture = none → exec (.captureDeadline dt) s = .next (s.after dt))
    ∧ (∀ x r, s.scale.pendingCapture = some x → s.panel.buffer = some r →
        exec (.captureDeadline dt) s
          = .next (formReply .panel r.kind r.tag { result := .unstable, clamped := false, body := [] }
              ((s.after dt).withScale { s.scale with pendingCapture := none })))

/-- R100: CAL_ZERO and CAL_SPAN from the panel. A refused one is answered with the first check that fails; an accepted one
becomes the pending capture, with a sum and a count of 0 and a deadline of 5 s, and its request stays outstanding. -/
def Obligations.CaptureRequestsWaitForSamples : Prop :=
  ∀ (dt : Nat) (tag kind : Byte) (c : Instr) (body : CaptureBody) (inRange : Bool) (s : State),
    s.admits .panel = true →
    ((∃ calId drift offB offC, c = .calZero dt .panel tag calId drift offB offC ∧ kind = 0x34
        ∧ body = .zero calId drift offB offC
        ∧ inRange = decide (calId ≤ 65535 ∧ -500 ≤ drift ∧ drift ≤ 500 ∧ -50 ≤ offB ∧ offB ≤ 50 ∧ -50 ≤ offC ∧ offC ≤ 50))
      ∨ (∃ known calId, c = .calSpan dt .panel tag known calId ∧ kind = 0x35 ∧ body = .span known calId
        ∧ inRange = decide (1000 ≤ known ∧ known ≤ 100000 ∧ calId ≤ 65535))) →
    let checks := [(s.inRun, Result.wrongState),
      (s.scale.pendingTare.isSome || s.scale.pendingCapture.isSome, .busy), (!inRange, .range),
      (decide (s.stir.measured ≠ 0), .unstable)]
    (∀ res, firstFailure checks = some res →
      exec c s = .next (formReply .panel kind tag { result := res, clamped := false, body := [] } (s.after dt)))
    ∧ (firstFailure checks = none →
      exec c s = .next (((s.after dt).withScale
        { s.scale with
          pendingCapture := some { body := body, sum := 0, count := 0, deadline := s.now + dt + 5000000 } }).withPanel
        { state := .outstanding, buffer := some { kind := kind, tag := tag }, overrun := s.panel.overrun,
          reply := if s.panel.state = .replyReady then none else s.panel.reply }))

/-- R87, R91: a delivered weigh sample completes a pending tare exactly when its STABLE verdict is set: its F becomes the new
top, the net 0, and the reply goes out on its port with the new top, the depth and the sequence number. A sample that is
not STABLE leaves it waiting. -/
def Obligations.StableSampleCompletesTheTare : Prop :=
  ∀ (dt began : Nat) (c0 c1 c2 c3 : Int) (x : PendingTare) (r : ReqId) (s : State),
    s.conv.state = .weigh began → s.conv.weighDiscard = false → s.scale.cal.span ≠ 0 →
    s.scale.pendingTare = some x → s.scale.pendingCapture = none → (s.port x.port).buffer = some r →
    ∃ t : State, exec (.weighGroupEnd dt c0 c1 c2 c3) s = .next t
      ∧ t.scale.cal = s.scale.cal
      ∧ (t.scale.stable = true →
          t.scale.pendingTare = none ∧ t.scale.tare = t.scale.gross :: s.scale.tare ∧ t.scale.net = 0
          ∧ t.port x.port = (formReply x.port r.kind r.tag
              { result := .ok, clamped := false,
                body := sle32 t.scale.gross ++ byte (s.scale.tare.length + 1) ++ le16 s.conv.nextSeq } s).port x.port)
      ∧ (t.scale.stable = false →
          t.scale.pendingTare = some x ∧ t.scale.tare = s.scale.tare ∧ t.port x.port = s.port x.port)

/-- R98, R101 to R103: a delivered weigh sample and a pending capture. A sample with MOTION or OVERRANGE, or taken while the
stirrer's measured speed is not 0, ends it with UNSTABLE; the first seven good samples are summed and counted; the eighth
sets the zero, or the span where the span count and the factor are in range, clears the tare stack, restarts the scale with
F and the net held (log entry 15), and is answered OK. -/
def Obligations.EighthSampleCompletesTheCapture : Prop :=
  ∀ (dt began : Nat) (c0 c1 c2 c3 : Int) (x : PendingCapture) (r : ReqId) (s : State),
    s.conv.state = .weigh began → s.conv.weighDiscard = false → s.scale.pendingTare = none →
    s.scale.pendingCapture = some x → s.panel.buffer = some r →
    let k := clampInt (-524288) 524287
    let clipped := [k c0, k c1, k c2, k c3].any (fun v => decide (v = -524288 ∨ v = 524287))
    let sum := x.sum + (k c0 + k c1 + k c2 + k c3)
    let bad := decide (s.stir.measured ≠ 0 ∨ s.stir.ramped ≠ 0) || clipped
    let replied := fun (res : Result) (body : List Byte) =>
      (formReply .panel r.kind r.tag { result := res, clamped := false, body := body } s).panel
    let gross := roundDiv ((k c0 + k c1 + k c2 + k c3 - s.scale.cal.zero) * s.scale.cal.span) 65536
      - roundDiv (s.scale.cal.drift * (s.conv.tc - s.scale.cal.tcal)) 100
    let entries := ((if s.scale.window.length < 8 then s.scale.window else s.scale.window.drop 1).map (·.gross)) ++ [gross]
    let held := fun (t : State) =>
      if s.scale.cal.span = 0 then t.scale.gross = 0 ∧ t.scale.net = 0
      else t.scale.gross = roundDiv entries.sum entries.length
        ∧ t.scale.net = roundDiv entries.sum entries.length - s.scale.tare.headD 0
    ∃ t : State, exec (.weighGroupEnd dt c0 c1 c2 c3) s = .next t
      ∧ (bad = true → t.scale.pendingCapture = none ∧ t.scale.cal = s.scale.cal ∧ t.panel = replied .unstable [])
      ∧ (bad = false → x.count < 7 →
          t.scale.pendingCapture = some { x with sum := sum, count := x.count + 1 } ∧ t.scale.cal = s.scale.cal
          ∧ t.panel = s.panel)
      ∧ (bad = false → x.count = 7 → t.scale.pendingCapture = none
          ∧ (∀ calId drift offB offC, x.body = .zero calId drift offB offC →
              t.scale.cal = { zero := roundDiv sum 8, span := s.scale.cal.span, drift := drift,
                              tcal := clampInt 0 600 (s.conv.tc - s.conv.tcOffset + offC), offB := offB, offC := offC,
                              calId := calId }
              ∧ t.panel = replied .ok (sle32 t.scale.cal.zero ++ sle16 t.scale.cal.tcal ++ le16 calId)
              ∧ t.scale.tare = [] ∧ t.scale.window = [] ∧ t.scale.stable = false ∧ held t
              ∧ t.scale.status = (if s.scale.cal.span = 0 then .uncalibrated else .restarting))
          ∧ (∀ known calId, x.body = .span known calId →
              let e := roundDiv sum 8 - s.scale.cal.zero
              let factor := roundDiv ((known : Int) * 65536) e.toNat
              ((e < 1000 ∨ 65535 < factor) → t.scale.cal = s.scale.cal ∧ t.panel = replied .range [])
              ∧ (1000 ≤ e → factor ≤ 65535 → 1000 ≤ known →
                  t.scale.cal = { s.scale.cal with span := factor.toNat, calId := calId }
                  ∧ t.panel = replied .ok (le16 factor.toNat ++ le16 calId)
                  ∧ t.scale.tare = [] ∧ t.scale.window = [] ∧ t.scale.stable = false
                  ∧ (factor ≠ 0 → held t ∧ t.scale.status = .restarting))))

/-- R79, R84, R85, R89, R90, R97, R98: every step of the part keeps the Scale Unit's figures safe: in particular the net is F
less the top of the stack, but where a change of calibration holds both until the next sample (log entry 15). -/
def Obligations.EveryStepKeepsTheScaleSafe : Prop :=
  ∀ s t : State, s.scale.safe = true → step s = .next t → t.scale.safe = true

/-- R90, R100, R186, R190: every step of the part keeps the ports safe: a request that is answered later stays outstanding
in its port's buffer with no reply, and a reply stands in a slot exactly while one waits or is being sent. -/
def Obligations.EveryStepKeepsThePortsSafe : Prop :=
  ∀ s t : State, s.portSafe = true → step s = .next t → t.portSafe = true

/-! ### The Stir Unit -/

/-- R66, R132 to R134: a tach edge joins its interval to the ring, forms measured speed by R133, starts the no-edge
timer and clears the stopped indication; the no-edge timeout empties the ring and makes measured speed 0 with the
indication set, and changes nothing where the timer does not run. A measured speed that changes sets the trigger mode,
and an edge that begins and ends in TACH is counted. (With intervals that sum to 0 µs the speed is a free value: log
entry 3.) That an expiry of a stopped timer, or an end of work not in progress, changes nothing is the model's own:
log entry 1. -/
def Obligations.TachEdgesMeasureTheSpeed : Prop :=
  ∀ (dt : Nat) (ring : List Nat) (s : State),
    let now := s.now + dt
    ring = (match s.stir.lastEdge with
      | some at' => (if s.stir.ring.length < 12 then s.stir.ring else s.stir.ring.drop 1) ++ [now - at']
      | none => s.stir.ring) →
    (∃ t : State, exec (.tachEdge dt) s = .next t
      ∧ t.stir = { s.stir with
          ring := ring, lastEdge := some now, noEdge := some (now + 250000), stopped := false,
          measured := t.stir.measured }
      ∧ (ring = [] → t.stir.measured = 0)
      ∧ (ring.sum ≠ 0 → t.stir.measured = 5000000 * ring.length / ring.sum)
      ∧ t.lid.stopped = false ∧ t.lid.wish = s.lid.wish ∧ (s.lid.wish = false → t.lid.demand = s.lid.demand)
      ∧ t.conv.mode = (if t.stir.measured = s.stir.measured then s.conv.mode
          else if 1 ≤ t.stir.measured ∧ t.stir.measured ≤ 600 then .tach else .free)
      ∧ (t.conv.mode ≠ s.conv.mode → t.conv.edges = 0
          ∧ t.conv.freeTimer = if t.conv.mode = .free then some (now + 25000) else none)
      ∧ (t.conv.mode = s.conv.mode → t.conv.freeTimer = s.conv.freeTimer
          ∧ (s.conv.mode = .free → t.conv = s.conv)
          ∧ (s.conv.mode = .tach → s.conv.edges < 5 → t.conv = { s.conv with edges := s.conv.edges + 1 })
          ∧ (s.conv.mode = .tach → 5 ≤ s.conv.edges → t.conv.edges = 0
              ∧ (s.conv.state = .idle → t.conv.state = .weigh now ∧ t.conv.exc = true)
              ∧ (∀ ch, s.conv.state = .sense ch → t.conv.state = .sense ch ∧ t.conv.weighWaiting = true)
              ∧ (∀ began, s.conv.state = .weigh began → t.conv = { s.conv with edges := 0 })))
      ∧ t.engine = s.engine ∧ t.heat = s.heat ∧ t.scale = s.scale ∧ t.mon = s.mon ∧ t.notices = s.notices
      ∧ t.plan = s.plan ∧ t.permit = s.permit ∧ t.store = s.store)
    ∧ (s.stir.noEdge = none → exec (.noEdgeTimeout dt) s = .next (s.after dt))
    ∧ (∀ at', s.stir.noEdge = some at' →
      ∃ t : State, exec (.noEdgeTimeout dt) s = .next t
        ∧ t.stir = { s.stir with ring := [], lastEdge := none, noEdge := none, stopped := true, measured := 0 }
        ∧ t.lid.stopped = true ∧ (s.lid.stopped = false → s.lid.wish = false → t.lid.demand = .unlocked)
        ∧ t.conv = (if s.stir.measured = 0 ∨ s.conv.mode = .free then s.conv
            else { s.conv with mode := .free, edges := 0, freeTimer := some (now + 25000) })
        ∧ t.engine = s.engine ∧ t.heat = s.heat ∧ t.scale = s.scale ∧ t.mon = s.mon ∧ t.notices = s.notices
        ∧ t.plan = s.plan ∧ t.permit = s.permit ∧ t.store = s.store)

/-- R131, R136 to R144: one control update. A reversal wait ends where the blade stands and the ramped setpoint is 0: the
drive takes the direction of the ON segment in progress or next to come and the tach ring empties; otherwise it goes on and
the pattern clock is held. The clock counts while stirring with no wait, and a new ON segment that turns against the drive
begins one. Where STALL does not change by it, the applied setpoint is the step's speed under the caps, or 0 unless the
engine is RUNNING in a stirring phase with an ON segment and no wait; the first capping of a step posts SPEED_CAPPED; the
ramped setpoint follows by 20 up and 40 down, or is 0 while TRIPPED, and gives the integral and the duty. -/
def Obligations.ControlUpdateDrivesTheBlade : Prop :=
  ∀ (dt : Nat) (s : State), ∃ t : State, exec (.controlUpdate dt) s = .next t
    ∧ t.stir.controlTimer = s.now + dt + 10000
    ∧ (let st := s.stir
       let u := t.stir
       let live := fun (ph : Phase) => decide (s.phase = some ph)
       let working := decide (s.engine.state = .running)
         && (live .approach || live .dwell || live .settle || live .dosing)
       let dose := decide (s.engine.live.map (·.kind) = some .dose)
       let due := st.wait && decide (st.ramped = 0) && st.stopped
       let waiting := st.wait && !due
       let counting := working && !waiting
       let len := if st.seg % 2 = 0 then st.onTime * 100 else st.offTime * 100
       let segmentEnds := counting && decide (st.pattern ≠ .continuous) && decide (len ≤ st.elapsed + 1)
       let driven := working && decide (u.seg % 2 = 0) && !u.wait
       let capped := min st.speed (min (if dose then 600 else st.speed)
         (min (if st.overload then 1000 else st.speed) (if 600 ≤ st.tb then 3000 else st.speed)))
       (due = false → u.drive = st.drive ∧ u.ring = st.ring ∧ u.lastEdge = st.lastEdge)
       ∧ (due = true → u.ring = [] ∧ u.lastEdge = none
           ∧ (st.seg < 4 → u.drive = segmentTurns st.dir st.pattern
               (if st.pattern = .knead ∧ (st.seg = 1 ∨ st.seg = 2) then 2 else 0)))
       ∧ (counting = false → u.seg = st.seg ∧ u.elapsed = st.elapsed)
       ∧ (counting = true → st.pattern = .continuous → u.seg = st.seg)
       ∧ (counting = true → st.pattern ≠ .continuous → st.elapsed + 1 < len →
           u.seg = st.seg ∧ u.elapsed = st.elapsed + 1)
       ∧ (segmentEnds = true → u.seg = (st.seg + 1) % (if st.pattern = .knead then 4 else 2) ∧ u.elapsed = 0)
       ∧ u.wait = (waiting || (segmentEnds && decide (u.seg % 2 = 0)
           && decide (segmentTurns st.dir st.pattern u.seg ≠ u.drive)))
       ∧ ((s.mon.stall.asserted = false → s.mon.stall.setCount + 1 < 200) →
           (s.mon.stall.asserted = true → s.mon.stall.clearCount + 1 < 100) →
           u.applied = (if driven then capped else 0)
           ∧ u.ramped = (if s.engine.state = .tripped then 0
               else if st.ramped < u.applied then min (st.ramped + 20) u.applied
               else max (st.ramped - 40) u.applied)
           ∧ u.integral = (if u.ramped = 0 then 0
               else clampInt (-200) 200 (st.integral + Int.tdiv ((u.ramped : Int) - st.measured) 16))
           ∧ u.duty = (if u.ramped = 0 then 0
               else (clampInt 0 1000 (((u.ramped * 1000 / 11000 : Nat) : Int) + u.integral)).toNat)
           ∧ u.shortfall = decide (200 ≤ u.ramped ∧ st.measured * 4 < u.ramped)
           ∧ u.measured = st.measured
           ∧ u.capped = (st.capped || (driven && decide (capped < st.speed)))
           ∧ (st.capped = true ∨ driven = false ∨ capped = st.speed → t.notices = s.notices)
           ∧ (∀ idx, s.liveIndex = some idx → st.capped = false → driven = true → capped < st.speed →
               t.notices = (post (.speedCapped idx
                 (if capped = 600 ∧ dose then .dose else if capped = 1000 ∧ st.overload then .overload else .hot)
                 st.speed capped) s).notices)
           ∧ t.mon.stall = (countInput 200 100
               (if s.mon.stall.asserted then
                  (if u.shortfall = false ∧ (st.im.map (·.2)) ≠ some .above then .toClear else .neither)
                else if u.shortfall then .toAssert else .neither) s.mon.stall).1
           ∧ t.engine = s.engine ∧ t.heat = s.heat))

/-- R128, R134, R138, R143: whatever command is taken, the Stir Unit's figures stay safe (the ring within 12 intervals, the
duty and the integral within their limits, measured speed 0 while the stopped indication is set), and, but for a reset, the
drive direction changes only while the ramped setpoint and measured speed are 0. -/
def Obligations.DriveTurnsOnlyAtRest : Prop :=
  ∀ (c : Instr) (s t : State), s.stir.safe = true → exec c s = .next t →
    t.stir.safe = true
      ∧ (c ≠ .reset → t.stir.drive ≠ s.stir.drive →
          s.stir.ramped = 0 ∧ s.stir.stopped = true ∧ s.stir.measured = 0)

/-! ### The Heat Unit -/

/-- R36, R72, R74, R112 to R115, R122: a TB code delivered while no detector changes by it brings one loop run with the new
TB10, which sets the pending pair: from the proportional and integral terms under the cap in TEMP mode, from the power under
the cap in POWER mode, and none in OFF mode or outside RUNNING. A target that TB10 then meets for the first time sets the
reached flag and posts TEMP_REACHED: RUNNING in APPROACH or DWELL the step ends with TEMP where that is enabled; otherwise
an APPROACH becomes DWELL, where TIMER or BOIL may end the step at once. -/
def Obligations.TbDeliveryRunsTheHeatLoop : Prop :=
  ∀ (dt code p2 : Nat) (v cap : Int) (pair : Nat × Nat) (s : State),
    s.conv.state = .sense .tb → s.conv.senseDiscard = false → 20 ≤ code → code ≤ 4075 →
    v = ((code * 2900 / 4096 : Nat) : Int) - 400 + s.scale.cal.offB → v ≤ 1750 →
    s.mon.probeB.asserted = false → implausibleCount s.conv.tbHist < 3 → s.mon.dryPan.asserted = false →
    cap = (if s.heat.boilHold then 70 else if s.heat.supplyLow then 100 else 200) →
    pair = (if p2 = 0 then (100, 0) else if p2 < 20 then (200, p2) else (100, p2 / 2)) →
    let running := decide (s.engine.state = .running)
    let met := decide (s.heat.mode = .temp) && !s.heat.reached && (match s.heat.dir, s.heat.target with
      | some .rising, some target => decide (target - 10 ≤ v)
      | some .falling, some target => decide (v ≤ target + 10)
      | _, _ => false)
    let reached := s.heat.reached || met
    let found := fun (l : Live) (r : StepRecord) =>
      if running ∧ met ∧ r.exits.temp ∧ (l.phase = .approach ∨ l.phase = .dwell) then some StepEnd.temp
      else if running ∧ met ∧ l.phase = .approach then endInPhase r .dwell l.active true (s.asserts .boil)
      else none
    ∃ t : State, exec (.senseConversionEnd dt code) s = .next t
      ∧ t.conv.tb = v ∧ t.plan = s.plan ∧ t.scale = s.scale ∧ t.permit = s.permit ∧ t.store = s.store
      ∧ (∀ l r e, s.engine.live = some l → s.plan.steps[l.index]? = some r → found l r = some e →
          ∃ more, t.engine.log = s.engine.log ++ logEntryOf { l with peak := max l.peak v } r e :: more)
      ∧ ((∀ l r, s.engine.live = some l → s.plan.steps[l.index]? = some r → found l r = none) →
          (s.engine.state ≠ .running ∨ s.heat.mode = .off →
            t.heat = { s.heat with
              tb := v, tbHeld := false, reached := reached, integral := 0
              next := { n := 100, w := 0, step := .none } })
          ∧ (∀ sp u, s.engine.state = .running → s.heat.mode = .temp → s.heat.sp = some sp →
              u = 2 * (sp - v) + s.heat.integral / 8 → (p2 : Int) = clampInt 0 cap u →
              t.heat = { s.heat with
                tb := v, tbHeld := false, reached := reached
                next := { n := pair.1, w := pair.2, step := .due (sp - v) u cap } })
          ∧ (∀ w, s.engine.state = .running → s.heat.mode = .power → s.heat.power = some w →
              (p2 : Int) = min (2 * (w : Int)) cap →
              t.heat = { s.heat with
                tb := v, tbHeld := false, integral := 0, next := { n := pair.1, w := pair.2, step := .none } })
          ∧ (∀ l r, s.engine.live = some l → s.plan.steps[l.index]? = some r →
              t.engine = { s.engine with
                live := some { l with
                  peak := max l.peak v
                  phase := if running ∧ met ∧ l.phase = .approach then .dwell else l.phase } })
          ∧ t.notices = (if met then (post (.tempReached s.liveIndex v) s).notices else s.notices)
          ∧ t.stir = { s.stir with tb := v } ∧ t.lid = s.lid)

/-- R111, R116, R117, R119, R123, R124: the Heat Unit's timers. The frame end puts the pending pair in force, gathers
a due integral step inside its limits once, and begins at slot 0; a slot boundary within the frame sets the gate for
its slot; a ramp rise moves the setpoint up to the target; the plateau timer takes TB10 into the ring, or empties it
while TB is held, and gives BOIL the verdict, which after five verdicts in a row asserts it. That an expiry of a
stopped timer, or an end of work not in progress, changes nothing is the model's own: log entry 1. -/
def Obligations.HeatTimersTakeTheirEffect : Prop :=
  ∀ (dt : Nat) (s : State), s.heat.frameSafe = true →
    let h := s.heat
    exec (.frameEnd dt) s = .next ((s.after dt).withHeat { h with
        frameN := h.next.n, frameW := h.next.w, slot := 0, gate := decide (0 < h.next.w)
        integral := match h.next.step with
          | .due e10 u cap => if 0 < u ∧ u < cap then clampInt 0 1600 (h.integral + e10) else h.integral
          | _ => h.integral
        next := { h.next with
          step := match h.next.step with
            | .due e10 u cap => .spent e10 u cap
            | x => x } })
    ∧ (h.slot + 1 < h.frameN →
        exec (.slotBoundary dt) s
          = .next ((s.after dt).withHeat { h with slot := h.slot + 1, gate := decide (h.slot + 1 < h.frameW) }))
    ∧ (∀ at' sp target r, h.countdown = .running at' → h.sp = some sp → h.target = some target → h.ramp = some r →
        exec (.rampRise dt) s = .next ((s.after dt).withHeat
          (if target ≤ sp + (r : Int) then { h with sp := some target, countdown := .stopped }
          else { h with sp := some (sp + (r : Int)), countdown := .running (s.now + dt + 6000000) })))
    ∧ ((∀ at', h.countdown ≠ .running at') → exec (.rampRise dt) s = .next (s.after dt))
    ∧ (∀ (ring : List Int) (boils : Bool),
        ring = (if h.tbHeld then [] else (if h.ring.length < 60 then h.ring else h.ring.drop 1) ++ [h.tb]) →
        boils = decide (ring.length = 60 ∧ 900 ≤ h.tb ∧ ring.getLastD 0 - ring.headD 0 ≤ 2
          ∧ (h.frameN * 6 ≤ h.frameW * 10 ∨ h.boilHold = true)) →
        ∃ t : State, exec (.plateauTimer dt) s = .next t
          ∧ t.heat.ring = ring ∧ t.heat.plateauTimer = s.now + dt + 1000000
          ∧ (s.mon.boil.asserted = false → boils = true → s.mon.boil.setCount < 4 →
              t.mon = { s.mon with boil := { s.mon.boil with setCount := s.mon.boil.setCount + 1 } }
              ∧ t.engine = s.engine)
          ∧ (s.mon.boil.asserted = false → boils = false →
              t.mon = { s.mon with boil := { s.mon.boil with setCount := 0 } } ∧ t.engine = s.engine)
          ∧ (s.mon.boil.asserted = false → boils = true → 4 ≤ s.mon.boil.setCount →
              t.mon.boil = { asserted := true, latched := true, setCount := 0, clearCount := 0 }
              ∧ ∀ l r, s.engine.live = some l → s.plan.steps[l.index]? = some r → s.engine.state = .running →
                  (r.exits.boil = true → (l.phase = .approach ∨ l.phase = .dwell) →
                    ∃ more, t.engine.log = s.engine.log ++ logEntryOf l r .boil :: more)
                  ∧ (r.exits.boil = false → t.engine = s.engine ∧ t.heat.boilHold = decide (r.boil = .hold))))

/-! ### The Notice Unit -/

/-- R199, R201, R203: TAKE_NOTICE removes the oldest notice of its port's queue and answers with its record and how many are
left, or with the record of kind NONE; the record is the 14 bytes of R203, with the data of its kind. SET_NOTICE_MASK sets
its port's mask; an uptime tick adds a second, and after 4,294,967,295 comes 0. -/
def Obligations.NoticeRequestsAndUptime : Prop :=
  (∀ (dt : Nat) (p : Port) (tag : Byte) (mask : Word16) (s : State), s.admits p = true →
    (s.notices.queue p = [] →
      exec (.takeNotice dt p tag) s
        = .next (formReply p 0x02 tag
            { result := .ok, clamped := false, body := 255 :: List.replicate 14 0 } (s.after dt)))
    ∧ (∀ r rest, s.notices.queue p = r :: rest →
        exec (.takeNotice dt p tag) s
          = .next (formReply p 0x02 tag { result := .ok, clamped := false, body := r.bytes ++ byte rest.length }
              ((s.after dt).withNotices (if p = .panel then { s.notices with panelQ := rest }
                else { s.notices with linkQ := rest }))))
    ∧ exec (.setNoticeMask dt p tag mask) s
        = .next (formReply p 0x03 tag { result := .ok, clamped := false, body := le16 mask.toNat }
            ((s.after dt).withNotices (if p = .panel then { s.notices with panelMask := mask }
              else { s.notices with linkMask := mask })))
    ∧ exec (.uptimeTick dt) s
        = .next ((s.after dt).withNotices { s.notices with
            uptime := if s.notices.uptime < 4294967295 then s.notices.uptime + 1 else 0 }))
  ∧ (∀ (data : Notice) (count first last : Nat),
    let index := fun (i : Option Nat) => i.getD 255
    let weight := fun (i : Int) => le24 (twos 24 (min i 8388607))
    let laidOut := fun (kind qualifier : Nat) (bytes : List Byte) =>
      ({ data := data, count := count, first := first, last := last } : NoticeRec).bytes
        = byte (kind + 16 * qualifier) ++ byte count ++ le32 first ++ le32 last ++ bytes
    match data with
    | .engineState st live q => laidOut 0 0 (byte st.code ++ byte (index live) ++ byte q ++ [0])
    | .stepBegun idx kind tag => laidOut 1 0 (byte idx ++ byte kind.code ++ le16 tag)
    | .stepEnded idx reason tag => laidOut 2 0 (byte idx ++ byte reason.code ++ le16 tag)
    | .prompt idx fallen code tag =>
      laidOut 3 0 (byte (if fallen then idx + 128 else idx) ++ byte code ++ le16 tag)
    | .tempReached idx tb => laidOut 4 0 (byte (index idx) ++ sle16 tb ++ [0])
    | .doseNear idx added => laidOut 5 0 (byte idx ++ weight added)
    | .doseOver idx added => laidOut 6 0 (byte idx ++ weight added)
    | .speedCapped idx cap speed _ =>
      laidOut 7 0 (byte idx ++ byte (if cap = .hot then 0 else if cap = .overload then 1 else 2) ++ le16 speed)
    | .condition changed rt => laidOut 8 0 (le16 changed.toNat ++ le16 rt.toNat)
    | .trip trips first => laidOut 9 0 (le16 trips.toNat ++ byte first.id ++ [0])
    | .planChanged rev origin steps => laidOut 10 0 (le16 rev ++ byte origin.code ++ byte steps)
    | .permitDue key => laidOut 11 0 [key, 0, 0, 0]
    | .permitLapsed reason => laidOut 12 0 (byte reason.code ++ [0, 0, 0])
    | .libraryDone op slot result rev =>
      laidOut 13 ((if op = .save then 1 else if op = .load then 2 else if op = .erase then 3 else 4)
          + (if rev.isSome then 8 else 0))
        (byte (index slot) ++ byte result.code ++ le16 (rev.getD 0))
    | .scaleEvent status calId seq =>
      laidOut 14 (status.code + (if seq.isSome then 4 else 0)) (le16 calId ++ le16 (seq.getD 0))
    | .tareChanged depth top cause port =>
      laidOut 15 0 (byte (depth
          + 8 * (if cause = .push then 0 else if cause = .pop then 1 else if cause = .clear then 2 else 3)
          + 32 * (if port = some .panel then 0 else if port = some .link then 1 else 3))
        ++ weight (top.getD 0)))

/-- R199, R200: a posted notice enters each port's queue whose mask enables its kind: a kind that is not queued joins at the
end with repeat count 1; a queued one keeps its place and first time, its count rises to at most 255 and its data is the
newest, with CONDITION's changed set and TRIP's trip set joined to what they held. Every step keeps the queues safe: one
notice of a kind, counts from 1 to 255, PERMIT_DUE never in the link queue. -/
def Obligations.PostingKeepsOneNoticeOfAKind : Prop :=
  (∀ (n : Notice) (s : State), s.notices.safe = true →
    let posted := fun (mask : Word16) (q q' : List NoticeRec) =>
      (mask.getLsbD n.code = false → q' = q)
      ∧ (mask.getLsbD n.code = true → (∀ r ∈ q, r.data.code ≠ n.code) →
          q' = q ++ [{ data := n, count := 1, first := s.notices.uptime, last := s.notices.uptime }])
      ∧ (mask.getLsbD n.code = true → ∀ a r b, q = a ++ r :: b → r.data.code = n.code →
          ∃ d, q' = a ++ { data := d, count := min (r.count + 1) 255, first := r.first, last := s.notices.uptime } :: b
            ∧ (n.code ≠ 8 → n.code ≠ 9 → d = n)
            ∧ (∀ x rt y rt', r.data = .condition x rt → n = .condition y rt' → d = .condition (x ||| y) rt')
            ∧ (∀ x f y f', r.data = .trip x f → n = .trip y f' → d = .trip (x ||| y) f'))
    posted s.notices.panelMask s.notices.panelQ (post n s).notices.panelQ
      ∧ posted s.notices.linkMask s.notices.linkQ (post n s).notices.linkQ
      ∧ (postPanel n s).notices = { s.notices with panelQ := (post n s).notices.panelQ })
  ∧ (∀ s t : State, s.notices.safe = true → step s = .next t → t.notices.safe = true)

/-! ### The Recipe Store -/

/-- R174, R177, R180, R182, R183: the library requests. A refused one is answered with the first check that fails; an
accepted one is answered OK at once and its operation is in flight: SAVE with a snapshot of the working plan and the
word writes of R178, LOAD, ERASE with the directory entry made INVALID and two word writes of 0, WRITE_CAL with a copy
of the working calibration, the flag made INVALID and eleven word writes. The array and the working plan are not
touched yet. The numbering of the array's words is the model's own: log entry 6. -/
def Obligations.LibraryRequestsStartTheirOperation : Prop :=
  ∀ (dt : Nat) (p : Port) (tag : Byte) (slot : Nat) (s : State), s.admits p = true →
    let busy := decide (s.store.op ≠ .idle)
    let entry := s.store.directory.getD slot { valid := false, planId := 0, count := 0, saves := 0 }
    let x : Snapshot :=
      { planId := s.plan.planId, revision := s.plan.revision, origin := s.plan.origin, steps := s.plan.steps }
    let refused := fun (kind : Byte) (res : Result) =>
      Host.Outcome.next (formReply p kind tag { result := res, clamped := false, body := [] } (s.after dt))
    let accepted := fun (kind : Byte) (body : List Byte) (st : Store) =>
      Host.Outcome.next (formReply p kind tag { result := .ok, clamped := false, body := body }
        ((s.after dt).withStore st))
    (∀ res, firstFailure [(decide (7 < slot), .range), (busy, .busy), (decide (50000 ≤ entry.saves), .worn)]
        = some res → exec (.libSave dt p tag slot) s = refused 0x50 res)
    ∧ (slot ≤ 7 → busy = false → entry.saves < 50000 →
      exec (.libSave dt p tag slot) s
        = accepted 0x50 (byte slot ++ le16 s.plan.revision ++ byte s.plan.steps.length)
            { s.store with op := .save slot (saveWrites slot entry.saves x), saveBuf := some x }
      ∧ (saveWrites slot entry.saves x).map (·.addr)
          = [4106 + slot, 512 * slot] ++ (List.range (10 * s.plan.steps.length)).map (512 * slot + 8 + ·)
            ++ (List.range 7).map (512 * slot + 1 + ·) ++ [512 * slot])
    ∧ (∀ res, firstFailure [(decide (7 < slot), .range), (s.inRun, .wrongState), (busy, .busy),
        (!entry.valid, .emptySlot)] = some res → exec (.libLoad dt p tag slot) s = refused 0x51 res)
    ∧ (slot ≤ 7 → s.inRun = false → busy = false → entry.valid = true →
      exec (.libLoad dt p tag slot) s = accepted 0x51 (byte slot) { s.store with op := .load slot })
    ∧ (∀ res, firstFailure [(decide (7 < slot), .range), (busy, .busy)] = some res →
        exec (.libErase dt p tag slot) s = refused 0x52 res)
    ∧ (slot ≤ 7 → busy = false →
      exec (.libErase dt p tag slot) s
        = accepted 0x52 (byte slot)
            { s.store with
              directory := s.store.directory.set slot { entry with valid := false, planId := 0, count := 0 }
              op := .erase slot [{ addr := 512 * slot, value := 0, role := .plain },
                { addr := 512 * slot + 2, value := 0, role := .plain }] })
    ∧ (p = .panel →
      (∀ res, firstFailure [(s.inRun, .wrongState), (busy, .busy)] = some res →
        exec (.libWriteCal dt p tag) s = refused 0x54 res)
      ∧ (s.inRun = false → busy = false →
        exec (.libWriteCal dt p tag) s
          = accepted 0x54 (le16 s.scale.cal.calId)
              { s.store with
                op := .writeCal (calWrites s.scale.cal), calCopy := some s.scale.cal, calValid := false }
        ∧ (calWrites s.scale.cal).map (·.addr) = 4096 :: (List.range 9).map (4097 + ·) ++ [4096]))

/-- R173, R174, R178, R179, R182, R183: the end of a word write. It succeeds when the word already held the value or
reads back as it after the first write or the retry; the word then holds the value, and otherwise what was read back
last; every other word is kept. A success goes on with the next word write, or ends the operation with OK after the
last; a failure ends it with WRITE_FAULT. The directory and the calibration flag follow as the rules give. With no
word write in progress nothing changes. That an expiry of a stopped timer, or an end of work not in progress, changes
nothing is the model's own: log entry 1. That a failed word of a WRITE_CAL holds what was read back, whatever that is,
is the model's own too: log entry 33. -/
def Obligations.WordWritesAreMadeInOrder : Prop :=
  ∀ (dt slot : Nat) (first second : Word16) (w : WordWrite) (rest : List WordWrite) (s : State),
    (s.store.op.writing = none → exec (.wordWriteEnd dt first second) s = .next (s.after dt))
    ∧ (s.store.array.wf = true → w.addr < 4114 → slot < 8 → s.store.directory.length = 8 →
      s.store.op ∈ [StoreOp.save slot (w :: rest), .erase slot (w :: rest), .writeCal (w :: rest)] →
      ∃ t : State, exec (.wordWriteEnd dt first second) s = .next t
        ∧ (let ok := decide (Memory.read s.store.array w.addr = w.value) || decide (first = w.value)
             || decide (second = w.value)
           let isCal := decide (s.store.op = .writeCal (w :: rest))
           let isSave := decide (s.store.op = .save slot (w :: rest))
           let op : DoneOp := if isSave then .save else if isCal then .writeCal else .erase
           let entry := s.store.directory.getD slot { valid := false, planId := 0, count := 0, saves := 0 }
           let ended := fun (r : Result) =>
             t.store.op = .idle
             ∧ t.notices = (post (.libraryDone op (if isCal then none else some slot) r
                 (if isSave then s.store.saveBuf.map (·.revision) else none)) s).notices
           (∀ a, Memory.read t.store.array a
              = if a = w.addr then (if ok then w.value else second) else Memory.read s.store.array a)
           ∧ t.store.array.wf = true
           ∧ (ok = true → rest ≠ [] → t.notices = s.notices
               ∧ t.store.op = (if isSave then .save slot rest else if isCal then .writeCal rest else .erase slot rest))
           ∧ (ok = true → rest = [] → ended .ok)
           ∧ (ok = false → ended .writeFault)
           ∧ (∀ other, other ≠ slot → t.store.directory[other]? = s.store.directory[other]?)
           ∧ (isSave = true → w.role = .counter →
               t.store.directory[slot]? = some { entry with saves := if ok then w.value.toNat else second.toNat })
           ∧ (isSave = true → (w.role = .clearMarker ∨ (ok = false ∧ w.role ≠ .counter)) →
               t.store.directory[slot]? = some { entry with valid := false, planId := 0, count := 0 })
           ∧ (isSave = true → ok = true → w.role = .plain → t.store.directory = s.store.directory)
           ∧ (∀ x, isSave = true → ok = true → w.role = .setMarker → s.store.saveBuf = some x →
               t.store.directory[slot]? = some { entry with valid := true, planId := x.planId, count := x.steps.length })
           ∧ (isSave = false → t.store.directory = s.store.directory)
           ∧ t.store.calValid = (s.store.calValid || (isCal && ok && decide (rest = []))))
        ∧ t.plan = s.plan ∧ t.engine = s.engine ∧ t.scale = s.scale ∧ t.panel = s.panel ∧ t.link = s.link)

/-- R97, R98, R171, R172, R174, R176, R181: the end of the scan sets each directory entry and the calibration flag
from the array, gives the Scale Unit the stored calibration where it is valid and in range and the default one
otherwise, and clears the start-up flag; the scale restarts with F and the net held, or both 0 where G is 0 (log entry
15). A load whose image fails its tests, in their order, ends with EMPTY_SLOT or CORRUPT and leaves the working plan
as it was. With no scan or load in flight nothing changes. That an end of work not in progress changes nothing, and
the numbering of the array's words, is the model's own: log entries 1 and 6. -/
def Obligations.ScansAndLoadsEnd : Prop :=
  ∀ (dt slot : Nat) (s : State),
    let m := s.store.array
    let cell := fun (a : Nat) => (Memory.read m a).toNat
    let count := cell (512 * slot + 2)
    let marked := fun (k : Nat) => decide (cell (512 * k) = 0x3C96) && decide (cell (512 * k + 2) ≤ 48)
    let checked := fun (k : Nat) => decide (Memory.read m (512 * k + 5)
      = wordSum (Memory.readRange m (512 * k + 1) 4)
        + wordSum (Memory.readRange m (512 * k + 6) (2 + 10 * cell (512 * k + 2))))
    let calHolds := decide (cell 4096 = 0xC35A)
      && decide (Memory.read m 4105 = wordSum (Memory.readRange m 4097 8))
    let stored : Calibration :=
      { zero := signed 32 (cell 4097 + 65536 * cell 4098), span := cell 4099, drift := signed 16 (cell 4100)
        tcal := signed 16 (cell 4101), offB := signed 16 (cell 4102), offC := signed 16 (cell 4103), calId := cell 4104 }
    let ends := fun (res : Result) =>
      exec (.loadReadEnd dt) s = .next (post (.libraryDone .load (some slot) res none)
        ((s.after dt).withStore { s.store with op := .idle }))
    let bytesOf := fun (i : Nat) =>
      ((List.range 10).map (fun j =>
        [BitVec.ofNat 8 (cell (512 * slot + 8 + 10 * i + j)),
         BitVec.ofNat 8 (cell (512 * slot + 8 + 10 * i + j) / 256)])).flatten
    (s.store.op ≠ .scan → exec (.scanEnd dt) s = .next (s.after dt))
    ∧ (s.store.op = .scan →
      ∃ t : State, exec (.scanEnd dt) s = .next t
        ∧ t.store = { s.store with
            op := .idle, starting := false, calValid := calHolds
            directory := (List.range 8).map (fun k =>
              let valid := marked k && checked k
              { valid := valid, planId := if valid then cell (512 * k + 1) else 0
                count := if valid then cell (512 * k + 2) else 0, saves := cell (4106 + k) }) }
        ∧ t.scale.cal = (if calHolds = true ∧ stored.inRange = true then stored
            else { zero := 0, span := 0, drift := 0, tcal := 250, offB := 0, offC := 0, calId := 0 })
        ∧ t.scale.tare = [] ∧ t.scale.window = [] ∧ t.scale.stable = false ∧ t.scale.pendingTare = none
        ∧ t.scale.status = (if t.scale.cal.span = 0 then .uncalibrated else .restarting)
        ∧ t.scale.gross = (if t.scale.cal.span = 0 then 0 else s.scale.gross)
        ∧ t.scale.net = (if t.scale.cal.span = 0 then 0 else s.scale.net)
        ∧ t.notices = (post (.scaleEvent t.scale.status t.scale.cal.calId s.scale.lastSeq)
            (if s.scale.tare = [] then s else post (.tareChanged 0 none .calibration none) s)).notices
        ∧ t.plan = s.plan ∧ t.engine = s.engine ∧ t.conv = s.conv ∧ t.mon = s.mon)
    ∧ (∀ c : Calibration, c.inRange = true ↔
        (-2097152 ≤ c.zero ∧ c.zero ≤ 2097151) ∧ c.span ≤ 65535 ∧ (-500 ≤ c.drift ∧ c.drift ≤ 500)
          ∧ (0 ≤ c.tcal ∧ c.tcal ≤ 600) ∧ (-50 ≤ c.offB ∧ c.offB ≤ 50) ∧ (-50 ≤ c.offC ∧ c.offC ≤ 50)
          ∧ c.calId ≤ 65535)
    ∧ ((∀ k, s.store.op ≠ .load k) → exec (.loadReadEnd dt) s = .next (s.after dt))
    ∧ (s.store.op = .load slot → marked slot = false → ends .emptySlot)
    ∧ (s.store.op = .load slot → marked slot = true → (checked slot = false ∨ 2 < cell (512 * slot + 4)) → ends .corrupt)
    ∧ (s.store.op = .load slot → marked slot = true → ∀ i, i < count →
        (∀ r : StepRecord, r.stored = r → (rawOfBytes (bytesOf i)).bind acceptRaw ≠ some r) → ends .corrupt)
    ∧ (s.store.op = .load slot → marked slot = true → checked slot = true → cell (512 * slot + 4) ≤ 2 →
        ∀ steps : List StepRecord, steps.length = count →
        (∀ i r, steps[i]? = some r → r.stored = r ∧ (rawOfBytes (bytesOf i)).bind acceptRaw = some r) →
        ∃ t : State, exec (.loadReadEnd dt) s = .next t
          ∧ t.plan = { planId := cell (512 * slot + 1), steps := steps, origin := .store, slot := some slot,
                       revision := if s.plan.revision = 65535 then 1 else s.plan.revision + 1 }
          ∧ t.store = { s.store with op := .idle }
          ∧ t.notices = (post (.libraryDone .load (some slot) .ok (some t.plan.revision))
              (post (.planChanged t.plan.revision .store count) s)).notices
          ∧ t.engine = s.engine ∧ t.scale = s.scale)

/-- R171, R178, R181, R22: a plan that SAVE has written in full is what a LOAD of that slot hands to Plan Memory: the
same plan id and steps, the revision one up, origin STORE, with PLAN_CHANGED posted before LIBRARY_DONE. A SAVE cut
after its marker was cleared and before it was set leaves the slot invalid, and no SAVE touches what another slot
holds. The numbering of the array's words is the model's own: log entry 6. -/
def Obligations.SaveThenLoadRestoresThePlan : Prop :=
  ∀ (dt slot saves : Nat) (x : Snapshot) (m : Memory) (writes : List WordWrite),
    let made := fun (ws : List WordWrite) => ws.foldl (fun m w => Memory.write m w.addr w.value) m
    slot < 8 → m.wf = true → x.steps.length ≤ 48 → x.steps.all StepRecord.legal = true → x.planId < 65536 →
    writes = saveWrites slot saves x →
    (∀ s : State, s.store.op = .load slot → s.store.array = made writes →
      ∃ t : State, exec (.loadReadEnd dt) s = .next t
        ∧ t.plan = { planId := x.planId, steps := x.steps, origin := .store, slot := some slot,
                     revision := if s.plan.revision = 65535 then 1 else s.plan.revision + 1 }
        ∧ t.store = { s.store with op := .idle }
        ∧ t.notices = (post (.libraryDone .load (some slot) .ok (some t.plan.revision))
            (post (.planChanged t.plan.revision .store x.steps.length) s)).notices
        ∧ t.engine = s.engine ∧ t.scale = s.scale)
    ∧ slotValid (made writes) slot = true
    ∧ (∀ k, 2 ≤ k → k < writes.length → slotValid (made (writes.take k)) slot = false)
    ∧ (∀ k other, other < 8 → other ≠ slot →
        judgeImage (made (writes.take k)) other = judgeImage m other
          ∧ slotValid (made (writes.take k)) other = slotValid m other)

/-! ### The ports -/

/-- R187, R189, R192, R193, R194: what a port does before a request's owner is reached. A request or a frame that
comes while one is OUTSTANDING is discarded and sets OVERRUN, and nothing else changes. Otherwise the checks come in
order: STARTING for all but READ_STATUS, UNKNOWN_KIND, WRONG_PORT for the panel's own requests, LENGTH. A damaged
panel frame is answered FRAME_CHECK with the kind and the tag where they were received. (A frame's bytes here are a
whole select period after 0x01.) How the rows stand for frames, what `psdo` records, and which bytes are the kind and
the tag under a length byte of 0 or 1, is the model's own: log entries 5, 7, 18 and 35. -/
def Obligations.PortsCheckBeforeTheOwner : Prop :=
  (∀ (dt : Nat) (p : Port) (tag : Byte) (r : Request) (s : State),
    let row := kindRow r.kind
    let refused := fun (res : Result) =>
      Host.Outcome.next (formReply p r.kind tag { result := res, clamped := false, body := [] } (s.after dt))
    ((s.port p).state = .outstanding →
      exec (r.command dt p tag) s = .next ((s.after dt).setPort p { s.port p with overrun := true }))
    ∧ ((s.port p).state ≠ .outstanding → s.store.starting = true → r ≠ .readStatus →
      exec (r.command dt p tag) s = refused .starting)
    ∧ ((s.port p).state ≠ .outstanding → (s.store.starting = false ∨ r = .readStatus) → p = .link →
      row.map (·.panelOnly) = some true → exec (r.command dt p tag) s = refused .wrongPort))
  ∧ (∀ (dt : Nat) (kind tag : Byte) (body content bytes : List Byte) (s : State), body.length ≤ 120 →
    content = byte (2 + body.length) ++ [kind, tag] ++ body → bytes = content ++ [0xFF - byteSum content] →
    let base := (s.after dt).withPsdo (List.replicate bytes.length 0)
    let refused := fun (res : Result) =>
      Host.Outcome.next (formReply .panel kind tag { result := res, clamped := false, body := [] } base)
    (s.panel.state = .outstanding →
      exec (.panelRequestFrame dt bytes) s = .next (base.withPanel { s.panel with overrun := true }))
    ∧ (s.panel.state ≠ .outstanding → s.store.starting = true → kind ≠ 0x01 →
      exec (.panelRequestFrame dt bytes) s = refused .starting)
    ∧ (s.panel.state ≠ .outstanding → (s.store.starting = false ∨ kind = 0x01) → kindRow kind = none →
      exec (.panelRequestFrame dt bytes) s = refused .unknownKind)
    ∧ (∀ row, s.panel.state ≠ .outstanding → (s.store.starting = false ∨ kind = 0x01) → kindRow kind = some row →
      body.length ≠ row.length → exec (.panelRequestFrame dt bytes) s = refused .length))
  ∧ (∀ (dt : Nat) (kind tag : Byte) (body content bytes : List Byte) (s : State), s.rx = .hunt → body.length ≤ 120 →
    content = byte (2 + body.length) ++ [kind, tag] ++ body → bytes = 0xA5 :: content ++ [0xFF - byteSum content] →
    let refused := fun (res : Result) =>
      Host.Outcome.next (formReply .link kind tag { result := res, clamped := false, body := [] } (s.after dt))
    (s.link.state = .outstanding →
      exec (.linkFrameComplete dt bytes) s = .next ((s.after dt).withLink { s.link with overrun := true }))
    ∧ (s.link.state ≠ .outstanding → s.store.starting = true → kind ≠ 0x01 →
      exec (.linkFrameComplete dt bytes) s = refused .starting)
    ∧ (s.link.state ≠ .outstanding → (s.store.starting = false ∨ kind = 0x01) → kindRow kind = none →
      exec (.linkFrameComplete dt bytes) s = refused .unknownKind)
    ∧ (∀ row, s.link.state ≠ .outstanding → (s.store.starting = false ∨ kind = 0x01) → kindRow kind = some row →
      (row.panelOnly = true → exec (.linkFrameComplete dt bytes) s = refused .wrongPort)
      ∧ (row.panelOnly = false → body.length ≠ row.length → exec (.linkFrameComplete dt bytes) s = refused .length)))
  ∧ (∀ (dt : Nat) (bytes : List Byte) (s : State),
    let base := (s.after dt).withPsdo (List.replicate bytes.length 0)
    (bytes.length < 4 ∨ (bytes.headD 0).toNat < 2 ∨ 122 < (bytes.headD 0).toNat
      ∨ bytes.length < (bytes.headD 0).toNat + 2 ∨ byteSum (bytes.take ((bytes.headD 0).toNat + 2)) ≠ 0xFF) →
    (s.panel.state = .outstanding →
      exec (.panelRequestFrame dt bytes) s = .next (base.withPanel { s.panel with overrun := true }))
    ∧ (s.panel.state ≠ .outstanding →
      exec (.panelRequestFrame dt bytes) s
        = .next (formReply .panel (bytes.getD 1 0) (bytes.getD 2 0)
            { result := .frameCheck, clamped := false, body := [] } base)))

/-- R188 to R191: the ports' other events. A waiting panel reply is shifted out followed by 0x00, and is taken once
its whole frame has been; with none waiting PSDO gives 0x00. A link reply sent leaves its port FREE. A gap or a
missing stop bit returns the receiver to HUNT. A byte in HUNT is ignored unless it is the sync byte; then the length
byte may be a further sync byte, or one outside 2 to 122, which returns to HUNT; then bytes gather until the check
byte. A frame whose sum is not 0xFF is dropped without a reply; a sound one has the effect of its request, whatever
part of it came before this event. The model's own: that the end of a reply not being sent changes nothing (log entry
1), what `psdo` records (log entry 5), that a request row is a sound frame's arrival (log entry 7), and that
LINK_FRAME_COMPLETE carries the bytes from the receiver's state on, those that complete no frame too (log entry 18).
-/
def Obligations.PortEventsTakeTheirEffect : Prop :=
  ∀ (dt n : Nat) (b : Byte) (got : List Byte) (s : State),
    (∀ r, s.panel.state = .replyReady → s.panel.reply = some r →
      exec (.panelReplyRead dt n) s
        = .next (((s.after dt).withPsdo (r.frame.take n ++ List.replicate (n - r.frame.length) 0)).withPanel
            (if r.frame.length ≤ n then { s.panel with state := .free, reply := none } else s.panel)))
    ∧ (s.panel.state ≠ .replyReady →
      exec (.panelReplyRead dt n) s = .next ((s.after dt).withPsdo (List.replicate n 0)))
    ∧ (∀ r, s.link.reply = some r →
      exec (.linkReplySent dt) s
        = .next ((s.after dt).withLink { state := .free, buffer := none, reply := none, overrun := s.link.overrun }))
    ∧ (s.link.reply = none → exec (.linkReplySent dt) s = .next (s.after dt))
    ∧ exec (.linkByteGapTimeout dt) s = .next ((s.after dt).withRx .hunt)
    ∧ exec (.linkStopBitMissing dt) s = .next ((s.after dt).withRx .hunt)
    ∧ exec (.linkByteReceived dt b) s = exec (.linkFrameComplete dt [b]) s
    ∧ (s.rx = .hunt →
      exec (.linkByteReceived dt b) s = .next (if b = 0xA5 then (s.after dt).withRx (.receiving []) else s.after dt))
    ∧ (s.rx = .receiving [] →
      exec (.linkByteReceived dt b) s = .next ((s.after dt).withRx
        (if b = 0xA5 then .receiving [] else if 2 ≤ b.toNat ∧ b.toNat ≤ 122 then .receiving [b] else .hunt)))
    ∧ (∀ len, s.rx = .receiving (len :: got) → got.length + 2 < len.toNat + 2 →
      exec (.linkByteReceived dt b) s = .next ((s.after dt).withRx (.receiving (len :: got ++ [b]))))
    ∧ (∀ len, s.rx = .receiving (len :: got) → len.toNat + 2 ≤ got.length + 2 → byteSum (len :: got ++ [b]) ≠ 0xFF →
      exec (.linkByteReceived dt b) s = .next ((s.after dt).withRx .hunt))
    ∧ (∀ (r : Request) (tag : Byte), r.wf = true → s.rx = .receiving got → r.frame tag = got ++ [b] →
      ∃ t, exec (.linkByteReceived dt b) s = .next t
        ∧ exec (r.command dt .link tag) { s with rx := .hunt } = .next t)
    ∧ (∀ (r : Request) (tag : Byte) (rest : List Byte), r.wf = true → s.rx = .receiving got →
      r.frame tag = got ++ rest → rest ≠ [] →
      ∃ t, exec (.linkFrameComplete dt rest) s = .next t
        ∧ exec (r.command dt .link tag) { s with rx := .hunt } = .next t)
    ∧ (∀ len, s.rx = .receiving (len :: got) → 2 ≤ len.toNat → len.toNat ≤ 122 → got.length = len.toNat →
      exec (.linkByteReceived dt b) s
        = exec (.linkFrameComplete dt (0xA5 :: len :: got ++ [b])) { s with rx := .hunt })

/-! ### Reset -/

/-- R1, R24, R31, R61, R66, R71, R79, R97, R106, R128, R146, R150, R164, R170, R174 to R176, R185, R186, R199: RESET leaves
every block at its reset values, with the scan in flight and the start-up flag set, and keeps every word of the array but
the one being erased or written at that moment. The state so left, like State.reset itself, is safe. (The time starts
again at 0, the commands that wait stay, and the counter of the free values moves on: log entries 1 to 4.) -/
def Obligations.ResetLeavesTheResetValues : Prop :=
  (∀ s : State, s.store.array.wf = true →
    ∃ (t : State) (array : Memory), exec .reset s = .next t
      ∧ t = { State.reset with pending := s.pending, free := s.free + 1, store := Store.reset array }
      ∧ array.wf = true
      ∧ (∀ a, (∀ w, s.store.op.writing = some w → a ≠ w.addr) → Memory.read array a = Memory.read s.store.array a)
      ∧ t.plan.safe = true ∧ t.runSafe = true ∧ t.driveSafe = true ∧ t.permitSafe = true ∧ t.scale.safe = true
      ∧ t.notices.safe = true ∧ t.store.safe = true ∧ t.stir.safe = true ∧ t.lidSafe = true ∧ t.portSafe = true)
  ∧ (let r := State.reset
     r.engine.state = .idle ∧ r.engine.live = none ∧ r.plan.steps = [] ∧ r.plan.planId = 0 ∧ r.plan.revision = 0
     ∧ r.plan.origin = .panel ∧ r.conv.tb = 250 ∧ r.conv.tc = 250 ∧ r.conv.mode = .free ∧ r.conv.senseTimer = 50000
     ∧ r.conv.freeTimer = some 25000 ∧ r.scale.status = .restarting ∧ r.scale.cal.span = 0 ∧ r.scale.cal.tcal = 250
     ∧ r.heat.mode = .off ∧ r.heat.gate = false ∧ r.heat.frameN = 100 ∧ r.heat.frameW = 0 ∧ r.stir.measured = 0
     ∧ r.stir.stopped = false ∧ r.stir.noEdge = some 250000 ∧ r.stir.drive = .forward ∧ r.lid.demand = .locked
     ∧ r.mon.realTime = 0 ∧ r.mon.latchedSet = 0 ∧ r.permit.state = .unarmed ∧ r.permit.key = 0x5A
     ∧ r.notices.panelMask = 0xFFFF ∧ r.notices.linkMask = 0xFFFF ∧ r.notices.panelQ = [] ∧ r.notices.linkQ = []
     ∧ r.store.op = .scan ∧ r.store.starting = true ∧ r.store.array = [] ∧ r.panel.state = .free
     ∧ r.link.state = .free)

end Statements
end

