-- ==== Sys2Proof/Laws/Codes.lean ====
section
/-! SUPPORT. The codes of frames: what the fields of a body carry back, and one equation for each row of `requestOf`, stated
for any bytes, so that no proof unfolds the whole table. -/

namespace Sys2Proof.Machine

/-! ### Fields -/

theorem num16_le16 (n : Nat) (h : n < 65536) : num16 (BitVec.ofNat 8 n) (BitVec.ofNat 8 (n / 256)) = n := by
  simp [num16]; omega

theorem num32_le32 (n : Nat) (h : n < 4294967296) :
    num32 (BitVec.ofNat 8 n) (BitVec.ofNat 8 (n / 256)) (BitVec.ofNat 8 (n / 65536)) (BitVec.ofNat 8 (n / 16777216)) = n := by
  simp [num32]; omega

theorem word_num16 (w : Word16) :
    BitVec.ofNat 16 (num16 (BitVec.ofNat 8 w.toNat) (BitVec.ofNat 8 (w.toNat / 256))) = w := by
  rw [num16_le16 _ w.isLt]; simp

theorem signed_sle16 (i : Int) (h : -32768 ≤ i) (k : i < 32768) :
    signed 16 (num16 (BitVec.ofNat 8 (twos 16 i)) (BitVec.ofNat 8 (twos 16 i / 256))) = i := by
  have hn : twos 16 i < 65536 := by simp [twos]; omega
  rw [num16_le16 _ hn]
  simp [signed, twos]; omega

theorem signed_sbyte (i : Int) (h : -128 ≤ i) (k : i < 128) : signed 8 (BitVec.ofNat 8 (twos 8 i)).toNat = i := by
  have hn : twos 8 i < 256 := by simp [twos]; omega
  simp [Nat.mod_eq_of_lt hn]
  simp [signed, twos]; omega

/-- R195: a record's fields read back from its twenty bytes. -/
theorem rawOfBytes_rawBytes (r : RawStep) (h : r.wf = true) : rawOfBytes (rawBytes r) = some r := by
  simp [RawStep.wf] at h
  obtain ⟨⟨⟨⟨⟨⟨⟨⟨⟨⟨⟨⟨⟨⟨⟨h1, h2⟩, h3⟩, h4⟩, h5⟩, h6⟩, h7⟩, h8⟩, h9⟩, h10⟩, h11⟩, h12⟩, h13⟩, h14⟩, h15⟩, h16⟩ := h
  simp [rawBytes, rawOfBytes, byte, le16, num16_le16, Nat.mod_eq_of_lt, *]

theorem byteSum_append (a b : List Byte) : byteSum (a ++ b) = byteSum a + byteSum b := by
  induction a with
  | nil => simp [byteSum]
  | cons x xs ih => simp [byteSum, ih, BitVec.add_assoc]

/-! ### The rows of the kind code table -/

theorem requestOf_01 :
    requestOf 0x01 [] = some .readStatus := rfl
theorem requestOf_02 :
    requestOf 0x02 [] = some .takeNotice := rfl
theorem requestOf_03 (m0 m1 : Byte) :
    requestOf 0x03 [m0, m1] = some (.setNoticeMask (BitVec.ofNat 16 (num16 m0 m1))) := rfl
theorem requestOf_10 :
    requestOf 0x10 [] = some .readPlanHeader := rfl
theorem requestOf_11 (i : Byte) :
    requestOf 0x11 [i] = some (.readStep i.toNat) := rfl
theorem requestOf_12 (r0 r1 i : Byte) (bytes : List Byte) :
    requestOf 0x12 (r0 :: r1 :: i :: bytes) = (rawOfBytes bytes).map (.insertStep (num16 r0 r1) i.toNat) := rfl
theorem requestOf_13 (r0 r1 i : Byte) (bytes : List Byte) :
    requestOf 0x13 (r0 :: r1 :: i :: bytes) = (rawOfBytes bytes).map (.replaceStep (num16 r0 r1) i.toNat) := rfl
theorem requestOf_14 (r0 r1 i : Byte) :
    requestOf 0x14 [r0, r1, i] = some (.removeStep (num16 r0 r1) i.toNat) := rfl
theorem requestOf_15 (r0 r1 : Byte) :
    requestOf 0x15 [r0, r1] = some (.clearPlan (num16 r0 r1)) := rfl
theorem requestOf_16 (r0 r1 p0 p1 : Byte) :
    requestOf 0x16 [r0, r1, p0, p1] = some (.setPlanId (num16 r0 r1) (num16 p0 p1)) := rfl
theorem requestOf_20 (r0 r1 i : Byte) :
    requestOf 0x20 [r0, r1, i] = some (.startRun (num16 r0 r1) i.toNat) := rfl
theorem requestOf_21 :
    requestOf 0x21 [] = some .pause := rfl
theorem requestOf_22 :
    requestOf 0x22 [] = some .resume := rfl
theorem requestOf_23 :
    requestOf 0x23 [] = some .abort := rfl
theorem requestOf_24 (i : Byte) :
    requestOf 0x24 [i] = some (.skipStep i.toNat) := rfl
theorem requestOf_25 (i : Byte) :
    requestOf 0x25 [i] = some (.confirm i.toNat) := rfl
theorem requestOf_26 :
    requestOf 0x26 [] = some .clearTrip := rfl
theorem requestOf_27 (i : Byte) :
    requestOf 0x27 [i] = some (.readRunLog i.toNat) := rfl
theorem requestOf_30 :
    requestOf 0x30 [] = some .tarePush := rfl
theorem requestOf_31 :
    requestOf 0x31 [] = some .tarePop := rfl
theorem requestOf_32 :
    requestOf 0x32 [] = some .tareClear := rfl
theorem requestOf_33 :
    requestOf 0x33 [] = some .restartScale := rfl
theorem requestOf_34 (c0 c1 d0 d1 b c : Byte) :
    requestOf 0x34 [c0, c1, d0, d1, b, c] = some (.calZero (num16 c0 c1) (signed 16 (num16 d0 d1)) (signed 8 b.toNat) (signed 8 c.toNat)) := rfl
theorem requestOf_35 (k0 k1 k2 k3 c0 c1 : Byte) :
    requestOf 0x35 [k0, k1, k2, k3, c0, c1] = some (.calSpan (num32 k0 k1 k2 k3) (num16 c0 c1)) := rfl
theorem requestOf_36 :
    requestOf 0x36 [] = some .readCal := rfl
theorem requestOf_40 (k : Byte) :
    requestOf 0x40 [k] = some (.permit k) := rfl
theorem requestOf_41 (d0 d1 : Byte) :
    requestOf 0x41 [d0, d1] = some (.clearLatched (BitVec.ofNat 16 (num16 d0 d1))) := rfl
theorem requestOf_50 (i : Byte) :
    requestOf 0x50 [i] = some (.libSave i.toNat) := rfl
theorem requestOf_51 (i : Byte) :
    requestOf 0x51 [i] = some (.libLoad i.toNat) := rfl
theorem requestOf_52 (i : Byte) :
    requestOf 0x52 [i] = some (.libErase i.toNat) := rfl
theorem requestOf_53 :
    requestOf 0x53 [] = some .libInfo := rfl
theorem requestOf_54 :
    requestOf 0x54 [] = some .libWriteCal := rfl

end Sys2Proof.Machine
end

