-- ==== Sys2Proof/Laws/State.lean ====
section
/-! SUPPORT. What each update of `State` reads as: one lemma a field and update, so that no proof unfolds an update. -/

namespace Sys2Proof.Machine

variable (s : State)

@[simp] theorem State.withPlan_pending (x : Plan) : (s.withPlan x).pending = s.pending := rfl
@[simp] theorem State.withPlan_now (x : Plan) : (s.withPlan x).now = s.now := rfl
@[simp] theorem State.withPlan_free (x : Plan) : (s.withPlan x).free = s.free := rfl
@[simp] theorem State.withPlan_plan (x : Plan) : (s.withPlan x).plan = x := rfl
@[simp] theorem State.withPlan_engine (x : Plan) : (s.withPlan x).engine = s.engine := rfl
@[simp] theorem State.withPlan_conv (x : Plan) : (s.withPlan x).conv = s.conv := rfl
@[simp] theorem State.withPlan_scale (x : Plan) : (s.withPlan x).scale = s.scale := rfl
@[simp] theorem State.withPlan_heat (x : Plan) : (s.withPlan x).heat = s.heat := rfl
@[simp] theorem State.withPlan_stir (x : Plan) : (s.withPlan x).stir = s.stir := rfl
@[simp] theorem State.withPlan_lid (x : Plan) : (s.withPlan x).lid = s.lid := rfl
@[simp] theorem State.withPlan_mon (x : Plan) : (s.withPlan x).mon = s.mon := rfl
@[simp] theorem State.withPlan_permit (x : Plan) : (s.withPlan x).permit = s.permit := rfl
@[simp] theorem State.withPlan_notices (x : Plan) : (s.withPlan x).notices = s.notices := rfl
@[simp] theorem State.withPlan_store (x : Plan) : (s.withPlan x).store = s.store := rfl
@[simp] theorem State.withPlan_panel (x : Plan) : (s.withPlan x).panel = s.panel := rfl
@[simp] theorem State.withPlan_link (x : Plan) : (s.withPlan x).link = s.link := rfl
@[simp] theorem State.withPlan_rx (x : Plan) : (s.withPlan x).rx = s.rx := rfl
@[simp] theorem State.withPlan_psdo (x : Plan) : (s.withPlan x).psdo = s.psdo := rfl

@[simp] theorem State.withEngine_pending (x : Engine) : (s.withEngine x).pending = s.pending := rfl
@[simp] theorem State.withEngine_now (x : Engine) : (s.withEngine x).now = s.now := rfl
@[simp] theorem State.withEngine_free (x : Engine) : (s.withEngine x).free = s.free := rfl
@[simp] theorem State.withEngine_plan (x : Engine) : (s.withEngine x).plan = s.plan := rfl
@[simp] theorem State.withEngine_engine (x : Engine) : (s.withEngine x).engine = x := rfl
@[simp] theorem State.withEngine_conv (x : Engine) : (s.withEngine x).conv = s.conv := rfl
@[simp] theorem State.withEngine_scale (x : Engine) : (s.withEngine x).scale = s.scale := rfl
@[simp] theorem State.withEngine_heat (x : Engine) : (s.withEngine x).heat = s.heat := rfl
@[simp] theorem State.withEngine_stir (x : Engine) : (s.withEngine x).stir = s.stir := rfl
@[simp] theorem State.withEngine_lid (x : Engine) : (s.withEngine x).lid = s.lid := rfl
@[simp] theorem State.withEngine_mon (x : Engine) : (s.withEngine x).mon = s.mon := rfl
@[simp] theorem State.withEngine_permit (x : Engine) : (s.withEngine x).permit = s.permit := rfl
@[simp] theorem State.withEngine_notices (x : Engine) : (s.withEngine x).notices = s.notices := rfl
@[simp] theorem State.withEngine_store (x : Engine) : (s.withEngine x).store = s.store := rfl
@[simp] theorem State.withEngine_panel (x : Engine) : (s.withEngine x).panel = s.panel := rfl
@[simp] theorem State.withEngine_link (x : Engine) : (s.withEngine x).link = s.link := rfl
@[simp] theorem State.withEngine_rx (x : Engine) : (s.withEngine x).rx = s.rx := rfl
@[simp] theorem State.withEngine_psdo (x : Engine) : (s.withEngine x).psdo = s.psdo := rfl

@[simp] theorem State.withConv_pending (x : Converter) : (s.withConv x).pending = s.pending := rfl
@[simp] theorem State.withConv_now (x : Converter) : (s.withConv x).now = s.now := rfl
@[simp] theorem State.withConv_free (x : Converter) : (s.withConv x).free = s.free := rfl
@[simp] theorem State.withConv_plan (x : Converter) : (s.withConv x).plan = s.plan := rfl
@[simp] theorem State.withConv_engine (x : Converter) : (s.withConv x).engine = s.engine := rfl
@[simp] theorem State.withConv_conv (x : Converter) : (s.withConv x).conv = x := rfl
@[simp] theorem State.withConv_scale (x : Converter) : (s.withConv x).scale = s.scale := rfl
@[simp] theorem State.withConv_heat (x : Converter) : (s.withConv x).heat = s.heat := rfl
@[simp] theorem State.withConv_stir (x : Converter) : (s.withConv x).stir = s.stir := rfl
@[simp] theorem State.withConv_lid (x : Converter) : (s.withConv x).lid = s.lid := rfl
@[simp] theorem State.withConv_mon (x : Converter) : (s.withConv x).mon = s.mon := rfl
@[simp] theorem State.withConv_permit (x : Converter) : (s.withConv x).permit = s.permit := rfl
@[simp] theorem State.withConv_notices (x : Converter) : (s.withConv x).notices = s.notices := rfl
@[simp] theorem State.withConv_store (x : Converter) : (s.withConv x).store = s.store := rfl
@[simp] theorem State.withConv_panel (x : Converter) : (s.withConv x).panel = s.panel := rfl
@[simp] theorem State.withConv_link (x : Converter) : (s.withConv x).link = s.link := rfl
@[simp] theorem State.withConv_rx (x : Converter) : (s.withConv x).rx = s.rx := rfl
@[simp] theorem State.withConv_psdo (x : Converter) : (s.withConv x).psdo = s.psdo := rfl

@[simp] theorem State.withScale_pending (x : Scale) : (s.withScale x).pending = s.pending := rfl
@[simp] theorem State.withScale_now (x : Scale) : (s.withScale x).now = s.now := rfl
@[simp] theorem State.withScale_free (x : Scale) : (s.withScale x).free = s.free := rfl
@[simp] theorem State.withScale_plan (x : Scale) : (s.withScale x).plan = s.plan := rfl
@[simp] theorem State.withScale_engine (x : Scale) : (s.withScale x).engine = s.engine := rfl
@[simp] theorem State.withScale_conv (x : Scale) : (s.withScale x).conv = s.conv := rfl
@[simp] theorem State.withScale_scale (x : Scale) : (s.withScale x).scale = x := rfl
@[simp] theorem State.withScale_heat (x : Scale) : (s.withScale x).heat = s.heat := rfl
@[simp] theorem State.withScale_stir (x : Scale) : (s.withScale x).stir = s.stir := rfl
@[simp] theorem State.withScale_lid (x : Scale) : (s.withScale x).lid = s.lid := rfl
@[simp] theorem State.withScale_mon (x : Scale) : (s.withScale x).mon = s.mon := rfl
@[simp] theorem State.withScale_permit (x : Scale) : (s.withScale x).permit = s.permit := rfl
@[simp] theorem State.withScale_notices (x : Scale) : (s.withScale x).notices = s.notices := rfl
@[simp] theorem State.withScale_store (x : Scale) : (s.withScale x).store = s.store := rfl
@[simp] theorem State.withScale_panel (x : Scale) : (s.withScale x).panel = s.panel := rfl
@[simp] theorem State.withScale_link (x : Scale) : (s.withScale x).link = s.link := rfl
@[simp] theorem State.withScale_rx (x : Scale) : (s.withScale x).rx = s.rx := rfl
@[simp] theorem State.withScale_psdo (x : Scale) : (s.withScale x).psdo = s.psdo := rfl

@[simp] theorem State.withHeat_pending (x : Heat) : (s.withHeat x).pending = s.pending := rfl
@[simp] theorem State.withHeat_now (x : Heat) : (s.withHeat x).now = s.now := rfl
@[simp] theorem State.withHeat_free (x : Heat) : (s.withHeat x).free = s.free := rfl
@[simp] theorem State.withHeat_plan (x : Heat) : (s.withHeat x).plan = s.plan := rfl
@[simp] theorem State.withHeat_engine (x : Heat) : (s.withHeat x).engine = s.engine := rfl
@[simp] theorem State.withHeat_conv (x : Heat) : (s.withHeat x).conv = s.conv := rfl
@[simp] theorem State.withHeat_scale (x : Heat) : (s.withHeat x).scale = s.scale := rfl
@[simp] theorem State.withHeat_heat (x : Heat) : (s.withHeat x).heat = x := rfl
@[simp] theorem State.withHeat_stir (x : Heat) : (s.withHeat x).stir = s.stir := rfl
@[simp] theorem State.withHeat_lid (x : Heat) : (s.withHeat x).lid = s.lid := rfl
@[simp] theorem State.withHeat_mon (x : Heat) : (s.withHeat x).mon = s.mon := rfl
@[simp] theorem State.withHeat_permit (x : Heat) : (s.withHeat x).permit = s.permit := rfl
@[simp] theorem State.withHeat_notices (x : Heat) : (s.withHeat x).notices = s.notices := rfl
@[simp] theorem State.withHeat_store (x : Heat) : (s.withHeat x).store = s.store := rfl
@[simp] theorem State.withHeat_panel (x : Heat) : (s.withHeat x).panel = s.panel := rfl
@[simp] theorem State.withHeat_link (x : Heat) : (s.withHeat x).link = s.link := rfl
@[simp] theorem State.withHeat_rx (x : Heat) : (s.withHeat x).rx = s.rx := rfl
@[simp] theorem State.withHeat_psdo (x : Heat) : (s.withHeat x).psdo = s.psdo := rfl

@[simp] theorem State.withStir_pending (x : Stir) : (s.withStir x).pending = s.pending := rfl
@[simp] theorem State.withStir_now (x : Stir) : (s.withStir x).now = s.now := rfl
@[simp] theorem State.withStir_free (x : Stir) : (s.withStir x).free = s.free := rfl
@[simp] theorem State.withStir_plan (x : Stir) : (s.withStir x).plan = s.plan := rfl
@[simp] theorem State.withStir_engine (x : Stir) : (s.withStir x).engine = s.engine := rfl
@[simp] theorem State.withStir_conv (x : Stir) : (s.withStir x).conv = s.conv := rfl
@[simp] theorem State.withStir_scale (x : Stir) : (s.withStir x).scale = s.scale := rfl
@[simp] theorem State.withStir_heat (x : Stir) : (s.withStir x).heat = s.heat := rfl
@[simp] theorem State.withStir_stir (x : Stir) : (s.withStir x).stir = x := rfl
@[simp] theorem State.withStir_lid (x : Stir) : (s.withStir x).lid = s.lid := rfl
@[simp] theorem State.withStir_mon (x : Stir) : (s.withStir x).mon = s.mon := rfl
@[simp] theorem State.withStir_permit (x : Stir) : (s.withStir x).permit = s.permit := rfl
@[simp] theorem State.withStir_notices (x : Stir) : (s.withStir x).notices = s.notices := rfl
@[simp] theorem State.withStir_store (x : Stir) : (s.withStir x).store = s.store := rfl
@[simp] theorem State.withStir_panel (x : Stir) : (s.withStir x).panel = s.panel := rfl
@[simp] theorem State.withStir_link (x : Stir) : (s.withStir x).link = s.link := rfl
@[simp] theorem State.withStir_rx (x : Stir) : (s.withStir x).rx = s.rx := rfl
@[simp] theorem State.withStir_psdo (x : Stir) : (s.withStir x).psdo = s.psdo := rfl

@[simp] theorem State.withLid_pending (x : Lid) : (s.withLid x).pending = s.pending := rfl
@[simp] theorem State.withLid_now (x : Lid) : (s.withLid x).now = s.now := rfl
@[simp] theorem State.withLid_free (x : Lid) : (s.withLid x).free = s.free := rfl
@[simp] theorem State.withLid_plan (x : Lid) : (s.withLid x).plan = s.plan := rfl
@[simp] theorem State.withLid_engine (x : Lid) : (s.withLid x).engine = s.engine := rfl
@[simp] theorem State.withLid_conv (x : Lid) : (s.withLid x).conv = s.conv := rfl
@[simp] theorem State.withLid_scale (x : Lid) : (s.withLid x).scale = s.scale := rfl
@[simp] theorem State.withLid_heat (x : Lid) : (s.withLid x).heat = s.heat := rfl
@[simp] theorem State.withLid_stir (x : Lid) : (s.withLid x).stir = s.stir := rfl
@[simp] theorem State.withLid_lid (x : Lid) : (s.withLid x).lid = x := rfl
@[simp] theorem State.withLid_mon (x : Lid) : (s.withLid x).mon = s.mon := rfl
@[simp] theorem State.withLid_permit (x : Lid) : (s.withLid x).permit = s.permit := rfl
@[simp] theorem State.withLid_notices (x : Lid) : (s.withLid x).notices = s.notices := rfl
@[simp] theorem State.withLid_store (x : Lid) : (s.withLid x).store = s.store := rfl
@[simp] theorem State.withLid_panel (x : Lid) : (s.withLid x).panel = s.panel := rfl
@[simp] theorem State.withLid_link (x : Lid) : (s.withLid x).link = s.link := rfl
@[simp] theorem State.withLid_rx (x : Lid) : (s.withLid x).rx = s.rx := rfl
@[simp] theorem State.withLid_psdo (x : Lid) : (s.withLid x).psdo = s.psdo := rfl

@[simp] theorem State.withMon_pending (x : Monitor) : (s.withMon x).pending = s.pending := rfl
@[simp] theorem State.withMon_now (x : Monitor) : (s.withMon x).now = s.now := rfl
@[simp] theorem State.withMon_free (x : Monitor) : (s.withMon x).free = s.free := rfl
@[simp] theorem State.withMon_plan (x : Monitor) : (s.withMon x).plan = s.plan := rfl
@[simp] theorem State.withMon_engine (x : Monitor) : (s.withMon x).engine = s.engine := rfl
@[simp] theorem State.withMon_conv (x : Monitor) : (s.withMon x).conv = s.conv := rfl
@[simp] theorem State.withMon_scale (x : Monitor) : (s.withMon x).scale = s.scale := rfl
@[simp] theorem State.withMon_heat (x : Monitor) : (s.withMon x).heat = s.heat := rfl
@[simp] theorem State.withMon_stir (x : Monitor) : (s.withMon x).stir = s.stir := rfl
@[simp] theorem State.withMon_lid (x : Monitor) : (s.withMon x).lid = s.lid := rfl
@[simp] theorem State.withMon_mon (x : Monitor) : (s.withMon x).mon = x := rfl
@[simp] theorem State.withMon_permit (x : Monitor) : (s.withMon x).permit = s.permit := rfl
@[simp] theorem State.withMon_notices (x : Monitor) : (s.withMon x).notices = s.notices := rfl
@[simp] theorem State.withMon_store (x : Monitor) : (s.withMon x).store = s.store := rfl
@[simp] theorem State.withMon_panel (x : Monitor) : (s.withMon x).panel = s.panel := rfl
@[simp] theorem State.withMon_link (x : Monitor) : (s.withMon x).link = s.link := rfl
@[simp] theorem State.withMon_rx (x : Monitor) : (s.withMon x).rx = s.rx := rfl
@[simp] theorem State.withMon_psdo (x : Monitor) : (s.withMon x).psdo = s.psdo := rfl

@[simp] theorem State.withPermit_pending (x : Permit) : (s.withPermit x).pending = s.pending := rfl
@[simp] theorem State.withPermit_now (x : Permit) : (s.withPermit x).now = s.now := rfl
@[simp] theorem State.withPermit_free (x : Permit) : (s.withPermit x).free = s.free := rfl
@[simp] theorem State.withPermit_plan (x : Permit) : (s.withPermit x).plan = s.plan := rfl
@[simp] theorem State.withPermit_engine (x : Permit) : (s.withPermit x).engine = s.engine := rfl
@[simp] theorem State.withPermit_conv (x : Permit) : (s.withPermit x).conv = s.conv := rfl
@[simp] theorem State.withPermit_scale (x : Permit) : (s.withPermit x).scale = s.scale := rfl
@[simp] theorem State.withPermit_heat (x : Permit) : (s.withPermit x).heat = s.heat := rfl
@[simp] theorem State.withPermit_stir (x : Permit) : (s.withPermit x).stir = s.stir := rfl
@[simp] theorem State.withPermit_lid (x : Permit) : (s.withPermit x).lid = s.lid := rfl
@[simp] theorem State.withPermit_mon (x : Permit) : (s.withPermit x).mon = s.mon := rfl
@[simp] theorem State.withPermit_permit (x : Permit) : (s.withPermit x).permit = x := rfl
@[simp] theorem State.withPermit_notices (x : Permit) : (s.withPermit x).notices = s.notices := rfl
@[simp] theorem State.withPermit_store (x : Permit) : (s.withPermit x).store = s.store := rfl
@[simp] theorem State.withPermit_panel (x : Permit) : (s.withPermit x).panel = s.panel := rfl
@[simp] theorem State.withPermit_link (x : Permit) : (s.withPermit x).link = s.link := rfl
@[simp] theorem State.withPermit_rx (x : Permit) : (s.withPermit x).rx = s.rx := rfl
@[simp] theorem State.withPermit_psdo (x : Permit) : (s.withPermit x).psdo = s.psdo := rfl

@[simp] theorem State.withNotices_pending (x : Notices) : (s.withNotices x).pending = s.pending := rfl
@[simp] theorem State.withNotices_now (x : Notices) : (s.withNotices x).now = s.now := rfl
@[simp] theorem State.withNotices_free (x : Notices) : (s.withNotices x).free = s.free := rfl
@[simp] theorem State.withNotices_plan (x : Notices) : (s.withNotices x).plan = s.plan := rfl
@[simp] theorem State.withNotices_engine (x : Notices) : (s.withNotices x).engine = s.engine := rfl
@[simp] theorem State.withNotices_conv (x : Notices) : (s.withNotices x).conv = s.conv := rfl
@[simp] theorem State.withNotices_scale (x : Notices) : (s.withNotices x).scale = s.scale := rfl
@[simp] theorem State.withNotices_heat (x : Notices) : (s.withNotices x).heat = s.heat := rfl
@[simp] theorem State.withNotices_stir (x : Notices) : (s.withNotices x).stir = s.stir := rfl
@[simp] theorem State.withNotices_lid (x : Notices) : (s.withNotices x).lid = s.lid := rfl
@[simp] theorem State.withNotices_mon (x : Notices) : (s.withNotices x).mon = s.mon := rfl
@[simp] theorem State.withNotices_permit (x : Notices) : (s.withNotices x).permit = s.permit := rfl
@[simp] theorem State.withNotices_notices (x : Notices) : (s.withNotices x).notices = x := rfl
@[simp] theorem State.withNotices_store (x : Notices) : (s.withNotices x).store = s.store := rfl
@[simp] theorem State.withNotices_panel (x : Notices) : (s.withNotices x).panel = s.panel := rfl
@[simp] theorem State.withNotices_link (x : Notices) : (s.withNotices x).link = s.link := rfl
@[simp] theorem State.withNotices_rx (x : Notices) : (s.withNotices x).rx = s.rx := rfl
@[simp] theorem State.withNotices_psdo (x : Notices) : (s.withNotices x).psdo = s.psdo := rfl

@[simp] theorem State.withStore_pending (x : Store) : (s.withStore x).pending = s.pending := rfl
@[simp] theorem State.withStore_now (x : Store) : (s.withStore x).now = s.now := rfl
@[simp] theorem State.withStore_free (x : Store) : (s.withStore x).free = s.free := rfl
@[simp] theorem State.withStore_plan (x : Store) : (s.withStore x).plan = s.plan := rfl
@[simp] theorem State.withStore_engine (x : Store) : (s.withStore x).engine = s.engine := rfl
@[simp] theorem State.withStore_conv (x : Store) : (s.withStore x).conv = s.conv := rfl
@[simp] theorem State.withStore_scale (x : Store) : (s.withStore x).scale = s.scale := rfl
@[simp] theorem State.withStore_heat (x : Store) : (s.withStore x).heat = s.heat := rfl
@[simp] theorem State.withStore_stir (x : Store) : (s.withStore x).stir = s.stir := rfl
@[simp] theorem State.withStore_lid (x : Store) : (s.withStore x).lid = s.lid := rfl
@[simp] theorem State.withStore_mon (x : Store) : (s.withStore x).mon = s.mon := rfl
@[simp] theorem State.withStore_permit (x : Store) : (s.withStore x).permit = s.permit := rfl
@[simp] theorem State.withStore_notices (x : Store) : (s.withStore x).notices = s.notices := rfl
@[simp] theorem State.withStore_store (x : Store) : (s.withStore x).store = x := rfl
@[simp] theorem State.withStore_panel (x : Store) : (s.withStore x).panel = s.panel := rfl
@[simp] theorem State.withStore_link (x : Store) : (s.withStore x).link = s.link := rfl
@[simp] theorem State.withStore_rx (x : Store) : (s.withStore x).rx = s.rx := rfl
@[simp] theorem State.withStore_psdo (x : Store) : (s.withStore x).psdo = s.psdo := rfl

@[simp] theorem State.withPanel_pending (x : PortState) : (s.withPanel x).pending = s.pending := rfl
@[simp] theorem State.withPanel_now (x : PortState) : (s.withPanel x).now = s.now := rfl
@[simp] theorem State.withPanel_free (x : PortState) : (s.withPanel x).free = s.free := rfl
@[simp] theorem State.withPanel_plan (x : PortState) : (s.withPanel x).plan = s.plan := rfl
@[simp] theorem State.withPanel_engine (x : PortState) : (s.withPanel x).engine = s.engine := rfl
@[simp] theorem State.withPanel_conv (x : PortState) : (s.withPanel x).conv = s.conv := rfl
@[simp] theorem State.withPanel_scale (x : PortState) : (s.withPanel x).scale = s.scale := rfl
@[simp] theorem State.withPanel_heat (x : PortState) : (s.withPanel x).heat = s.heat := rfl
@[simp] theorem State.withPanel_stir (x : PortState) : (s.withPanel x).stir = s.stir := rfl
@[simp] theorem State.withPanel_lid (x : PortState) : (s.withPanel x).lid = s.lid := rfl
@[simp] theorem State.withPanel_mon (x : PortState) : (s.withPanel x).mon = s.mon := rfl
@[simp] theorem State.withPanel_permit (x : PortState) : (s.withPanel x).permit = s.permit := rfl
@[simp] theorem State.withPanel_notices (x : PortState) : (s.withPanel x).notices = s.notices := rfl
@[simp] theorem State.withPanel_store (x : PortState) : (s.withPanel x).store = s.store := rfl
@[simp] theorem State.withPanel_panel (x : PortState) : (s.withPanel x).panel = x := rfl
@[simp] theorem State.withPanel_link (x : PortState) : (s.withPanel x).link = s.link := rfl
@[simp] theorem State.withPanel_rx (x : PortState) : (s.withPanel x).rx = s.rx := rfl
@[simp] theorem State.withPanel_psdo (x : PortState) : (s.withPanel x).psdo = s.psdo := rfl

@[simp] theorem State.withLink_pending (x : PortState) : (s.withLink x).pending = s.pending := rfl
@[simp] theorem State.withLink_now (x : PortState) : (s.withLink x).now = s.now := rfl
@[simp] theorem State.withLink_free (x : PortState) : (s.withLink x).free = s.free := rfl
@[simp] theorem State.withLink_plan (x : PortState) : (s.withLink x).plan = s.plan := rfl
@[simp] theorem State.withLink_engine (x : PortState) : (s.withLink x).engine = s.engine := rfl
@[simp] theorem State.withLink_conv (x : PortState) : (s.withLink x).conv = s.conv := rfl
@[simp] theorem State.withLink_scale (x : PortState) : (s.withLink x).scale = s.scale := rfl
@[simp] theorem State.withLink_heat (x : PortState) : (s.withLink x).heat = s.heat := rfl
@[simp] theorem State.withLink_stir (x : PortState) : (s.withLink x).stir = s.stir := rfl
@[simp] theorem State.withLink_lid (x : PortState) : (s.withLink x).lid = s.lid := rfl
@[simp] theorem State.withLink_mon (x : PortState) : (s.withLink x).mon = s.mon := rfl
@[simp] theorem State.withLink_permit (x : PortState) : (s.withLink x).permit = s.permit := rfl
@[simp] theorem State.withLink_notices (x : PortState) : (s.withLink x).notices = s.notices := rfl
@[simp] theorem State.withLink_store (x : PortState) : (s.withLink x).store = s.store := rfl
@[simp] theorem State.withLink_panel (x : PortState) : (s.withLink x).panel = s.panel := rfl
@[simp] theorem State.withLink_link (x : PortState) : (s.withLink x).link = x := rfl
@[simp] theorem State.withLink_rx (x : PortState) : (s.withLink x).rx = s.rx := rfl
@[simp] theorem State.withLink_psdo (x : PortState) : (s.withLink x).psdo = s.psdo := rfl

@[simp] theorem State.withRx_pending (x : LinkRx) : (s.withRx x).pending = s.pending := rfl
@[simp] theorem State.withRx_now (x : LinkRx) : (s.withRx x).now = s.now := rfl
@[simp] theorem State.withRx_free (x : LinkRx) : (s.withRx x).free = s.free := rfl
@[simp] theorem State.withRx_plan (x : LinkRx) : (s.withRx x).plan = s.plan := rfl
@[simp] theorem State.withRx_engine (x : LinkRx) : (s.withRx x).engine = s.engine := rfl
@[simp] theorem State.withRx_conv (x : LinkRx) : (s.withRx x).conv = s.conv := rfl
@[simp] theorem State.withRx_scale (x : LinkRx) : (s.withRx x).scale = s.scale := rfl
@[simp] theorem State.withRx_heat (x : LinkRx) : (s.withRx x).heat = s.heat := rfl
@[simp] theorem State.withRx_stir (x : LinkRx) : (s.withRx x).stir = s.stir := rfl
@[simp] theorem State.withRx_lid (x : LinkRx) : (s.withRx x).lid = s.lid := rfl
@[simp] theorem State.withRx_mon (x : LinkRx) : (s.withRx x).mon = s.mon := rfl
@[simp] theorem State.withRx_permit (x : LinkRx) : (s.withRx x).permit = s.permit := rfl
@[simp] theorem State.withRx_notices (x : LinkRx) : (s.withRx x).notices = s.notices := rfl
@[simp] theorem State.withRx_store (x : LinkRx) : (s.withRx x).store = s.store := rfl
@[simp] theorem State.withRx_panel (x : LinkRx) : (s.withRx x).panel = s.panel := rfl
@[simp] theorem State.withRx_link (x : LinkRx) : (s.withRx x).link = s.link := rfl
@[simp] theorem State.withRx_rx (x : LinkRx) : (s.withRx x).rx = x := rfl
@[simp] theorem State.withRx_psdo (x : LinkRx) : (s.withRx x).psdo = s.psdo := rfl

@[simp] theorem State.withPsdo_pending (x : List Byte) : (s.withPsdo x).pending = s.pending := rfl
@[simp] theorem State.withPsdo_now (x : List Byte) : (s.withPsdo x).now = s.now := rfl
@[simp] theorem State.withPsdo_free (x : List Byte) : (s.withPsdo x).free = s.free := rfl
@[simp] theorem State.withPsdo_plan (x : List Byte) : (s.withPsdo x).plan = s.plan := rfl
@[simp] theorem State.withPsdo_engine (x : List Byte) : (s.withPsdo x).engine = s.engine := rfl
@[simp] theorem State.withPsdo_conv (x : List Byte) : (s.withPsdo x).conv = s.conv := rfl
@[simp] theorem State.withPsdo_scale (x : List Byte) : (s.withPsdo x).scale = s.scale := rfl
@[simp] theorem State.withPsdo_heat (x : List Byte) : (s.withPsdo x).heat = s.heat := rfl
@[simp] theorem State.withPsdo_stir (x : List Byte) : (s.withPsdo x).stir = s.stir := rfl
@[simp] theorem State.withPsdo_lid (x : List Byte) : (s.withPsdo x).lid = s.lid := rfl
@[simp] theorem State.withPsdo_mon (x : List Byte) : (s.withPsdo x).mon = s.mon := rfl
@[simp] theorem State.withPsdo_permit (x : List Byte) : (s.withPsdo x).permit = s.permit := rfl
@[simp] theorem State.withPsdo_notices (x : List Byte) : (s.withPsdo x).notices = s.notices := rfl
@[simp] theorem State.withPsdo_store (x : List Byte) : (s.withPsdo x).store = s.store := rfl
@[simp] theorem State.withPsdo_panel (x : List Byte) : (s.withPsdo x).panel = s.panel := rfl
@[simp] theorem State.withPsdo_link (x : List Byte) : (s.withPsdo x).link = s.link := rfl
@[simp] theorem State.withPsdo_rx (x : List Byte) : (s.withPsdo x).rx = s.rx := rfl
@[simp] theorem State.withPsdo_psdo (x : List Byte) : (s.withPsdo x).psdo = x := rfl

@[simp] theorem State.after_pending (dt : Nat) : (s.after dt).pending = s.pending := rfl
@[simp] theorem State.after_now (dt : Nat) : (s.after dt).now = s.now + dt := rfl
@[simp] theorem State.after_free (dt : Nat) : (s.after dt).free = s.free := rfl
@[simp] theorem State.after_plan (dt : Nat) : (s.after dt).plan = s.plan := rfl
@[simp] theorem State.after_engine (dt : Nat) : (s.after dt).engine = s.engine := rfl
@[simp] theorem State.after_conv (dt : Nat) : (s.after dt).conv = s.conv := rfl
@[simp] theorem State.after_scale (dt : Nat) : (s.after dt).scale = s.scale := rfl
@[simp] theorem State.after_heat (dt : Nat) : (s.after dt).heat = s.heat := rfl
@[simp] theorem State.after_stir (dt : Nat) : (s.after dt).stir = s.stir := rfl
@[simp] theorem State.after_lid (dt : Nat) : (s.after dt).lid = s.lid := rfl
@[simp] theorem State.after_mon (dt : Nat) : (s.after dt).mon = s.mon := rfl
@[simp] theorem State.after_permit (dt : Nat) : (s.after dt).permit = s.permit := rfl
@[simp] theorem State.after_notices (dt : Nat) : (s.after dt).notices = s.notices := rfl
@[simp] theorem State.after_store (dt : Nat) : (s.after dt).store = s.store := rfl
@[simp] theorem State.after_panel (dt : Nat) : (s.after dt).panel = s.panel := rfl
@[simp] theorem State.after_link (dt : Nat) : (s.after dt).link = s.link := rfl
@[simp] theorem State.after_rx (dt : Nat) : (s.after dt).rx = s.rx := rfl
@[simp] theorem State.after_psdo (dt : Nat) : (s.after dt).psdo = s.psdo := rfl

@[simp] theorem State.useFree_pending : (s.useFree).pending = s.pending := rfl
@[simp] theorem State.useFree_now : (s.useFree).now = s.now := rfl
@[simp] theorem State.useFree_free : (s.useFree).free = s.free + 1 := rfl
@[simp] theorem State.useFree_plan : (s.useFree).plan = s.plan := rfl
@[simp] theorem State.useFree_engine : (s.useFree).engine = s.engine := rfl
@[simp] theorem State.useFree_conv : (s.useFree).conv = s.conv := rfl
@[simp] theorem State.useFree_scale : (s.useFree).scale = s.scale := rfl
@[simp] theorem State.useFree_heat : (s.useFree).heat = s.heat := rfl
@[simp] theorem State.useFree_stir : (s.useFree).stir = s.stir := rfl
@[simp] theorem State.useFree_lid : (s.useFree).lid = s.lid := rfl
@[simp] theorem State.useFree_mon : (s.useFree).mon = s.mon := rfl
@[simp] theorem State.useFree_permit : (s.useFree).permit = s.permit := rfl
@[simp] theorem State.useFree_notices : (s.useFree).notices = s.notices := rfl
@[simp] theorem State.useFree_store : (s.useFree).store = s.store := rfl
@[simp] theorem State.useFree_panel : (s.useFree).panel = s.panel := rfl
@[simp] theorem State.useFree_link : (s.useFree).link = s.link := rfl
@[simp] theorem State.useFree_rx : (s.useFree).rx = s.rx := rfl
@[simp] theorem State.useFree_psdo : (s.useFree).psdo = s.psdo := rfl

@[simp] theorem State.withPlan_withPlan (x y : Plan) : (s.withPlan x).withPlan y = s.withPlan y := rfl
@[simp] theorem State.withPlan_self : s.withPlan s.plan = s := rfl
@[simp] theorem State.withEngine_withEngine (x y : Engine) : (s.withEngine x).withEngine y = s.withEngine y := rfl
@[simp] theorem State.withEngine_self : s.withEngine s.engine = s := rfl
@[simp] theorem State.withConv_withConv (x y : Converter) : (s.withConv x).withConv y = s.withConv y := rfl
@[simp] theorem State.withConv_self : s.withConv s.conv = s := rfl
@[simp] theorem State.withScale_withScale (x y : Scale) : (s.withScale x).withScale y = s.withScale y := rfl
@[simp] theorem State.withScale_self : s.withScale s.scale = s := rfl
@[simp] theorem State.withHeat_withHeat (x y : Heat) : (s.withHeat x).withHeat y = s.withHeat y := rfl
@[simp] theorem State.withHeat_self : s.withHeat s.heat = s := rfl
@[simp] theorem State.withStir_withStir (x y : Stir) : (s.withStir x).withStir y = s.withStir y := rfl
@[simp] theorem State.withStir_self : s.withStir s.stir = s := rfl
@[simp] theorem State.withLid_withLid (x y : Lid) : (s.withLid x).withLid y = s.withLid y := rfl
@[simp] theorem State.withLid_self : s.withLid s.lid = s := rfl
@[simp] theorem State.withMon_withMon (x y : Monitor) : (s.withMon x).withMon y = s.withMon y := rfl
@[simp] theorem State.withMon_self : s.withMon s.mon = s := rfl
@[simp] theorem State.withPermit_withPermit (x y : Permit) : (s.withPermit x).withPermit y = s.withPermit y := rfl
@[simp] theorem State.withPermit_self : s.withPermit s.permit = s := rfl
@[simp] theorem State.withNotices_withNotices (x y : Notices) : (s.withNotices x).withNotices y = s.withNotices y := rfl
@[simp] theorem State.withNotices_self : s.withNotices s.notices = s := rfl
@[simp] theorem State.withStore_withStore (x y : Store) : (s.withStore x).withStore y = s.withStore y := rfl
@[simp] theorem State.withStore_self : s.withStore s.store = s := rfl
@[simp] theorem State.withPanel_withPanel (x y : PortState) : (s.withPanel x).withPanel y = s.withPanel y := rfl
@[simp] theorem State.withPanel_self : s.withPanel s.panel = s := rfl
@[simp] theorem State.withLink_withLink (x y : PortState) : (s.withLink x).withLink y = s.withLink y := rfl
@[simp] theorem State.withLink_self : s.withLink s.link = s := rfl
@[simp] theorem State.withRx_withRx (x y : LinkRx) : (s.withRx x).withRx y = s.withRx y := rfl
@[simp] theorem State.withRx_self : s.withRx s.rx = s := rfl
@[simp] theorem State.withPsdo_withPsdo (x y : List Byte) : (s.withPsdo x).withPsdo y = s.withPsdo y := rfl
@[simp] theorem State.withPsdo_self : s.withPsdo s.psdo = s := rfl

end Sys2Proof.Machine
end

