-- ==== Sys2Proof/Laws/Frames.lean ====
section
/-! SUPPORT. Which blocks an operation can change: `Touches ts s t` says that `t` agrees with `s` outside the blocks `ts`.
One lemma for each shared operation says all the blocks it can reach; a frame follows by naming a block that is not among
them. -/

namespace Sys2Proof.Machine

/-- The parts of `State`. -/
inductive Block where
  | pending | now | free | plan | engine | conv | scale | heat | stir | lid | mon | permit | notices | store | panel | link
  | rx | psdo
  deriving DecidableEq, Repr

/-- `s` and `t` hold the same in one part. -/
def agree : Block → State → State → Prop
  | .pending, s, t => t.pending = s.pending
  | .now, s, t => t.now = s.now
  | .free, s, t => t.free = s.free
  | .plan, s, t => t.plan = s.plan
  | .engine, s, t => t.engine = s.engine
  | .conv, s, t => t.conv = s.conv
  | .scale, s, t => t.scale = s.scale
  | .heat, s, t => t.heat = s.heat
  | .stir, s, t => t.stir = s.stir
  | .lid, s, t => t.lid = s.lid
  | .mon, s, t => t.mon = s.mon
  | .permit, s, t => t.permit = s.permit
  | .notices, s, t => t.notices = s.notices
  | .store, s, t => t.store = s.store
  | .panel, s, t => t.panel = s.panel
  | .link, s, t => t.link = s.link
  | .rx, s, t => t.rx = s.rx
  | .psdo, s, t => t.psdo = s.psdo

theorem agree_refl (b : Block) (s : State) : agree b s s := by cases b <;> rfl

theorem agree_trans {b : Block} {s t u : State} (h : agree b s t) (k : agree b t u) : agree b s u := by
  cases b <;> exact Eq.trans k h

/-- `t` agrees with `s` outside the blocks `ts`. -/
def Touches (ts : List Block) (s t : State) : Prop := ∀ b, b ∉ ts → agree b s t

theorem Touches.refl (ts : List Block) (s : State) : Touches ts s s := fun b _ => agree_refl b s

theorem Touches.trans {ts : List Block} {s t u : State} (h : Touches ts s t) (k : Touches ts t u) : Touches ts s u :=
  fun b hb => agree_trans (h b hb) (k b hb)

theorem Touches.mono {ts us : List Block} {s t : State} (h : Touches ts s t) (hs : ts ⊆ us) : Touches us s t :=
  fun b hb => h b (fun hb' => hb (hs hb'))

/-- A conditional touches what its arms touch. -/
theorem Touches.ite {ts : List Block} {s a b : State} (c : Prop) [Decidable c] (ha : Touches ts s a)
    (hb : Touches ts s b) : Touches ts s (if c then a else b) := by
  split
  · exact ha
  · exact hb

/-! ### One block -/

theorem withPlan_touches (x : Plan) (s : State) : Touches [.plan] s (s.withPlan x) := by
  intro b hb; cases b <;> first | rfl | simp at hb
theorem withEngine_touches (x : Engine) (s : State) : Touches [.engine] s (s.withEngine x) := by
  intro b hb; cases b <;> first | rfl | simp at hb
theorem withConv_touches (x : Converter) (s : State) : Touches [.conv] s (s.withConv x) := by
  intro b hb; cases b <;> first | rfl | simp at hb
theorem withScale_touches (x : Scale) (s : State) : Touches [.scale] s (s.withScale x) := by
  intro b hb; cases b <;> first | rfl | simp at hb
theorem withHeat_touches (x : Heat) (s : State) : Touches [.heat] s (s.withHeat x) := by
  intro b hb; cases b <;> first | rfl | simp at hb
theorem withStir_touches (x : Stir) (s : State) : Touches [.stir] s (s.withStir x) := by
  intro b hb; cases b <;> first | rfl | simp at hb
theorem withLid_touches (x : Lid) (s : State) : Touches [.lid] s (s.withLid x) := by
  intro b hb; cases b <;> first | rfl | simp at hb
theorem withMon_touches (x : Monitor) (s : State) : Touches [.mon] s (s.withMon x) := by
  intro b hb; cases b <;> first | rfl | simp at hb
theorem withPermit_touches (x : Permit) (s : State) : Touches [.permit] s (s.withPermit x) := by
  intro b hb; cases b <;> first | rfl | simp at hb
theorem withNotices_touches (x : Notices) (s : State) : Touches [.notices] s (s.withNotices x) := by
  intro b hb; cases b <;> first | rfl | simp at hb
theorem withStore_touches (x : Store) (s : State) : Touches [.store] s (s.withStore x) := by
  intro b hb; cases b <;> first | rfl | simp at hb
theorem after_touches (dt : Nat) (s : State) : Touches [.now] s (s.after dt) := by
  intro b hb; cases b <;> first | rfl | simp at hb
theorem mapLive_touches (f : Live → Live) (s : State) : Touches [.engine] s (s.mapLive f) := withEngine_touches _ s
theorem post_touches (n : Notice) (s : State) : Touches [.notices] s (post n s) := withNotices_touches _ s
theorem postPanel_touches (n : Notice) (s : State) : Touches [.notices] s (postPanel n s) := withNotices_touches _ s

/-- A port's own part of the state. -/
def portBlock : Port → Block
  | .panel => .panel
  | .link => .link

theorem setPort_touches (p : Port) (x : PortState) (s : State) : Touches [portBlock p] s (s.setPort p x) := by
  cases p <;> intro b hb <;> cases b <;> first | rfl | simp [portBlock] at hb

theorem formReply_touches (p : Port) (k t : Byte) (a : Answer) (s : State) :
    Touches [portBlock p] s (formReply p k t a s) := setPort_touches p _ s

/-- Both ports, where it is not said which. -/
theorem answerPending_touches (p : Port) (a : Answer) (s : State) : Touches [.panel, .link] s (answerPending p a s) := by
  unfold answerPending
  split
  · exact (formReply_touches p _ _ a s).mono (by cases p <;> simp [portBlock])
  · exact Touches.refl _ s

/-! ### The Step Engine's reach: itself, the units it drives, the lid and the notices -/

/-- What the Step Engine's operations can change. -/
def engineReach : List Block := [.engine, .heat, .stir, .lid, .notices]

theorem reach_engine : [Block.engine] ⊆ engineReach := by decide
theorem reach_heat : [Block.heat] ⊆ engineReach := by decide
theorem reach_stir : [Block.stir] ⊆ engineReach := by decide
theorem reach_lid : [Block.lid] ⊆ engineReach := by decide
theorem reach_notices : [Block.notices] ⊆ engineReach := by decide

theorem tellWish_touches (w : Bool) (s : State) : Touches [.lid] s (tellWish w s) :=
  Touches.ite _ (Touches.refl _ s) (withLid_touches _ s)
theorem tellLidOpen_touches (w : Bool) (s : State) : Touches [.lid] s (tellLidOpen w s) :=
  Touches.ite _ (Touches.refl _ s) (withLid_touches _ s)
theorem tellStopped_touches (w : Bool) (s : State) : Touches [.lid] s (tellStopped w s) :=
  Touches.ite _ (Touches.refl _ s) (withLid_touches _ s)
theorem syncWish_touches (s : State) : Touches [.lid] s (syncWish s) := tellWish_touches _ s
theorem syncHold_touches (s : State) : Touches [.heat] s (syncHold s) := withHeat_touches _ s
theorem postEngineState_touches (s : State) : Touches [.notices] s (postEngineState s) := post_touches _ s

theorem entryActions_touches (s : State) : Touches engineReach s (entryActions s) :=
  ((((withHeat_touches _ s).mono reach_heat).trans ((withStir_touches _ _).mono reach_stir)).trans
    ((mapLive_touches _ _).mono reach_engine)).trans
      (((syncHold_touches _).mono reach_heat).trans ((syncWish_touches _).mono reach_lid))

theorem enterPaused_touches (c : CauseSet) (s : State) : Touches engineReach s (enterPaused c s) :=
  (((withEngine_touches _ s).mono reach_engine).trans (entryActions_touches _)).trans
    ((postEngineState_touches _).mono reach_notices)

theorem enterEnded_touches (r : EndReason) (s : State) : Touches engineReach s (enterEnded r s) :=
  ((((withEngine_touches _ s).mono reach_engine).trans (entryActions_touches _)).trans
    ((withHeat_touches _ _).mono reach_heat)).trans ((postEngineState_touches _).mono reach_notices)

theorem enterTripped_touches (d : Detector) (s : State) : Touches engineReach s (enterTripped d s) :=
  ((((withEngine_touches _ s).mono reach_engine).trans (entryActions_touches _)).trans
    ((post_touches _ _).mono reach_notices)).trans ((postEngineState_touches _).mono reach_notices)

theorem joinTrip_touches (d : Detector) (s : State) : Touches engineReach s (joinTrip d s) :=
  Touches.ite _ (Touches.refl _ s)
    (((withEngine_touches _ s).mono reach_engine).trans
      (((post_touches _ _).mono reach_notices).trans ((postEngineState_touches _).mono reach_notices)))

theorem takeTrip_touches (d : Detector) (s : State) : Touches engineReach s (takeTrip d s) := by
  unfold takeTrip
  split
  · cases s.engine.state
    · exact Touches.refl _ s
    · exact enterTripped_touches d s
    · exact Touches.ite _ (Touches.refl _ s) (enterTripped_touches d s)
    · exact Touches.ite _ (Touches.refl _ s) (joinTrip_touches d s)
    · exact Touches.refl _ s
  · exact Touches.refl _ s

theorem judgeAndPost_touches (s : State) : Touches engineReach s (judgeAndPost s) :=
  Touches.ite _ (((withHeat_touches _ s).mono reach_heat).trans ((post_touches _ _).mono reach_notices))
    (Touches.refl _ s)

theorem handOver_touches (r : StepRecord) (s : State) : Touches engineReach s (handOver r s) :=
  (((((syncHold_touches s).mono reach_heat).trans ((withHeat_touches _ _).mono reach_heat)).trans
    (judgeAndPost_touches _)).trans ((withStir_touches _ _).mono reach_stir)).trans
      ((syncWish_touches _).mono reach_lid)

theorem announceStep_touches (i : Nat) (r : StepRecord) (f : Bool) (s : State) :
    Touches [.notices] s (announceStep i r f s) := by
  unfold announceStep
  exact (post_touches _ s).trans (Touches.ite _ (post_touches _ _) (Touches.refl _ _))

theorem enterStep_touches (i : Nat) (r : StepRecord) (s : State) : Touches engineReach s (enterStep i r s) := by
  unfold enterStep
  have h : ∀ f, Touches engineReach s (announceStep i r f (handOver r
      (s.withEngine { s.engine with live := some (newLive i r f s.conv.tb) }))) := fun f =>
    (((withEngine_touches _ s).mono reach_engine).trans (handOver_touches r _)).trans
      ((announceStep_touches i r f _).mono reach_notices)
  exact Touches.ite _ ((h _).trans (enterTripped_touches _ _)) (h _)

theorem toPhase_touches (ph : Phase) (s : State) : Touches [.engine] s (toPhase ph s) := mapLive_touches _ s
theorem passLocking_touches (s : State) : Touches [.engine] s (passLocking s) := mapLive_touches _ s

theorem phaseChecks_touches (s : State) : Touches [.engine] s (phaseChecks s).1 := by
  unfold phaseChecks
  split
  · exact Touches.refl _ s
  · split
    · exact toPhase_touches _ s
    · exact Touches.refl _ s

theorem comeIntoPhase_touches (s : State) : Touches [.engine] s (comeIntoPhase s).1 := by
  unfold comeIntoPhase
  split
  · exact mapLive_touches _ s
  · exact Touches.refl _ s
  · exact phaseChecks_touches s
  · exact phaseChecks_touches s
  · exact phaseChecks_touches s
  · exact phaseChecks_touches s
  · exact Touches.refl _ s

theorem comeIntoLocking_touches (s : State) : Touches [.engine] s (comeIntoLocking s).1 := by
  unfold comeIntoLocking
  split
  · exact (passLocking_touches s).trans (comeIntoPhase_touches _)
  · exact Touches.refl _ s

theorem comeIn_touches (s : State) : Touches [.engine] s (comeIn s).1 := by
  unfold comeIn
  split
  · exact comeIntoLocking_touches s
  · exact comeIntoPhase_touches s

theorem closeStep_touches (e : StepEnd) (s : State) : Touches engineReach s (closeStep e s) := by
  unfold closeStep
  split
  · exact ((withEngine_touches _ s).mono reach_engine).trans ((post_touches _ _).mono reach_notices)
  · exact Touches.refl _ s

theorem endStepAt_touches : ∀ (rest : List StepRecord) (i : Nat) (e : StepEnd) (s : State),
    Touches engineReach s (endStepAt rest i e s)
  | [], _, e, s => (closeStep_touches e s).trans (enterEnded_touches _ _)
  | r :: rest, i, e, s => by
    have h := (closeStep_touches e s).trans (enterStep_touches (i + 1) r (closeStep e s))
    have k := h.trans ((comeIn_touches (enterStep (i + 1) r (closeStep e s))).mono reach_engine)
    unfold endStepAt
    dsimp only
    split
    · split
      · rename_i heq
        rw [heq] at k
        exact k
      · rename_i heq
        rw [heq] at k
        exact k.trans (endStepAt_touches rest (i + 1) _ _)
    · exact h

theorem endStep_touches (e : StepEnd) (s : State) : Touches engineReach s (endStep e s) := by
  unfold endStep
  split
  · exact endStepAt_touches _ _ e s
  · exact Touches.refl _ s

theorem settleOutcome_touches {s : State} {o : State × Option StepEnd} (h : Touches engineReach s o.1) :
    Touches engineReach s (settleOutcome o) := by
  unfold settleOutcome
  split
  · exact h.trans (endStep_touches _ _)
  · exact h

theorem takeLockConfirmation_touches (s : State) : Touches engineReach s (takeLockConfirmation s) :=
  Touches.ite _
    (settleOutcome_touches (((passLocking_touches s).trans (comeIntoPhase_touches _)).mono reach_engine))
    (Touches.refl _ s)

theorem takeTempReached_touches (s : State) : Touches engineReach s (takeTempReached s) := by
  unfold takeTempReached
  split
  · split
    · split
      · exact endStep_touches _ s
      · split
        · exact settleOutcome_touches (((toPhase_touches _ s).trans (phaseChecks_touches _)).mono reach_engine)
        · exact Touches.refl _ s
    · exact Touches.refl _ s
  · exact Touches.refl _ s

theorem takeBoil_touches (b : Bool) (s : State) : Touches engineReach s (takeBoil b s) := by
  have h := (syncHold_touches s).mono reach_heat
  unfold takeBoil
  dsimp only
  split
  · exact Touches.ite _ (h.trans (endStep_touches _ _)) h
  · exact h

theorem takeLidOpen_touches (s : State) : Touches engineReach s (takeLidOpen s) :=
  Touches.ite _ (enterPaused_touches _ s) (Touches.refl _ s)

theorem takeLidClosed_touches (s : State) : Touches engineReach s (takeLidClosed s) :=
  Touches.ite _ (((withEngine_touches _ s).mono reach_engine).trans ((postEngineState_touches _).mono reach_notices))
    (Touches.refl _ s)

theorem takeLapse_touches (s : State) : Touches engineReach s (takeLapse s) := by
  unfold takeLapse
  split
  · exact enterPaused_touches _ s
  · exact Touches.ite _ (Touches.refl _ s)
      (((withEngine_touches _ s).mono reach_engine).trans ((postEngineState_touches _).mono reach_notices))
  · exact Touches.refl _ s
  · exact Touches.refl _ s
  · exact Touches.refl _ s

theorem takeRearm_touches (s : State) : Touches engineReach s (takeRearm s) :=
  Touches.ite _ (((withEngine_touches _ s).mono reach_engine).trans ((postEngineState_touches _).mono reach_notices))
    (Touches.refl _ s)

theorem takeReference_touches (n : Int) (u : Bool) (s : State) : Touches engineReach s (takeReference n u s) :=
  settleOutcome_touches (((mapLive_touches _ s).trans (comeIntoPhase_touches _)).mono reach_engine)

theorem noteAdded_touches (a t : Int) (i : Nat) (l : Live) (s : State) :
    Touches engineReach s (noteAdded a t i l s) :=
  Touches.ite _ (((mapLive_touches _ s).mono reach_engine).trans ((post_touches _ _).mono reach_notices))
    ((mapLive_touches _ s).mono reach_engine)

theorem noteOverdose_touches (a t : Int) (i : Nat) (s : State) : Touches engineReach s (noteOverdose a t i s) :=
  Touches.ite _ (((mapLive_touches _ s).mono reach_engine).trans ((post_touches _ _).mono reach_notices))
    (Touches.refl _ s)

theorem compareDose_touches (a t : Int) (l : Live) (s : State) : Touches engineReach s (compareDose a t l s) :=
  Touches.ite _ (((noteAdded_touches a t l.index l s).trans (noteOverdose_touches a t l.index _)).trans
    (endStep_touches _ _)) (noteAdded_touches a t l.index l s)

theorem takeWeight_touches (n : Int) (b : Bool) (s : State) : Touches engineReach s (takeWeight n b s) := by
  unfold takeWeight
  split
  · split
    · split
      · exact Touches.ite _ (takeReference_touches _ _ s) (Touches.refl _ s)
      · split
        · exact compareDose_touches _ _ _ s
        · exact Touches.refl _ s
      all_goals exact Touches.refl _ s
    · exact Touches.refl _ s
  · exact Touches.refl _ s

theorem adoptHeat_touches (r : StepRecord) (s : State) : Touches engineReach s (adoptHeat r s) :=
  Touches.ite _ (((withHeat_touches _ s).mono reach_heat).trans (judgeAndPost_touches _))
    ((withHeat_touches _ s).mono reach_heat)

theorem adoptPrompt_touches (o r : StepRecord) (s : State) : Touches [.notices] s (adoptPrompt o r s) := by
  unfold adoptPrompt
  split
  · exact Touches.ite _ (post_touches _ s) (Touches.refl _ s)
  · exact Touches.refl _ s

theorem adoptTarget_touches (o r : StepRecord) (s : State) : Touches [.engine] s (adoptTarget o r s) :=
  Touches.ite _ (mapLive_touches _ s) (Touches.refl _ s)

theorem adoptProbe_touches (o r : StepRecord) (s : State) : Touches engineReach s (adoptProbe o r s) :=
  Touches.ite _ (takeTrip_touches _ s) (Touches.refl _ s)

theorem adoptHandOver_touches (o r : StepRecord) (s : State) : Touches engineReach s (adoptHandOver o r s) :=
  ((((((syncHold_touches s).mono reach_heat).trans (adoptHeat_touches r _)).trans
    ((withStir_touches _ _).mono reach_stir)).trans ((adoptPrompt_touches o r _).mono reach_notices)).trans
      ((adoptTarget_touches o r _).mono reach_engine)).trans (adoptProbe_touches o r _)

theorem adoptStep_touches (o r : StepRecord) (s : State) : Touches engineReach s (adoptStep o r s) := by
  have h := adoptHandOver_touches o r s
  unfold adoptStep adoptConsequences keepAdopted
  refine Touches.ite _ (Touches.ite _ ?_ ?_) (Touches.ite _ ?_ h)
  · exact h.trans (settleOutcome_touches (((toPhase_touches _ _).trans (phaseChecks_touches _)).mono reach_engine))
  · exact h.trans (settleOutcome_touches ((phaseChecks_touches _).mono reach_engine))
  · exact h.trans ((mapLive_touches _ _).mono reach_engine)

/-! ### The Condition Monitor's reach -/

/-- What an input of a detector can change. -/
def monitorReach : List Block := .mon :: engineReach

theorem reach_monitor : engineReach ⊆ monitorReach := by decide

theorem reportChange_touches (d : Detector) (b : Bool) (s : State) : Touches engineReach s (reportChange d b s) := by
  have ht : ∀ d, Touches engineReach s (if b = true then takeTrip d s else s) := fun d =>
    Touches.ite _ (takeTrip_touches d s) (Touches.refl _ s)
  cases d
  case lidOpen =>
    exact (Touches.ite _ (takeLidOpen_touches s) (takeLidClosed_touches s)).trans ((tellLidOpen_touches b _).mono reach_lid)
  case boil => exact takeBoil_touches b s
  case overload => exact (withStir_touches _ s).mono reach_stir
  case supplyLow => exact (withHeat_touches _ s).mono reach_heat
  all_goals exact ht _

theorem changeDetector_touches (d : Detector) (b : Bool) (s : State) : Touches monitorReach s (changeDetector d b s) :=
  (((withMon_touches _ s).mono (by decide)).trans ((post_touches _ _).mono (by decide))).trans
    ((reportChange_touches d b _).mono reach_monitor)

theorem detectorInput_touches (d : Detector) (q : Qualifies) (s : State) :
    Touches monitorReach s (detectorInput d q s) :=
  Touches.ite _ (changeDetector_touches d _ s) ((withMon_touches _ s).mono (by decide))

theorem probeInput_touches (d : Detector) (b : Bool) (n : Nat) (s : State) :
    Touches monitorReach s (probeInput d b n s) := detectorInput_touches d _ s

theorem stallHandover_touches (a b : Bool) (s : State) : Touches monitorReach s (stallHandover a b s) :=
  detectorInput_touches .stall _ s

theorem stallCurrentInput_touches (b : Band) (s : State) : Touches monitorReach s (stallCurrentInput b s) :=
  Touches.ite _ (Touches.refl _ s)
    (Touches.ite _ (Touches.ite _ (changeDetector_touches _ _ s) ((withMon_touches _ s).mono (by decide)))
      ((withMon_touches _ s).mono (by decide)))

/-! ### The Sensor Converter's reach -/

/-- What a delivered sense value can change. -/
def converterReach : List Block := .conv :: monitorReach

theorem reach_converter : monitorReach ⊆ converterReach := by decide

theorem judgeDelivered_touches (s : State) : Touches engineReach s (judgeDelivered s) :=
  Touches.ite _ ((((withHeat_touches _ s).mono reach_heat).trans (takeTempReached_touches _)).trans
    ((post_touches _ _).mono reach_notices)) (Touches.refl _ s)

theorem deliverTb_touches (code : Nat) (s : State) : Touches converterReach s (deliverTb code s) :=
  ((((((withConv_touches _ s).mono (by decide)).trans ((probeInput_touches _ _ _ _).mono reach_converter)).trans
    ((detectorInput_touches _ _ _).mono reach_converter)).trans ((mapLive_touches _ _).mono (by decide))).trans
      (((withHeat_touches _ _).mono (by decide)).trans ((judgeDelivered_touches _).mono (by decide)))).trans
        ((withStir_touches _ _).mono (by decide))

theorem deliverTc_touches (code : Nat) (s : State) : Touches converterReach s (deliverTc code s) :=
  (((withConv_touches _ s).mono (by decide)).trans ((probeInput_touches _ _ _ _).mono reach_converter)).trans
    ((detectorInput_touches _ _ _).mono reach_converter)

theorem deliverIm_touches (code : Nat) (s : State) : Touches converterReach s (deliverIm code s) :=
  (((withConv_touches _ s).mono (by decide)).trans ((stallCurrentInput_touches _ _).mono reach_converter)).trans
    ((withStir_touches _ _).mono (by decide))

theorem deliverVs_touches (code : Nat) (s : State) : Touches converterReach s (deliverVs code s) :=
  ((withConv_touches _ s).mono (by decide)).trans ((detectorInput_touches _ _ _).mono reach_converter)

theorem deliverSense_touches (ch : Channel) (code : Nat) (s : State) :
    Touches converterReach s (deliverSense ch code s) := by
  unfold deliverSense
  split
  · exact Touches.refl _ s
  · split
    · exact deliverTb_touches code s
    · exact deliverTc_touches code s
    · exact deliverIm_touches code s
    · exact deliverVs_touches code s

/-! ### The Scale Unit's reach -/

/-- What a change of calibration, a deadline or a restart of the scale can change. -/
def scaleReach : List Block := [.scale, .notices, .panel, .link]

theorem postScaleEvent_touches (s : State) : Touches scaleReach s (postScaleEvent s) := (post_touches _ s).mono (by decide)
theorem postTareChanged_touches (c : TareCause) (p : Option Port) (s : State) :
    Touches scaleReach s (postTareChanged c p s) := (post_touches _ s).mono (by decide)

theorem endTare_touches (r : Result) (s : State) : Touches scaleReach s (endTare r s) := by
  unfold endTare
  split
  · exact ((withScale_touches _ s).mono (by decide)).trans ((answerPending_touches _ _ _).mono (by decide))
  · exact Touches.refl _ s

theorem endCapture_touches (r : Result) (s : State) : Touches scaleReach s (endCapture r s) := by
  unfold endCapture
  split
  · exact ((withScale_touches _ s).mono (by decide)).trans ((answerPending_touches _ _ _).mono (by decide))
  · exact Touches.refl _ s

theorem clearTareForCalibration_touches (s : State) : Touches scaleReach s (clearTareForCalibration s) :=
  Touches.ite _ (Touches.refl _ s) (((withScale_touches _ s).mono (by decide)).trans (postTareChanged_touches _ _ _))

theorem changeCalibration_touches (c : Calibration) (s : State) : Touches scaleReach s (changeCalibration c s) :=
  (((((withScale_touches _ s).mono (by decide)).trans (endTare_touches _ _)).trans
    (clearTareForCalibration_touches _)).trans ((withScale_touches _ _).mono (by decide))).trans (postScaleEvent_touches _)

theorem completeCapture_touches (b : CaptureBody) (a : Int) (s : State) :
    Touches scaleReach s (completeCapture b a s) := by
  have h : ∀ c, Touches scaleReach s (changeCalibration c (s.withScale { s.scale with pendingCapture := none })) :=
    fun c => ((withScale_touches _ s).mono (by decide)).trans (changeCalibration_touches c _)
  cases b
  · exact (h _).trans ((answerPending_touches _ _ _).mono (by decide))
  · exact Touches.ite _ (endCapture_touches _ s) (Touches.ite _ (endCapture_touches _ s)
      ((h _).trans ((answerPending_touches _ _ _).mono (by decide))))

theorem captureSample_touches (x : Sample) (s : State) : Touches scaleReach s (captureSample x s) := by
  unfold captureSample
  split
  · exact Touches.refl _ s
  · exact Touches.ite _ (endCapture_touches _ s)
      (Touches.ite _ (completeCapture_touches _ _ s) ((withScale_touches _ s).mono (by decide)))

theorem tareSample_touches (x : Sample) (s : State) : Touches scaleReach s (tareSample x s) := by
  unfold tareSample
  split
  · exact Touches.refl _ s
  · exact Touches.ite _ ((((withScale_touches _ s).mono (by decide)).trans (postTareChanged_touches _ _ _)).trans
      ((answerPending_touches _ _ _).mono (by decide))) (Touches.refl _ s)

/-- What a delivered weigh sample can change. -/
def sampleReach : List Block := [.scale, .panel, .link, .mon, .engine, .heat, .stir, .lid, .notices]

theorem bandInputs_touches (s : State) : Touches monitorReach s (bandInputs s) :=
  Touches.ite _ (Touches.refl _ s) ((detectorInput_touches _ _ s).trans (detectorInput_touches _ _ _))

theorem takeSample_touches (x : Sample) (s : State) : Touches sampleReach s (takeSample x s) := by
  have h1 : Touches sampleReach s (s.withScale (weighChain s.conv.tc x s.scale)) :=
    (withScale_touches _ s).mono (by decide)
  unfold takeSample
  dsimp only
  generalize s.withScale (weighChain s.conv.tc x s.scale) = y at h1
  have h2 : Touches sampleReach s (if y.scale.status = s.scale.status then y else postScaleEvent y) :=
    Touches.ite _ h1 (h1.trans ((postScaleEvent_touches y).mono (by decide)))
  exact (((h2.trans ((bandInputs_touches _).mono (by decide))).trans ((captureSample_touches x _).mono (by decide))).trans
    ((takeWeight_touches _ _ _).mono (by decide))).trans ((tareSample_touches x _).mono (by decide))

end Sys2Proof.Machine
end

