-- ==== Sys2Proof/Laws/Memory.lean ====
section
/-! SUPPORT. The laws of the store array: a read after a write, and that every operation keeps the canonical form. -/

namespace Sys2Proof.Machine

theorem Memory.wfFrom_cons (b : Nat) (w : Word16) (rest : Memory) (lo : Nat) :
    Memory.wfFrom ((b, w) :: rest) lo = true ↔
      lo ≤ b ∧ b < arrayWords ∧ w ≠ 0 ∧ Memory.wfFrom rest (b + 1) = true := by
  simp [Memory.wfFrom, and_assoc]

theorem Memory.wfFrom_mono : ∀ (m : Memory) {lo lo' : Nat}, lo' ≤ lo → Memory.wfFrom m lo = true →
    Memory.wfFrom m lo' = true
  | [], _, _, _, _ => rfl
  | (b, w) :: rest, lo, lo', hle, h => by
    rw [Memory.wfFrom_cons] at h ⊢
    exact ⟨hle.trans h.1, h.2⟩

theorem Memory.read_below : ∀ (m : Memory) {lo a : Nat}, Memory.wfFrom m lo = true → a < lo → Memory.read m a = 0
  | [], _, _, _, _ => rfl
  | (b, w) :: rest, lo, a, h, ha => by
    rw [Memory.wfFrom_cons] at h
    have hb : b ≠ a := by omega
    simp only [Memory.read, hb, if_false]
    exact Memory.read_below rest h.2.2.2 (by omega)

theorem Memory.read_insert_same (w : Word16) (a : Nat) : ∀ m : Memory, Memory.read (Memory.insert m a w) a = w
  | [] => by simp [Memory.insert, Memory.read]
  | (b, v) :: rest => by
    unfold Memory.insert
    split
    · simp [Memory.read]
    · split
      · simp [Memory.read]
      · rename_i h1 h2
        simp [Memory.read, Ne.symm h2, Memory.read_insert_same w a rest]

theorem Memory.read_insert_other (w : Word16) {a c : Nat} (hac : a ≠ c) :
    ∀ m : Memory, Memory.read (Memory.insert m a w) c = Memory.read m c
  | [] => by simp [Memory.insert, Memory.read, hac]
  | (b, v) :: rest => by
    unfold Memory.insert
    split
    · simp [Memory.read, hac]
    · split
      · rename_i h1 h2
        subst h2
        simp [Memory.read, hac]
      · simp [Memory.read, Memory.read_insert_other w hac rest]

theorem Memory.read_erase_other {a c : Nat} (hac : a ≠ c) :
    ∀ m : Memory, Memory.read (Memory.erase m a) c = Memory.read m c
  | [] => rfl
  | (b, v) :: rest => by
    unfold Memory.erase
    split
    · rename_i h
      subst h
      simp [Memory.read, hac]
    · simp [Memory.read, Memory.read_erase_other hac rest]

theorem Memory.read_erase_same {a : Nat} : ∀ (m : Memory) {lo : Nat}, Memory.wfFrom m lo = true →
    Memory.read (Memory.erase m a) a = 0
  | [], _, _ => rfl
  | (b, v) :: rest, lo, h => by
    rw [Memory.wfFrom_cons] at h
    unfold Memory.erase
    split
    · rename_i hb
      exact Memory.read_below rest h.2.2.2 (by omega)
    · rename_i hb
      simp [Memory.read, hb, Memory.read_erase_same rest h.2.2.2]

theorem Memory.insert_wfFrom {a : Nat} {w : Word16} (ha : a < arrayWords) (hw : w ≠ 0) :
    ∀ (m : Memory) {lo : Nat}, lo ≤ a → Memory.wfFrom m lo = true → Memory.wfFrom (Memory.insert m a w) lo = true
  | [], lo, hlo, _ => by simpa [Memory.insert, Memory.wfFrom, hlo, ha] using hw
  | (b, v) :: rest, lo, hlo, h => by
    rw [Memory.wfFrom_cons] at h
    unfold Memory.insert
    split
    · rw [Memory.wfFrom_cons, Memory.wfFrom_cons]
      exact ⟨hlo, ha, hw, by omega, h.2⟩
    · split
      · rename_i hb
        subst hb
        rw [Memory.wfFrom_cons]
        exact ⟨hlo, ha, hw, h.2.2.2⟩
      · rw [Memory.wfFrom_cons]
        exact ⟨h.1, h.2.1, h.2.2.1, Memory.insert_wfFrom ha hw rest (by omega) h.2.2.2⟩

theorem Memory.erase_wfFrom (a : Nat) : ∀ (m : Memory) {lo : Nat}, Memory.wfFrom m lo = true →
    Memory.wfFrom (Memory.erase m a) lo = true
  | [], _, _ => rfl
  | (b, v) :: rest, lo, h => by
    rw [Memory.wfFrom_cons] at h
    unfold Memory.erase
    split
    · exact Memory.wfFrom_mono rest (by omega) h.2.2.2
    · rw [Memory.wfFrom_cons]
      exact ⟨h.1, h.2.1, h.2.2.1, Memory.erase_wfFrom a rest h.2.2.2⟩

/-- Writing keeps the canonical form. -/
theorem Memory.write_wf (m : Memory) (a : Nat) (w : Word16) (h : m.wf = true) : (Memory.write m a w).wf = true := by
  unfold Memory.write
  split
  · exact h
  · split
    · exact Memory.erase_wfFrom a m h
    · exact Memory.insert_wfFrom (by omega) (by assumption) m (Nat.zero_le a) h

/-- A word of the array reads back what was written to it. -/
theorem Memory.read_write_same (m : Memory) (a : Nat) (w : Word16) (h : m.wf = true) (ha : a < arrayWords) :
    Memory.read (Memory.write m a w) a = w := by
  unfold Memory.write
  rw [if_neg (by omega)]
  split
  · rename_i hw
    rw [hw, Memory.read_erase_same m h]
  · exact Memory.read_insert_same w a m

/-- Every other word reads as before. -/
theorem Memory.read_write_other (m : Memory) (w : Word16) {a c : Nat} (hac : a ≠ c) :
    Memory.read (Memory.write m a w) c = Memory.read m c := by
  unfold Memory.write
  split
  · rfl
  · split
    · exact Memory.read_erase_other hac m
    · exact Memory.read_insert_other w hac m

/-- The array of the reset state is in the canonical form. -/
theorem Memory.reset_wf : State.reset.store.array.wf = true := rfl

end Sys2Proof.Machine
end

