-- ==== Sys2Proof/Laws/PerInstr.lean ====
section
/-! SUPPORT. The lemma family `BodyLength`, one lemma a command: a command that carries a request carries one whose kind
stands in the kind code table of R194 with the length of its body; a command that is no request promises nothing. -/

namespace Sys2Proof.Laws.BodyLength

open Sys2Proof.Machine

/-- R194: the body of the request that `i` carries has the length that the kind code table gives its kind. -/
def Statement (i : Instr) : Prop :=
  ∀ r, i.request = some r → (kindRow r.kind).map (·.length) = some r.body.length

/-- A command that carries no request. -/
theorem of_none {i : Instr} (h : i.request = none) : Statement i := fun r hr => by simp [h] at hr

/-- A command that carries the request `q`. -/
theorem of_some {i : Instr} {q : Request} (h : i.request = some q)
    (hq : (kindRow q.kind).map (·.length) = some q.body.length) : Statement i := fun r hr => by
  rw [h] at hr
  cases hr
  exact hq

theorem reset : Statement .reset := of_none rfl
theorem readStatus : ∀ a b c, Statement (.readStatus a b c) := fun _ _ _ => of_some rfl rfl
theorem takeNotice : ∀ a b c, Statement (.takeNotice a b c) := fun _ _ _ => of_some rfl rfl
theorem setNoticeMask : ∀ a b c d, Statement (.setNoticeMask a b c d) := fun _ _ _ _ => of_some rfl rfl
theorem readPlanHeader : ∀ a b c, Statement (.readPlanHeader a b c) := fun _ _ _ => of_some rfl rfl
theorem readStep : ∀ a b c d, Statement (.readStep a b c d) := fun _ _ _ _ => of_some rfl rfl
theorem insertStep : ∀ a b c d e f, Statement (.insertStep a b c d e f) := fun _ _ _ _ _ _ => of_some rfl rfl
theorem replaceStep : ∀ a b c d e f, Statement (.replaceStep a b c d e f) := fun _ _ _ _ _ _ => of_some rfl rfl
theorem removeStep : ∀ a b c d e, Statement (.removeStep a b c d e) := fun _ _ _ _ _ => of_some rfl rfl
theorem clearPlan : ∀ a b c d, Statement (.clearPlan a b c d) := fun _ _ _ _ => of_some rfl rfl
theorem setPlanId : ∀ a b c d e, Statement (.setPlanId a b c d e) := fun _ _ _ _ _ => of_some rfl rfl
theorem startRun : ∀ a b c d e, Statement (.startRun a b c d e) := fun _ _ _ _ _ => of_some rfl rfl
theorem pause : ∀ a b c, Statement (.pause a b c) := fun _ _ _ => of_some rfl rfl
theorem resume : ∀ a b c, Statement (.resume a b c) := fun _ _ _ => of_some rfl rfl
theorem abort : ∀ a b c, Statement (.abort a b c) := fun _ _ _ => of_some rfl rfl
theorem skipStep : ∀ a b c d, Statement (.skipStep a b c d) := fun _ _ _ _ => of_some rfl rfl
theorem confirm : ∀ a b c d, Statement (.confirm a b c d) := fun _ _ _ _ => of_some rfl rfl
theorem clearTrip : ∀ a b c, Statement (.clearTrip a b c) := fun _ _ _ => of_some rfl rfl
theorem readRunLog : ∀ a b c d, Statement (.readRunLog a b c d) := fun _ _ _ _ => of_some rfl rfl
theorem tarePush : ∀ a b c, Statement (.tarePush a b c) := fun _ _ _ => of_some rfl rfl
theorem tarePop : ∀ a b c, Statement (.tarePop a b c) := fun _ _ _ => of_some rfl rfl
theorem tareClear : ∀ a b c, Statement (.tareClear a b c) := fun _ _ _ => of_some rfl rfl
theorem restartScale : ∀ a b c, Statement (.restartScale a b c) := fun _ _ _ => of_some rfl rfl
theorem calZero : ∀ a b c d e f g, Statement (.calZero a b c d e f g) := fun _ _ _ _ _ _ _ => of_some rfl rfl
theorem calSpan : ∀ a b c d e, Statement (.calSpan a b c d e) := fun _ _ _ _ _ => of_some rfl rfl
theorem readCal : ∀ a b c, Statement (.readCal a b c) := fun _ _ _ => of_some rfl rfl
theorem permit : ∀ a b c d, Statement (.permit a b c d) := fun _ _ _ _ => of_some rfl rfl
theorem clearLatched : ∀ a b c d, Statement (.clearLatched a b c d) := fun _ _ _ _ => of_some rfl rfl
theorem libSave : ∀ a b c d, Statement (.libSave a b c d) := fun _ _ _ _ => of_some rfl rfl
theorem libLoad : ∀ a b c d, Statement (.libLoad a b c d) := fun _ _ _ _ => of_some rfl rfl
theorem libErase : ∀ a b c d, Statement (.libErase a b c d) := fun _ _ _ _ => of_some rfl rfl
theorem libInfo : ∀ a b c, Statement (.libInfo a b c) := fun _ _ _ => of_some rfl rfl
theorem libWriteCal : ∀ a b c, Statement (.libWriteCal a b c) := fun _ _ _ => of_some rfl rfl
theorem panelRequestFrame : ∀ a b, Statement (.panelRequestFrame a b) := fun _ _ => of_none rfl
theorem panelReplyRead : ∀ a b, Statement (.panelReplyRead a b) := fun _ _ => of_none rfl
theorem linkFrameComplete : ∀ a b, Statement (.linkFrameComplete a b) := fun _ _ => of_none rfl
theorem linkByteGapTimeout : ∀ a, Statement (.linkByteGapTimeout a) := fun _ => of_none rfl
theorem linkStopBitMissing : ∀ a, Statement (.linkStopBitMissing a) := fun _ => of_none rfl
theorem linkReplySent : ∀ a, Statement (.linkReplySent a) := fun _ => of_none rfl
theorem timeBaseTick : ∀ a, Statement (.timeBaseTick a) := fun _ => of_none rfl
theorem settleDeadline : ∀ a, Statement (.settleDeadline a) := fun _ => of_none rfl
theorem senseTimerExpiry : ∀ a, Statement (.senseTimerExpiry a) := fun _ => of_none rfl
theorem senseConversionEnd : ∀ a b, Statement (.senseConversionEnd a b) := fun _ _ => of_none rfl
theorem freeTrigger : ∀ a, Statement (.freeTrigger a) := fun _ => of_none rfl
theorem weighGroupEnd : ∀ a b c d e, Statement (.weighGroupEnd a b c d e) := fun _ _ _ _ _ => of_none rfl
theorem tareDeadline : ∀ a, Statement (.tareDeadline a) := fun _ => of_none rfl
theorem captureDeadline : ∀ a, Statement (.captureDeadline a) := fun _ => of_none rfl
theorem tachEdge : ∀ a, Statement (.tachEdge a) := fun _ => of_none rfl
theorem noEdgeTimeout : ∀ a, Statement (.noEdgeTimeout a) := fun _ => of_none rfl
theorem controlUpdate : ∀ a, Statement (.controlUpdate a) := fun _ => of_none rfl
theorem lidSample : ∀ a b c, Statement (.lidSample a b c) := fun _ _ _ => of_none rfl
theorem plateauTimer : ∀ a, Statement (.plateauTimer a) := fun _ => of_none rfl
theorem frameEnd : ∀ a, Statement (.frameEnd a) := fun _ => of_none rfl
theorem slotBoundary : ∀ a, Statement (.slotBoundary a) := fun _ => of_none rfl
theorem rampRise : ∀ a, Statement (.rampRise a) := fun _ => of_none rfl
theorem permitExpiry : ∀ a, Statement (.permitExpiry a) := fun _ => of_none rfl
theorem permitDueTimer : ∀ a, Statement (.permitDueTimer a) := fun _ => of_none rfl
theorem uptimeTick : ∀ a, Statement (.uptimeTick a) := fun _ => of_none rfl
theorem scanEnd : ∀ a, Statement (.scanEnd a) := fun _ => of_none rfl
theorem wordWriteEnd : ∀ a b c, Statement (.wordWriteEnd a b c) := fun _ _ _ => of_none rfl
theorem loadReadEnd : ∀ a, Statement (.loadReadEnd a) := fun _ => of_none rfl
theorem linkByteReceived : ∀ a b, Statement (.linkByteReceived a b) := fun _ _ => of_none rfl

end Sys2Proof.Laws.BodyLength
end

