-- ==== Sys2Proof/Laws/Requests.lean ====
section
/-! SUPPORT. How a request comes through its port: one lemma for each way `takeRequest` can go, and what forming a reply
overwrites. -/

namespace Sys2Proof.Machine

/-- R187: the state in which the port judges a request: a reply that waited is gone. -/
def readyPort (p : Port) (s : State) : State :=
  match (s.port p).state with
  | .replyReady => dropReply p s
  | .free => s
  | .outstanding => s

theorem takeRequest_outstanding {p : Port} {k t : Byte} {n : Nat} {owner : State → Served} {s : State}
    (h : (s.port p).state = .outstanding) : takeRequest p k t n owner s = discardFrame p s := by
  simp [takeRequest, h]

/-- R192: a request that its port takes is judged. -/
theorem takeRequest_judged {p : Port} {k t : Byte} {n : Nat} {owner : State → Served} {s : State}
    (h : (s.port p).state ≠ .outstanding) : takeRequest p k t n owner s = judgeRequest p k t n owner (readyPort p s) := by
  unfold takeRequest readyPort
  cases hp : (s.port p).state <;> simp_all

/-- Forming a reply overwrites all of its port. -/
theorem formReply_of_port {p : Port} {k t : Byte} {a : Answer} {s u : State}
    (h : ∀ x, u.setPort p x = s.setPort p x) (ho : (u.port p).overrun = (s.port p).overrun) :
    formReply p k t a u = formReply p k t a s := by
  simp [formReply, h, ho]

theorem readyPort_setPort (p : Port) (s : State) (x : PortState) : (readyPort p s).setPort p x = s.setPort p x := by
  unfold readyPort
  cases p <;> cases hp : (s.port _).state <;> rfl

theorem readyPort_overrun (p : Port) (s : State) : ((readyPort p s).port p).overrun = (s.port p).overrun := by
  unfold readyPort
  cases p <;> cases hp : (s.port _).state <;> rfl

theorem holdRequest_setPort (p : Port) (k t : Byte) (s : State) (x : PortState) :
    (holdRequest p k t s).setPort p x = s.setPort p x := by cases p <;> rfl

theorem holdRequest_overrun (p : Port) (k t : Byte) (s : State) :
    ((holdRequest p k t s).port p).overrun = (s.port p).overrun := by cases p <;> rfl

/-- A reply formed over a held request is the reply formed over the state before. -/
@[simp] theorem formReply_hold (p : Port) (k t k' t' : Byte) (a : Answer) (s : State) :
    formReply p k t a (holdRequest p k' t' s) = formReply p k t a s :=
  formReply_of_port (holdRequest_setPort p k' t' s) (holdRequest_overrun p k' t' s)

@[simp] theorem formReply_ready (p : Port) (k t : Byte) (a : Answer) (s : State) :
    formReply p k t a (readyPort p s) = formReply p k t a s :=
  formReply_of_port (readyPort_setPort p s) (readyPort_overrun p s)

/-- R187, R192: the state that the owner of a request sees: the request stands in its port's buffer. -/
def heldState (p : Port) (k t : Byte) (s : State) : State := holdRequest p k t (readyPort p s)

/-- Only the request's own port differs in what the owner sees. -/
theorem heldState_eq (p : Port) (k t : Byte) (s : State) :
    heldState p k t s = s.setPort p
      { state := .outstanding, buffer := some { kind := k, tag := t }, overrun := (s.port p).overrun,
        reply := if (s.port p).state = .replyReady then none else (s.port p).reply } := by
  unfold heldState readyPort
  cases p <;> cases hp : (s.port _).state <;> simp [holdRequest, dropReply, State.setPort, State.port, State.withPanel, State.withLink]

@[simp] theorem formReply_held (p : Port) (k t k' t' : Byte) (a : Answer) (s : State) :
    formReply p k t a (heldState p k' t' s) = formReply p k t a s := by simp [heldState]

theorem readyPort_store (p : Port) (s : State) : (readyPort p s).store = s.store := by
  unfold readyPort
  cases p <;> cases hp : (s.port _).state <;> rfl

theorem portCheck_ready (p : Port) (k : Byte) (n : Nat) (s : State) :
    portCheck p k n (readyPort p s) = portCheck p k n s := by simp [portCheck, readyPort_store]

/-- R192: a request that its port takes and passes on is concluded with its owner's answer. -/
theorem takeRequest_passed {p : Port} {k t : Byte} {n : Nat} {owner : State → Served} {s : State}
    (h : (s.port p).state ≠ .outstanding) (hc : portCheck p k n s = none) :
    takeRequest p k t n owner s = conclude p k t (owner (heldState p k t s)) := by
  simp [takeRequest_judged h, judgeRequest, portCheck_ready, hc, heldState]

/-- R192: a request that its port takes and refuses itself. -/
theorem takeRequest_refused {p : Port} {k t : Byte} {n : Nat} {owner : State → Served} {s : State} {r : Result}
    (h : (s.port p).state ≠ .outstanding) (hc : portCheck p k n s = some r) :
    takeRequest p k t n owner s = formReply p k t (refuse r) s := by
  simp [takeRequest_judged h, judgeRequest, portCheck_ready, hc]

/-- The port's checks pass once the scan is over, for a known kind of the request's own length that the port may carry. -/
theorem portCheck_none {p : Port} {k : Byte} {n : Nat} {row : KindRow} {s : State} (hs : s.store.starting = false)
    (hk : kindRow k = some row) (hp : row.panelOnly = false ∨ p = .panel) (hn : row.length = n) :
    portCheck p k n s = none := by
  rcases hp with h | h <;> simp [portCheck, hs, hk, h, hn]

theorem State.admits_iff {s : State} {p : Port} :
    s.admits p = true ↔ (s.port p).state ≠ .outstanding ∧ s.store.starting = false := by
  simp [State.admits]

@[simp] theorem after_port (s : State) (dt : Nat) (p : Port) : (s.after dt).port p = s.port p := by cases p <;> rfl

/-- An admitted request that either port may carry is concluded with its owner's answer. -/
theorem takeRequest_open {p : Port} {k t : Byte} {n dt : Nat} {owner : State → Served} {s : State}
    (h : s.admits p = true) (hk : kindRow k = some { length := n, panelOnly := false }) :
    takeRequest p k t n owner (s.after dt) = conclude p k t (owner (heldState p k t (s.after dt))) := by
  obtain ⟨h1, h2⟩ := State.admits_iff.mp h
  exact takeRequest_passed (by simpa using h1) (portCheck_none (by simpa using h2) hk (Or.inl rfl) rfl)

/-- An admitted request of the panel's is concluded with its owner's answer. -/
theorem takeRequest_panel {k t : Byte} {n dt : Nat} {owner : State → Served} {s : State}
    (h : s.admits .panel = true) (hk : kindRow k = some { length := n, panelOnly := true }) :
    takeRequest .panel k t n owner (s.after dt) = conclude .panel k t (owner (heldState .panel k t (s.after dt))) := by
  obtain ⟨h1, h2⟩ := State.admits_iff.mp h
  exact takeRequest_passed (by simpa using h1) (portCheck_none (by simpa using h2) hk (Or.inr rfl) rfl)

/-- A request that its owner answers at once. -/
@[simp] theorem conclude_answered (p : Port) (k t : Byte) (s : State) (a : Answer) :
    conclude p k t (s, some a) = formReply p k t a s := rfl

/-- A request that its owner answers later. -/
@[simp] theorem conclude_waiting (p : Port) (k t : Byte) (s : State) : conclude p k t (s, none) = s := rfl

/-! ### What the owner of a request sees of the rest of the part -/

@[simp] theorem held_pending (p : Port) (k t : Byte) (s : State) : (heldState p k t s).pending = s.pending := by
  rw [heldState_eq]; cases p <;> rfl
@[simp] theorem held_now (p : Port) (k t : Byte) (s : State) : (heldState p k t s).now = s.now := by
  rw [heldState_eq]; cases p <;> rfl
@[simp] theorem held_free (p : Port) (k t : Byte) (s : State) : (heldState p k t s).free = s.free := by
  rw [heldState_eq]; cases p <;> rfl
@[simp] theorem held_plan (p : Port) (k t : Byte) (s : State) : (heldState p k t s).plan = s.plan := by
  rw [heldState_eq]; cases p <;> rfl
@[simp] theorem held_engine (p : Port) (k t : Byte) (s : State) : (heldState p k t s).engine = s.engine := by
  rw [heldState_eq]; cases p <;> rfl
@[simp] theorem held_conv (p : Port) (k t : Byte) (s : State) : (heldState p k t s).conv = s.conv := by
  rw [heldState_eq]; cases p <;> rfl
@[simp] theorem held_scale (p : Port) (k t : Byte) (s : State) : (heldState p k t s).scale = s.scale := by
  rw [heldState_eq]; cases p <;> rfl
@[simp] theorem held_heat (p : Port) (k t : Byte) (s : State) : (heldState p k t s).heat = s.heat := by
  rw [heldState_eq]; cases p <;> rfl
@[simp] theorem held_stir (p : Port) (k t : Byte) (s : State) : (heldState p k t s).stir = s.stir := by
  rw [heldState_eq]; cases p <;> rfl
@[simp] theorem held_lid (p : Port) (k t : Byte) (s : State) : (heldState p k t s).lid = s.lid := by
  rw [heldState_eq]; cases p <;> rfl
@[simp] theorem held_mon (p : Port) (k t : Byte) (s : State) : (heldState p k t s).mon = s.mon := by
  rw [heldState_eq]; cases p <;> rfl
@[simp] theorem held_permit (p : Port) (k t : Byte) (s : State) : (heldState p k t s).permit = s.permit := by
  rw [heldState_eq]; cases p <;> rfl
@[simp] theorem held_notices (p : Port) (k t : Byte) (s : State) : (heldState p k t s).notices = s.notices := by
  rw [heldState_eq]; cases p <;> rfl
@[simp] theorem held_store (p : Port) (k t : Byte) (s : State) : (heldState p k t s).store = s.store := by
  rw [heldState_eq]; cases p <;> rfl
@[simp] theorem held_rx (p : Port) (k t : Byte) (s : State) : (heldState p k t s).rx = s.rx := by
  rw [heldState_eq]; cases p <;> rfl
@[simp] theorem held_psdo (p : Port) (k t : Byte) (s : State) : (heldState p k t s).psdo = s.psdo := by
  rw [heldState_eq]; cases p <;> rfl
@[simp] theorem held_loadInFlight (p : Port) (k t : Byte) (s : State) :
    (heldState p k t s).loadInFlight = s.loadInFlight := by simp [State.loadInFlight]
@[simp] theorem held_inRun (p : Port) (k t : Byte) (s : State) : (heldState p k t s).inRun = s.inRun := by
  simp [State.inRun]
@[simp] theorem held_isRunning (p : Port) (k t : Byte) (s : State) : (heldState p k t s).isRunning = s.isRunning := by
  simp [State.isRunning]
@[simp] theorem held_liveIndex (p : Port) (k t : Byte) (s : State) : (heldState p k t s).liveIndex = s.liveIndex := by
  simp [State.liveIndex]
@[simp] theorem held_liveRecord (p : Port) (k t : Byte) (s : State) : (heldState p k t s).liveRecord = s.liveRecord := by
  simp [State.liveRecord]
@[simp] theorem held_liveHeated (p : Port) (k t : Byte) (s : State) : (heldState p k t s).liveHeated = s.liveHeated := by
  simp [State.liveHeated]
@[simp] theorem held_phase (p : Port) (k t : Byte) (s : State) : (heldState p k t s).phase = s.phase := by
  simp [State.phase]
@[simp] theorem held_asserts (p : Port) (k t : Byte) (s : State) (d : Detector) :
    (heldState p k t s).asserts d = s.asserts d := by simp [State.asserts]
@[simp] theorem held_own_port (p : Port) (k t : Byte) (s : State) :
    (heldState p k t s).port p =
      { state := .outstanding, buffer := some { kind := k, tag := t }, overrun := (s.port p).overrun,
        reply := if (s.port p).state = .replyReady then none else (s.port p).reply } := by
  rw [heldState_eq]; cases p <;> rfl

/-- The time moved on leaves every reading of the engine. -/
@[simp] theorem after_loadInFlight (s : State) (dt : Nat) : (s.after dt).loadInFlight = s.loadInFlight := rfl
@[simp] theorem after_inRun (s : State) (dt : Nat) : (s.after dt).inRun = s.inRun := rfl
@[simp] theorem after_isRunning (s : State) (dt : Nat) : (s.after dt).isRunning = s.isRunning := rfl
@[simp] theorem after_liveIndex (s : State) (dt : Nat) : (s.after dt).liveIndex = s.liveIndex := rfl
@[simp] theorem after_liveRecord (s : State) (dt : Nat) : (s.after dt).liveRecord = s.liveRecord := rfl
@[simp] theorem after_liveHeated (s : State) (dt : Nat) : (s.after dt).liveHeated = s.liveHeated := rfl
@[simp] theorem after_phase (s : State) (dt : Nat) : (s.after dt).phase = s.phase := rfl
@[simp] theorem after_asserts (s : State) (dt : Nat) (d : Detector) : (s.after dt).asserts d = s.asserts d := rfl

/-! ### A posted notice changes the queues alone -/

section
variable (n : Notice) (s : State)

@[simp] theorem post_pending : (post n s).pending = s.pending := rfl
@[simp] theorem post_now : (post n s).now = s.now := rfl
@[simp] theorem post_free : (post n s).free = s.free := rfl
@[simp] theorem post_plan : (post n s).plan = s.plan := rfl
@[simp] theorem post_engine : (post n s).engine = s.engine := rfl
@[simp] theorem post_conv : (post n s).conv = s.conv := rfl
@[simp] theorem post_scale : (post n s).scale = s.scale := rfl
@[simp] theorem post_heat : (post n s).heat = s.heat := rfl
@[simp] theorem post_stir : (post n s).stir = s.stir := rfl
@[simp] theorem post_lid : (post n s).lid = s.lid := rfl
@[simp] theorem post_mon : (post n s).mon = s.mon := rfl
@[simp] theorem post_permit : (post n s).permit = s.permit := rfl
@[simp] theorem post_store : (post n s).store = s.store := rfl
@[simp] theorem post_panel : (post n s).panel = s.panel := rfl
@[simp] theorem post_link : (post n s).link = s.link := rfl
@[simp] theorem post_rx : (post n s).rx = s.rx := rfl
@[simp] theorem post_psdo : (post n s).psdo = s.psdo := rfl
@[simp] theorem postPanel_pending : (postPanel n s).pending = s.pending := rfl
@[simp] theorem postPanel_now : (postPanel n s).now = s.now := rfl
@[simp] theorem postPanel_free : (postPanel n s).free = s.free := rfl
@[simp] theorem postPanel_plan : (postPanel n s).plan = s.plan := rfl
@[simp] theorem postPanel_engine : (postPanel n s).engine = s.engine := rfl
@[simp] theorem postPanel_conv : (postPanel n s).conv = s.conv := rfl
@[simp] theorem postPanel_scale : (postPanel n s).scale = s.scale := rfl
@[simp] theorem postPanel_heat : (postPanel n s).heat = s.heat := rfl
@[simp] theorem postPanel_stir : (postPanel n s).stir = s.stir := rfl
@[simp] theorem postPanel_lid : (postPanel n s).lid = s.lid := rfl
@[simp] theorem postPanel_mon : (postPanel n s).mon = s.mon := rfl
@[simp] theorem postPanel_permit : (postPanel n s).permit = s.permit := rfl
@[simp] theorem postPanel_store : (postPanel n s).store = s.store := rfl
@[simp] theorem postPanel_panel : (postPanel n s).panel = s.panel := rfl
@[simp] theorem postPanel_link : (postPanel n s).link = s.link := rfl
@[simp] theorem postPanel_rx : (postPanel n s).rx = s.rx := rfl
@[simp] theorem postPanel_psdo : (postPanel n s).psdo = s.psdo := rfl
@[simp] theorem post_asserts (d : Detector) : (post n s).asserts d = s.asserts d := rfl
@[simp] theorem post_isRunning : (post n s).isRunning = s.isRunning := rfl
@[simp] theorem post_inRun : (post n s).inRun = s.inRun := rfl
@[simp] theorem post_liveRecord : (post n s).liveRecord = s.liveRecord := rfl
@[simp] theorem post_liveIndex : (post n s).liveIndex = s.liveIndex := rfl
@[simp] theorem post_phase : (post n s).phase = s.phase := rfl
@[simp] theorem post_port (p : Port) : (post n s).port p = s.port p := by cases p <;> rfl

end

end Sys2Proof.Machine
end

