-- ==== Sys2Proof/Tests/Slice0.lean ====
section
/-! SUPPORT. Tests: the well-formedness checks, the spec's own worked examples and tables, and for every statement with
hypotheses a witness that meets them. Each expected value stands in the spec where the comment says. -/

namespace Sys2Proof.Tests

open Sys2Proof Sys2Proof.Machine

/-! ### States and records to test on -/

/-- The state a command leaves. -/
def after (c : Instr) (s : State) : State :=
  match exec c s with
  | .next t => t
  | .fault _ => s
  | .refused _ => s

/-- The reply on a port: result, CLAMPED, OVERRUN, body. -/
def replyOn (p : Port) (s : State) : Option (Result × Bool × Bool × List Byte) :=
  (s.port p).reply.map (fun r => (r.result, r.clamped, r.overrun, r.body))

/-- The part once its scan has ended, with nothing done yet. -/
def ready : State := { State.reset with store := { Store.reset [] with op := .idle, starting := false } }

/-- A COOK record: 90 °C, 300 rpm, 60 s from the target on. -/
def cook : StepRecord :=
  { kind := .cook, exits := { timer := true, temp := false, boil := false, weight := false, confirm := false },
    heatMode := .temp, heatValue := 90, ramp := none, boil := .ignore, speed := 300, direction := .forward,
    pattern := .continuous, onTime := 1, offTime := 1, duration := some 60, start := .atTarget, prompt := 0,
    target := none, tag := 7 }

/-- A PROMPT record. -/
def ask : StepRecord :=
  { cook with kind := .prompt, heatMode := .off, heatValue := 0, speed := 0, duration := none, start := .atEntry,
              prompt := 12, exits := { timer := false, temp := false, boil := false, weight := false, confirm := true } }

/-- A DOSE record of 250 g. -/
def dose : StepRecord :=
  { cook with kind := .dose, heatMode := .off, heatValue := 0, duration := none, start := .atEntry, target := some 250,
              exits := { timer := false, temp := false, boil := false, weight := true, confirm := false } }

/-- A live step at an index in a phase. -/
def liveAt (idx : Nat) (r : StepRecord) (ph : Phase) (ret : Option Phase) : Live :=
  { index := idx, kind := r.kind, phase := ph, returnPhase := ret, active := 0, pausedFor := 0, settleBy := none,
    reference := none, lastAdded := 0, nearPosted := false, fallenBack := false,
    flags := { refUnsteady := false, fallback := false, overdose := false }, peak := 250 }

/-- A plan of three steps at revision 5, and the permit ARMED at time 0. -/
def loaded : State :=
  { ready with
    plan := { planId := 40, revision := 5, steps := [cook, ask, dose], origin := .panel, slot := none }
    permit := { Permit.reset with state := .armed, key := 0xA5, renewal := some 0, first := true } }

/-- A run of `loaded` with a live step in one engine state and phase. -/
def inState (st : EngineState) (idx : Nat) (r : StepRecord) (ph : Phase) (ret : Option Phase) : State :=
  { loaded with engine := { Engine.reset with
      state := st, live := some (liveAt idx r ph ret)
      causes := { request := decide (st = .paused), lid := false, permit := false }
      trips := if st = .tripped then Detector.overheat.set else 0
      firstTrip := if st = .tripped then some .overheat else none } }

/-- A run with a live step RUNNING. -/
def running (idx : Nat) (r : StepRecord) (ph : Phase) : State := inState .running idx r ph none

/-- A run paused by a request. -/
def paused (idx : Nat) (r : StepRecord) (ph : Phase) : State := inState .paused idx r ph none

/-! ### WellFormed: each check refuses an ill-formed command -/

theorem test_wf_refuses_index : (Instr.readStep 0 .panel 0 256).wf = false := by decide
theorem test_wf_refuses_revision : (Instr.clearPlan 0 .link 0 65536).wf = false := by decide
theorem test_wf_refuses_plan_id : (Instr.setPlanId 0 .link 0 1 65536).wf = false := by decide
theorem test_wf_refuses_insert : (Instr.insertStep 0 .link 0 1 0 { cook.raw with speed := 65536 }).wf = false := by decide
theorem test_wf_refuses_replace : (Instr.replaceStep 0 .link 0 1 0 { cook.raw with kind := 256 }).wf = false := by decide
theorem test_wf_refuses_remove : (Instr.removeStep 0 .link 0 1 300).wf = false := by decide
theorem test_wf_refuses_start : (Instr.startRun 0 .link 0 70000 0).wf = false := by decide
theorem test_wf_refuses_skip : (Instr.skipStep 0 .link 0 256).wf = false := by decide
theorem test_wf_refuses_confirm : (Instr.confirm 0 .link 0 256).wf = false := by decide
theorem test_wf_refuses_log_position : (Instr.readRunLog 0 .link 0 256).wf = false := by decide
theorem test_wf_refuses_drift : (Instr.calZero 0 .panel 0 1 32768 0 0).wf = false := by decide
theorem test_wf_refuses_offset : (Instr.calZero 0 .panel 0 1 0 0 (-129)).wf = false := by decide
theorem test_wf_refuses_known_weight : (Instr.calSpan 0 .panel 0 4294967296 1).wf = false := by decide
theorem test_wf_refuses_slot :
    (Instr.libSave 0 .link 0 256).wf = false ∧ (Instr.libLoad 0 .link 0 256).wf = false
      ∧ (Instr.libErase 0 .link 0 256).wf = false := by decide
theorem test_wf_refuses_code : (Instr.senseConversionEnd 0 4096).wf = false := by decide
theorem test_wf_refuses_each_field :
    ([{ cook.raw with exitSet := 256 }, { cook.raw with heatMode := 256 }, { cook.raw with heatValue := 256 },
      { cook.raw with ramp := 256 }, { cook.raw with boil := 256 }, { cook.raw with direction := 256 },
      { cook.raw with pattern := 256 }, { cook.raw with onTime := 256 }, { cook.raw with offTime := 256 },
      { cook.raw with duration := 65536 }, { cook.raw with timerStart := 256 }, { cook.raw with prompt := 256 },
      { cook.raw with target := 65536 }, { cook.raw with tag := 65536 }] : List RawStep).all (fun r => !r.wf) = true := by
  decide
theorem test_wf_accepts : (Instr.insertStep 0 .link 0 65535 255 cook.raw).wf = true := by decide

/-! ### Frames (chapter 9) -/

/-- 9.4, the CONFIRM of step 3 with tag 0x17. -/
theorem test_confirm_frame : (Request.confirm 3).frame 0x17 = [3, 0x25, 0x17, 3, 0xBD] := by decide

/-- 9.4: its reply, OK with an empty body. -/
theorem test_confirm_reply :
    ({ kind := 0x25, tag := 0x17, result := .ok, overrun := false, clamped := false, body := [] } : Reply).frame
      = [4, 0x25, 0x17, 0, 0, 0xBF] := by decide

/-- R191, R194: INSERT_STEP's body is 23 bytes, least significant byte first. -/
theorem test_insert_body :
    (Request.insertStep 0x1234 2 cook.raw).body
      = [0x34, 0x12, 2, 0, 1, 1, 90, 0, 0, 0x2C, 0x01, 0, 0, 1, 1, 60, 0, 1, 0, 0, 0, 7, 0] := by decide

/-- R189: a frame on the Link Port, read byte by byte, is taken; the sync byte may repeat. -/
theorem test_link_frame :
    replyOn .link (after (.linkFrameComplete 0 [0xFF, 0xA5, 0xA5, 2, 0x21, 9, 0xD3]) (running 0 cook .dwell))
      = some (.ok, false, false, []) := by decide

/-- R189: a frame with a wrong check byte is dropped without a reply. -/
theorem test_link_bad_check :
    replyOn .link (after (.linkFrameComplete 0 [0xA5, 2, 0x21, 9, 0xD4]) (running 0 cook .dwell)) = none := by decide

/-- R187: the same damage on the Panel Port is answered FRAME_CHECK. -/
theorem test_panel_bad_check :
    replyOn .panel (after (.panelRequestFrame 0 [2, 0x21, 9, 0xD4]) (running 0 cook .dwell))
      = some (.frameCheck, false, false, []) := by decide

/-- R188: the waiting reply is shifted out and taken. -/
theorem test_panel_reply_read :
    (after (.panelReplyRead 0 8) (after (.pause 0 .panel 9) (running 0 cook .dwell))).psdo
        = [4, 0x21, 9, 0, 0, 0xD1, 0, 0]
      ∧ (after (.panelReplyRead 0 6) (after (.pause 0 .panel 9) (running 0 cook .dwell))).prdy = false := by decide

/-- R190, R193: a frame that meets an outstanding request is discarded; the next reply carries OVERRUN. -/
theorem test_overrun :
    replyOn .link (after (.pause 0 .link 2) (after (.linkReplySent 0)
        (after (.pause 0 .link 1) (after (.pause 0 .link 0) (running 0 cook .dwell)))))
      = some (.ok, false, true, []) := by decide

/-- R189: a gap or a missing stop bit returns the receiver to HUNT. -/
theorem test_link_gap :
    (after (.linkByteGapTimeout 0) (after (.linkByteReceived 0 0xA5) ready)).rx = .hunt
      ∧ (after (.linkByteReceived 0 0xA5) ready).rx = .receiving []
      ∧ (after (.linkStopBitMissing 0) (after (.linkByteReceived 0 0xA5) ready)).rx = .hunt := by decide

/-- R192: the checks of a port, in their order. -/
theorem test_port_checks :
    ((replyOn .link (after (.pause 0 .link 0) State.reset)).map (·.1),
      (replyOn .link (after (.linkFrameComplete 0 [0xA5, 2, 0x7F, 0, 0x7E]) ready)).map (·.1),
      (replyOn .link (after (.permit 0 .link 0 0x5A) ready)).map (·.1),
      (replyOn .link (after (.linkFrameComplete 0 [0xA5, 3, 0x21, 0, 0, 0xDB]) ready)).map (·.1))
      = (some .starting, some .unknownKind, some .wrongPort, some .length) := by decide

/-! ### Plans (chapter 1) -/

/-- 1.2, the record received and stored. -/
def received : RawStep :=
  { kind := 0, exitSet := 1, heatMode := 1, heatValue := 175, ramp := 25, boil := 2, speed := 25, direction := 1,
    pattern := 1, onTime := 0, offTime := 90, duration := 600, timerStart := 1, prompt := 0, target := 300, tag := 7 }

theorem test_record_stored :
    ((acceptRaw received).map StepRecord.stored).map StepRecord.raw
      = some { received with exitSet := 5, heatValue := 160, ramp := 20, speed := 40, onTime := 1, offTime := 60,
                             target := 0 } := by decide

/-- 1.2: the same record with kind DOSE fails R5. -/
theorem test_record_refused : acceptRaw { received with kind := 1 } = none := by decide

/-- 1.2: the reply is OK with CLAMPED and holds the stored record. -/
theorem test_insert_clamped :
    (replyOn .link (after (.insertStep 0 .link 0 0 0 received) ready)).map (fun x => (x.1, x.2.1, x.2.2.2.take 5))
      = some (.ok, true, [1, 0, 1, 0, 5]) := by decide

/-- 1.8, the plan loaded from slot 2. -/
def twoMasters : State :=
  { loaded with plan := { planId := 40, revision := 17, steps := [cook, ask, cook], origin := .store, slot := some 2 } }

/-- 1.8, the first four rows. -/
theorem test_two_masters_edit :
    let a := after (.replaceStep 0 .link 0 17 1 cook.raw) twoMasters
    let b := after (.insertStep 0 .panel 0 17 3 cook.raw) a
    let c := after (.insertStep 0 .panel 0 18 3 { dose.raw with speed := 900 }) b
    (a.plan.planId, a.plan.revision, a.plan.steps.length, a.plan.origin, a.plan.slot) = (40, 18, 3, .link, none)
      ∧ replyOn .panel b = some (.stale, false, false, [18, 0, 3]) ∧ b.plan = a.plan
      ∧ (c.plan.revision, c.plan.origin, (c.plan.steps[3]?).map (·.speed)) = (19, .panel, some 600) := by decide

/-- 1.8, the last four rows. -/
theorem test_two_masters_run :
    let c := { twoMasters with plan := { twoMasters.plan with
      revision := 19, steps := [cook, cook, cook, dose], origin := .panel, slot := none } }
    let d := after (.startRun 0 .panel 0 19 0) c
    let e := after (.removeStep 0 .link 0 19 0) d
    let f := after (.removeStep 0 .link 1 19 2) (after (.linkReplySent 0) e)
    let g := after (.setPlanId 0 .panel 1 20 41) f
    d.liveIndex = some 0 ∧ replyOn .link e = some (.frozen, false, false, [19, 0, 4])
      ∧ (f.plan.revision, f.plan.steps.length, f.plan.origin) = (20, 3, .link) ∧ f.plan.steps[2]? = some dose
      ∧ (g.plan.planId, g.plan.revision, g.plan.origin) = (41, 21, .panel) := by decide

/-- R3: after 65,535 the revision is 1. -/
theorem test_revision_wraps :
    (after (.clearPlan 0 .link 0 65535) { ready with plan := { Plan.reset with revision := 65535 } }).plan.revision = 1 := by
  decide

/-- R13, R14: the header and a step read. -/
theorem test_read_plan :
    replyOn .link (after (.readPlanHeader 0 .link 0) twoMasters) = some (.ok, false, false, [40, 0, 17, 0, 3, 2, 2])
      ∧ replyOn .link (after (.readStep 0 .link 0 3) twoMasters) = some (.noStep, false, false, [17, 0, 3]) := by decide

/-! ### Runs (chapters 2 and 10) -/

/-- R50, R28: a start with the lock not yet held waits in LOCKING. -/
theorem test_start_run :
    (after (.startRun 0 .link 0 5 0) loaded).phase = some .locking
      ∧ (after (.startRun 0 .link 0 5 0) loaded).lid.wish = true
      ∧ replyOn .link (after (.startRun 0 .link 0 5 0) loaded) = some (.ok, false, false, [5, 0, 0]) := by decide

/-- `loaded` with the lid lock held and the demand LOCKED. -/
def lockedShut : State := { loaded with lid := { Lid.reset with feedback := some true } }

/-- 2.6, the first row: a DOSE step entered with the lock held is in SETTLE at once, with 5 s for its reference. -/
theorem test_start_locked :
    let t := after (.startRun 7 .link 0 5 2) lockedShut
    t.engine.live.map (fun l => (l.phase, l.returnPhase, l.settleBy)) = some (.settle, none, some 5000007)
      ∧ t.notices.linkQ.map (fun r => r.data.code) = [0, 1] := by decide

/-- R44, R47: PAUSE and RESUME; 10.2, RESUME comes back through LOCKING. -/
theorem test_pause_resume :
    let a := after (.pause 0 .panel 0) (running 0 cook .dwell)
    let b := after (.resume 0 .link 0) a
    a.engine.state = .paused ∧ a.engine.causes = { request := true, lid := false, permit := false }
      ∧ b.phase = some .locking ∧ (b.engine.live.bind (·.returnPhase)) = some .dwell := by decide

/-- 10.1, Order B: CONFIRM ends the prompt, and the later CONFIRM for the same index meets WRONG_STEP. -/
theorem test_confirm_race :
    let a := after (.confirm 0 .panel 0 1) (running 1 ask .waitConfirm)
    let b := after (.confirm 0 .link 0 1) a
    a.liveIndex = some 2 ∧ a.engine.log.length = 1 ∧ replyOn .link b = some (.wrongStep, false, false, []) := by decide

/-- R48, R49: SKIP_STEP ends the last step and the run; ABORT ends it ABORTED. -/
theorem test_skip_abort :
    (after (.skipStep 0 .panel 0 2) (paused 2 dose .dosing)).engine.endReason = some .completed
      ∧ (after (.abort 0 .panel 0) (paused 2 dose .dosing)).engine.endReason = some .aborted := by decide

/-- 10.3: CLEAR_TRIP is refused while OVERHEAT is asserted; with the permit lapsed it leaves REQUEST and PERMIT. -/
theorem test_clear_trip :
    let s := inState .tripped 0 cook .dwell none
    let hot := { s with mon := { s.mon with overheat := { DetState.reset with asserted := true } } }
    let lapsed := { s with permit := lapsedPermit .expired }
    replyOn .panel (after (.clearTrip 0 .panel 0) hot) = some (.causePresent, false, false, [])
      ∧ (after (.clearTrip 0 .panel 0) lapsed).engine.causes = { request := true, lid := false, permit := true } := by
  decide

/-- R60, R198: a log entry read, and a position past the end. -/
theorem test_read_run_log :
    let a := after (.confirm 0 .panel 0 1) (running 1 ask .waitConfirm)
    (replyOn .link (after (.readRunLog 0 .link 0 0) a)).map (fun x => (x.1, x.2.2.2.take 6)) = some (.ok, [1, 1, 7, 0, 2, 4])
      ∧ (replyOn .link (after (.readRunLog 0 .link 0 1) a)).map (·.1) = some .noStep := by decide

/-- R31, R32: the step clock counts a tenth in DWELL, and the sixtieth second ends the step. -/
theorem test_time_base :
    (after (.timeBaseTick 0) (running 0 cook .dwell)).engine.live.map (·.active) = some 1
      ∧ (after (.timeBaseTick 0) { running 0 cook .dwell with engine :=
          { (running 0 cook .dwell).engine with live := some { liveAt 0 cook .dwell none with active := 599 } } }).liveIndex
          = some 1 := by decide

/-- 2.6, the DOSE step that overshoots: its last three samples. -/
theorem test_dose_example :
    let s := { running 2 dose .dosing with engine :=
      { (running 2 dose .dosing).engine with live := some { liveAt 2 dose .dosing none with reference := some 15566 } } }
    let a := takeWeight 16120 false s
    let b := takeWeight 17900 false a
    let c := takeWeight 18390 false b
    a.engine.live.map (fun l => (l.lastAdded, l.nearPosted)) = some (554, false)
      ∧ b.engine.live.map (fun l => (l.lastAdded, l.nearPosted)) = some (2334, true)
      ∧ c.engine.log.map (fun e => (e.added, e.reason, e.flags.overdose)) = [(some 2824, .weight, true)] := by decide

/-- R39: the settle deadline takes the net as an unsteady reference. -/
theorem test_settle_deadline :
    (after (.settleDeadline 0) (running 2 dose .settle)).engine.live.map (fun l => (l.phase, l.reference, l.flags.refUnsteady))
      = some (.dosing, some 0, true) := by decide

/-! ### The Sensor Converter (chapter 3) -/

/-- R72, the table of codes. -/
theorem test_probe_codes :
    (probeValue 20 0, probeValue 1412 0, probeValue 1469 0, probeValue 4075 0) = (-386, 599, 640, 2485)
      ∧ (plausible 19, plausible 20, plausible 4075, plausible 4076) = (false, true, true, false) := by decide

/-- 3.7, current and supply results. -/
theorem test_current_and_supply :
    (imValue 2800, bandIm (imValue 2800), imValue 3010, bandIm (imValue 3010)) = (11200, .inside, 12040, .above)
      ∧ (vsValue 3050, bandVs (vsValue 3050), vsValue 3200, bandVs (vsValue 3200)) = (893, .below, 937, .above) := by decide

/-- A part whose converter is in one state, past its discarded first scan and group. -/
def converting (st : ConvState) (s : State) : State :=
  { s with conv := { s.conv with state := st, senseDiscard := false, weighDiscard := false } }

/-- 3.7, a failing bowl-base probe: the five codes in turn, offB = 8. -/
theorem test_failing_probe :
    let s := { running 0 cook .dwell with scale := { Scale.reset with cal := { Calibration.default with offB := 8 } } }
    let next := fun (s : State) (code : Nat) => after (.senseConversionEnd 0 code) (converting (.sense .tb) s)
    let s4 := [1412, 4090, 4095, 1420].foldl next s
    let s5 := next s4 4092
    (s4.conv.tb, s4.conv.tbHeld, s4.conv.tbHist) = (613, false, [true, false, false, true])
      ∧ s4.asserts .probeB = false ∧ s5.asserts .probeB = true ∧ s5.engine.state = .tripped
      ∧ (s5.conv.tb, s5.conv.tbHeld) = (613, true) := by decide

/-- R63: a sense expiry begins a scan, or sets scan due. -/
theorem test_sense_timer :
    (after (.senseTimerExpiry 0) ready).conv.state = .sense .tb
      ∧ (after (.senseTimerExpiry 0) (converting (.weigh 0) ready)).conv.scanDue = true := by decide

/-- R64, R66: a free trigger begins a weigh group, and waits behind a sense conversion. -/
theorem test_free_trigger :
    (after (.freeTrigger 25000) ready).conv.state = .weigh 25000
      ∧ (after (.freeTrigger 0) (converting (.sense .tc) ready)).conv.weighWaiting = true := by decide

/-! ### Weighing (chapter 4) -/

/-- 4.3, the scale before the sample. -/
def chainScale : Scale :=
  { Scale.reset with
    cal := { zero := 120000, span := 6554, drift := -12, tcal := 250, offB := 0, offC := 0, calId := 1 }
    window := [28040, 28046, 28051, 28044, 28050, 28047, 28043].map
      (fun g => { gross := g, motion := false, overrange := false })
    tare := [12480], status := .ready }

/-- 4.3, the worked chain, through the command. -/
theorem test_worked_chain :
    let s := converting (.weigh 0) { ready with scale := chainScale, conv := { Converter.reset with tc := 640 } }
    let t := after (.weighGroupEnd 0 101250 98730 100410 99610) s
    (t.scale.window.map (·.gross)).getLastD 0 = 28049 ∧ t.scale.gross = 28046 ∧ t.scale.stable = true
      ∧ t.scale.net = 15566 := by decide

/-- The rounding of negative quotients (00_scope.md, Arithmetic; 4.3, drift). -/
theorem test_rounding : (roundDiv (-4680) 100, roundDiv 1835120000 65536, roundDiv 5 2, roundDiv (-5) 2) = (-47, 28002, 3, -3) := by
  decide

/-- 4.7, the zero capture: its eighth sample. -/
def zeroing : State :=
  converting (.weigh 0) { ready with
    scale := { Scale.reset with
      cal := { Calibration.default with zero := 118340, span := 6541 }, tare := [100], net := -100, status := .ready
      pendingCapture := some { body := .zero 9 (-12) 8 0, sum := 840003, count := 7, deadline := 5000000 } }
    panel := { PortState.reset with state := .outstanding, buffer := some { kind := 0x34, tag := 3 } } }

theorem test_zero_capture :
    let t := after (.weighGroupEnd 0 119997 0 0 0) zeroing
    (t.scale.cal.zero, t.scale.cal.span, t.scale.cal.tcal, t.scale.tare, t.scale.status)
        = (120000, 6541, 250, [], .restarting)
      ∧ replyOn .panel t = some (.ok, false, false, [0xC0, 0xD4, 0x01, 0, 0xFA, 0, 9, 0]) := by decide

/-- R98: a change of calibration clears the stack, and F and the net hold their last values until the next sample; the figures
stay safe meanwhile. The sample's F is the gross alone in its window, 165 = (119,997 − 118,340) × 6,541 / 65,536. -/
theorem test_zero_capture_holds_net :
    let t := after (.weighGroupEnd 0 119997 0 0 0) zeroing
    (t.scale.tare, t.scale.gross, t.scale.net) = ([], 165, 65) ∧ zeroing.scale.safe = true ∧ t.scale.safe = true
      ∧ (after (.tareClear 0 .link 0) t).scale.net = 165 := by decide

/-- R102: a TC10 of 300 held since it was formed with an offset of 8, under a calibration with another: TC10 without its
offset is 292, and the new offset is 0. -/
theorem test_zero_capture_held_plate :
    let s := { zeroing with
      conv := { zeroing.conv with tc := 300, tcOffset := 8, tcHeld := true }
      scale := { zeroing.scale with cal := { zeroing.scale.cal with offC := 5 } } }
    (after (.weighGroupEnd 0 119997 0 0 0) s).scale.cal.tcal = 292 := by decide

/-- 4.7, the span capture: its eighth sample. -/
def spanning : State :=
  { zeroing with scale := { zeroing.scale with
      cal := { Calibration.default with zero := 120000, span := 6541 }
      pendingCapture := some { body := .span 20000 9, sum := 2240000, count := 7, deadline := 5000000 } } }

theorem test_span_capture :
    (after (.weighGroupEnd 0 80000 80000 80000 80000) spanning).scale.cal.span = 6554 := by decide

/-- R100: CAL_ZERO and CAL_SPAN wait for samples; a drift out of range is refused. -/
theorem test_capture_requests :
    ((after (.calZero 0 .panel 0 9 (-12) 8 0) ready).scale.pendingCapture).map (·.deadline) = some 5000000
      ∧ ((after (.calSpan 0 .panel 0 20000 9) ready).scale.pendingCapture).map (·.body) = some (.span 20000 9)
      ∧ (replyOn .panel (after (.calZero 0 .panel 0 9 501 0 0) ready)).map (·.1) = some .range := by decide

/-- R101: the capture deadline answers UNSTABLE. -/
theorem test_capture_deadline :
    replyOn .panel (after (.captureDeadline 0) zeroing) = some (.unstable, false, false, [])
      ∧ (after (.captureDeadline 0) zeroing).scale.pendingCapture = none := by decide

/-- A scale READY with two levels on its stack, and TARE_PUSH waiting on the link port. -/
def taring : State := after (.tarePush 0 .link 7) { ready with scale := { chainScale with tare := [500, 200], net := -500 } }

/-- R90: an accepted TARE_PUSH waits, its request outstanding. -/
theorem test_tare_push :
    taring.scale.pendingTare = some { port := .link, deadline := 3000000 } ∧ taring.link.state = .outstanding
      ∧ taring.link.reply = none := by decide

/-- R91: the first STABLE sample completes it: F 28,046 becomes the top. -/
theorem test_tare_completes :
    let s := converting (.weigh 0) { taring with conv := { Converter.reset with tc := 640, nextSeq := 258 } }
    let t := after (.weighGroupEnd 0 101250 98730 100410 99610) s
    t.scale.tare = [28046, 500, 200] ∧ t.scale.net = 0
      ∧ replyOn .link t = some (.ok, false, false, [0x8E, 0x6D, 0, 0, 3, 2, 1]) := by decide

/-- R91, R92: the deadline and a restart. -/
theorem test_tare_ends :
    (replyOn .link (after (.tareDeadline 0) taring)).map (·.1) = some .unstable
      ∧ (replyOn .link (after (.restartScale 0 .panel 0) taring)).map (·.1) = some .aborted := by decide

/-- R93, R94: the stack popped and cleared. -/
theorem test_tare_pop_clear :
    let s := { ready with scale := { chainScale with tare := [500, 200], gross := 700, net := 200 } }
    ((after (.tarePop 0 .panel 0) s).scale.tare, (after (.tarePop 0 .panel 0) s).scale.net) = ([200], 500)
      ∧ ((after (.tareClear 0 .panel 0) s).scale.tare, (after (.tareClear 0 .panel 0) s).scale.net) = ([], 700) := by decide

/-- R104: the calibration read back. -/
theorem test_read_cal :
    replyOn .link (after (.readCal 0 .link 0) { ready with scale := chainScale })
      = some (.ok, false, false, [0xC0, 0xD4, 1, 0, 0x9A, 0x19, 0xF4, 0xFF, 0xFA, 0, 0, 0, 1, 0, 0, 0, 1]) := by decide

/-! ### Heating (chapter 5) -/

/-- 5.4: one loop run and the frame end that adopts it. -/
def loopAndFrame (tb : Int) (supplyLow : Bool) (h : Heat) : Heat :=
  endFrame (takeTb true tb false { h with supplyLow := supplyLow })

/-- 5.4, loop runs over five frames, and the cold addition. -/
theorem test_loop_runs :
    let h := { Heat.reset with mode := .temp, sp := some 1000, target := some 1000, integral := 240 }
    let r1 := loopAndFrame 962 false h
    let r2 := loopAndFrame 981 false r1
    let r3 := loopAndFrame 990 true r2
    let r4 := loopAndFrame 1004 true r3
    let r5 := loopAndFrame 1012 true r4
    let r6 := loopAndFrame 900 true r5
    [r1, r2, r3, r4, r5, r6].map (fun h => (h.frameN, h.frameW, h.integral))
      = [(100, 53, 278), (100, 36, 297), (100, 28, 307), (100, 15, 303), (200, 13, 291), (100, 50, 291)] := by decide

/-- 5.5, the gate within a frame. -/
theorem test_gate :
    (gateIn 100 53 52, gateIn 100 53 53, gateIn 100 100 99, gateIn 100 0 0, gateIn 200 13 12, gateIn 200 13 13)
      = (true, false, true, false, true, false) := by decide

/-- 5.5, a pause within a frame: the coil goes off at once, and the frame end adopts (100, 0). -/
theorem test_pause_in_frame :
    let s := { running 0 cook .dwell with heat :=
      { Heat.reset with mode := .temp, sp := some 1000, integral := 278, frameW := 53, next := { n := 100, w := 53, step := .none },
                        gate := true } }
    let t := after (.pause 0 .panel 0) s
    let u := after (.frameEnd 0) t
    (t.heat.gate, t.heat.frameN, t.heat.frameW, t.heat.integral) = (false, 100, 0, 0)
      ∧ (u.heat.gate, u.heat.frameW) = (false, 0) := by decide

/-- R119: a slot boundary turns the gate off after slot W − 1. -/
theorem test_slot_boundary :
    let s := fun (k : Nat) => { ready with heat := { Heat.reset with frameW := 53, slot := k, gate := true } }
    ((after (.slotBoundary 0) (s 51)).coilGate, (after (.slotBoundary 0) (s 52)).coilGate) = (true, false) := by decide

/-- 5.3, a ramped entry: the setpoint starts at TB10, and each rise adds 5. -/
theorem test_ramp :
    let h := heatEntry true 0 { cook with heatValue := 100, ramp := some 5 } { Heat.reset with tb := 240 }
    let s := after (.rampRise 6000000) { running 0 cook .dwell with heat := h }
    (h.sp, h.countdown, h.target) = (some 240, .running 6000000, some 1000)
      ∧ (s.heat.sp, s.heat.countdown) = (some 245, .running 12000000) := by decide

/-- 5.7, boil found and held: the fifth qualifying verdict. -/
theorem test_boil_held :
    let s := { running 0 { cook with boil := .hold } .dwell with
      plan := { loaded.plan with steps := [{ cook with boil := .hold }] }
      heat := { Heat.reset with mode := .temp, sp := some 1050, tb := 998, tbHeld := false, frameW := 100,
                                ring := List.replicate 60 997 }
      mon := { Monitor.reset with boil := { DetState.reset with setCount := 4 } } }
    let t := after (.plateauTimer 0) s
    t.asserts .boil = true ∧ t.heat.boilHold = true
      ∧ ((takeTb true 998 false t.heat).next.n, (takeTb true 998 false t.heat).next.w) = (100, 35) := by decide

/-! ### Stirring (chapter 6) -/

/-- R133, the table. -/
theorem test_measured_speed :
    (speedOf (List.replicate 11 1786 ++ [1782]), speedOf [5000], speedOf (List.replicate 12 100000),
      speedOf [50000, 50000, 50000], speedOf []) = (2800, 1000, 50, 100, 0) := by decide

/-- R144, the table. -/
theorem test_shortfall :
    (shortfallVerdict 180 0, shortfallVerdict 200 49, shortfallVerdict 200 50, shortfallVerdict 2800 650,
      shortfallVerdict 2800 2790) = (false, true, false, true, false) := by decide

/-- 6.5, a hot cap during a cook: updates n and n + 1. -/
theorem test_hot_cap :
    let fast := { cook with speed := 4000 }
    let s := { running 0 fast .dwell with stir := { Stir.reset with
      speed := 4000, ramped := 4000, integral := 15, tb := 600, measured := 3990 } }
    let a := after (.controlUpdate 0) s
    let b := after (.controlUpdate 0) { a with stir := { a.stir with measured := 3975 } }
    (a.stir.applied, a.stir.ramped, a.stir.integral, a.stir.duty) = (3000, 3960, 14, 374)
      ∧ (b.stir.applied, b.stir.ramped, b.stir.integral, b.stir.duty) = (3000, 3920, 11, 367)
      ∧ b.notices.panelQ.map (·.data) = [.speedCapped 0 .hot 4000 3000] := by decide

/-- 6.5, a kneading reversal: at 5.00 s and 5.01 s. -/
theorem test_knead_reversal :
    let s := { running 0 cook .dwell with stir := { Stir.reset with
      speed := 300, pattern := .knead, onTime := 3, offTime := 2, seg := 1, elapsed := 199, stopped := true } }
    let a := after (.controlUpdate 0) s
    let b := after (.controlUpdate 0) a
    (a.stir.seg, a.stir.elapsed, a.stir.wait, a.stir.applied, a.stir.drive) = (2, 0, true, 0, .forward)
      ∧ (b.stir.seg, b.stir.elapsed, b.stir.wait, b.stir.applied, b.stir.ramped, b.stir.drive)
          = (2, 1, false, 300, 20, .reverse) := by decide

/-- R132, R134: a tach edge measures, and the no-edge timeout stands the blade still. -/
theorem test_tach :
    let s := after (.tachEdge 5000) { ready with stir := { Stir.reset with lastEdge := some 0 } }
    s.stir.measured = 1000 ∧ s.conv.mode = .free
      ∧ (after (.noEdgeTimeout 0) s).stir.measured = 0 ∧ (after (.noEdgeTimeout 0) s).stir.stopped = true
      ∧ (after (.noEdgeTimeout 0) s).lid.demand = .unlocked := by decide

/-! ### Lid, protection and trips (chapter 7) -/

/-- R147, R29: a sample that shows locked ends LOCKING. -/
theorem test_lock_confirmation :
    (after (.lidSample 0 false true) (inState .running 0 cook .locking (some .approach))).phase = some .approach := by
  decide

/-- R45, R153: the third open sample asserts LID_OPEN and pauses a step in DWELL. -/
theorem test_lid_pause :
    let s := { running 0 cook .dwell with mon := { Monitor.reset with lidOpen := { DetState.reset with setCount := 2 } } }
    let t := after (.lidSample 0 true true) s
    t.asserts .lidOpen = true ∧ t.engine.causes = { request := true, lid := true, permit := false } := by decide

/-- 10.3: the third ABOVE of OVERHEAT trips the run, and posts CONDITION, TRIP and ENGINE_STATE in that order. -/
theorem test_overheat :
    let s := { converting (.sense .tc) (running 0 cook .dwell) with
      mon := { Monitor.reset with overheat := { DetState.reset with setCount := 2 } } }
    let t := after (.senseConversionEnd 0 4000) s
    t.engine.state = .tripped ∧ t.engine.firstTrip = some .overheat
      ∧ t.notices.panelQ.map (fun r => r.data.code) = [8, 9, 0] := by decide

/-- 7.3, a jammed blade: the tenth IM ABOVE asserts STALL. -/
theorem test_jammed_blade :
    let s := { converting (.sense .im) (running 0 cook .dwell) with mon := { Monitor.reset with stallCurrent := 9 } }
    let t := after (.senseConversionEnd 0 3300) s
    t.asserts .stall = true ∧ t.mon.stallCurrent = 0 ∧ t.engine.firstTrip = some .stall := by decide

/-- 7.6, a renewal sent too soon: arming, the first renewal, a renewal in its time, and one that is early. -/
theorem test_permit_example :
    let a := after (.permit 0 .panel 0 0x5A) { ready with plan := loaded.plan }
    let b := after (.permit 150000 .panel 0 0xA5) a
    let c := after (.permit 1550000 .panel 0 0x5A) b
    let d := after (.permit 700000 .panel 0 0xA5) c
    (a.permit.key, a.permit.first, b.permit.key, b.permit.first) = (0xA5, true, 0x5A, false)
      ∧ (c.permit.key, c.permit.renewal) = (0xA5, some 1700000)
      ∧ (d.permit.state, d.permit.key, d.permit.lapse) = (.lapsed, 0x5A, some .early)
      ∧ (replyOn .panel d).map (fun x => (x.1, x.2.2.2)) = some (.noPermit, [2, 0x5A, 0]) := by decide

/-- R167, R169: the permit's timers. -/
theorem test_permit_timers :
    let s := { loaded with permit := { loaded.permit with due := some 1500000 } }
    (after (.permitExpiry 2000000) s).permit.lapse = some .expired
      ∧ (after (.permitDueTimer 1500000) s).notices.panelQ.map (·.data) = [.permitDue 0xA5]
      ∧ (after (.permitDueTimer 1500000) s).notices.linkQ = [] := by decide

/-- R152: CLEAR_LATCHED keeps the flag of a detector that is asserted. -/
theorem test_clear_latched :
    let s := { ready with mon := { Monitor.reset with
      overheat := { DetState.reset with asserted := true, latched := true }, boil := { DetState.reset with latched := true } } }
    replyOn .link (after (.clearLatched 0 .link 0 0x0014) s) = some (.ok, false, false, [4, 0, 4, 0])
      ∧ (replyOn .link (after (.clearLatched 0 .link 0 0x0800) s)).map (·.1) = some .range := by decide

/-! ### Notices and the status record (chapter 9) -/

/-- 9.10, one queue through a trip. -/
theorem test_queue_through_trip :
    let s := { running 0 cook .dwell with notices := { Notices.reset with uptime := 400, linkMask := 0xFEFF } }
    let a := changeDetector .overheat true s
    let b := after (.takeNotice 0 .panel 0) { a with notices := { a.notices with uptime := 401 } }
    let c := changeDetector .dryPan true { b with notices := { b.notices with uptime := 403 } }
    (replyOn .panel b).map (fun x => (x.2.2.2.take 3, x.2.2.2.getLast?)) = some ([8, 1, 0x90], some 2)
      ∧ c.notices.panelQ.map (fun r => (r.data.code, r.count, r.first, r.last)) = [(9, 2, 400, 403), (0, 2, 400, 403), (8, 1, 403, 403)]
      ∧ c.notices.panelQ.map (·.data) = [.trip 0x000C .overheat, .engineState .tripped (some 0) 2, .condition 0x0008 0x000C]
      ∧ c.notices.linkQ.map (fun r => (r.data.code, r.count, r.first, r.last)) = [(9, 2, 400, 403), (0, 2, 400, 403)] := by
  decide

/-- R201, R199: the mask of the port alone, and the uptime. -/
theorem test_mask_and_uptime :
    let t := after (.setNoticeMask 0 .link 0 0x00FF) ready
    (t.notices.linkMask, t.notices.panelMask, (after (.uptimeTick 0) t).notices.uptime) = (0x00FF, 0xFFFF, 1)
      ∧ replyOn .link t = some (.ok, false, false, [0xFF, 0]) := by decide

/-- 10.4: READ_STATUS during start-up: 58 bytes, store operation SCAN, start-up flag 1. -/
theorem test_status_at_startup :
    (replyOn .panel (after (.readStatus 0 .panel 0) State.reset)).map
        (fun x => (x.1, x.2.2.2.length, (x.2.2.2.drop 53).take 3)) = some (.ok, 58, [1, 0xFF, 1]) := by decide

/-! ### The store (chapters 8 and 10) -/

/-- R176: the scan of an erased array leaves no slot valid and clears the start-up flag. -/
theorem test_scan :
    let t := after (.scanEnd 82280) State.reset
    t.store.starting = false ∧ t.store.op = .idle ∧ t.store.directory.all (fun e => !e.valid) = true := by decide

/-- 10.4: the first word write of a SAVE is the slot's counter, then the marker is cleared. -/
theorem test_save_begins :
    let t := after (.libSave 0 .panel 0 6) { ready with store := { ready.store with
      directory := ready.store.directory.set 6 { valid := true, planId := 12, count := 5, saves := 40 } } }
    let u := after (.wordWriteEnd 10040 41 0) t
    t.store.op.writing = some { addr := 4112, value := 41, role := .counter }
      ∧ u.store.directory[6]? = some { valid := true, planId := 12, count := 5, saves := 41 }
      ∧ u.store.op.writing = some { addr := 3072, value := 0, role := .clearMarker } := by decide

/-- R173, R179: a word that reads back wrong twice ends the SAVE with WRITE_FAULT. -/
theorem test_save_fails :
    let t := after (.wordWriteEnd 20080 7 7) (after (.libSave 0 .panel 0 6) ready)
    t.store.op = .idle ∧ t.notices.panelQ.map (·.data) = [.libraryDone .save (some 6) .writeFault (some 0)] := by decide

/-- R180, R181, R182: LOAD of an empty slot is refused, of a damaged one ends EMPTY_SLOT; ERASE starts two word writes. -/
theorem test_load_erase :
    let held := { ready with store := { ready.store with
      directory := ready.store.directory.set 0 { valid := true, planId := 1, count := 1, saves := 1 } } }
    (replyOn .link (after (.libLoad 0 .link 0 0) ready)).map (·.1) = some .emptySlot
      ∧ (after (.loadReadEnd 0) (after (.libLoad 0 .link 0 0) held)).notices.linkQ.map (·.data)
          = [.libraryDone .load (some 0) .emptySlot none]
      ∧ (after (.libErase 0 .link 0 7) ready).store.op.writing = some { addr := 3584, value := 0, role := .plain } := by decide

/-- R183: WRITE_CAL starts with the marker, and makes the flag INVALID. -/
theorem test_write_cal :
    let t := after (.libWriteCal 0 .panel 0) { ready with store := { ready.store with calValid := true } }
    t.store.op.writing.map (fun w => (w.addr, w.value)) = some (4096, 0) ∧ t.store.calValid = false := by decide

/-- R184: LIB_INFO, with no save buffer. -/
theorem test_lib_info :
    (replyOn .link (after (.libInfo 0 .link 0) ready)).map (·.1) = some .ok := by decide

/-- R24, R170: a reset in the middle of a run. -/
theorem test_reset :
    (after .reset (running 0 cook .dwell)).engine.state = .idle ∧ (after .reset (running 0 cook .dwell)).plan.steps = []
      ∧ (after .reset (running 0 cook .dwell)).store.op = .scan := by decide

/-! ### The queue -/

theorem test_step_takes_front : step { ready with pending := [.uptimeTick 5] } = .next (after (.uptimeTick 5) ready) := by rfl

/-! ### Witnesses: states and operands that meet the hypotheses of the statements, clause by clause -/

/-- Both ports take a request at `ready`. -/
theorem witness_admits : ready.admits .panel = true ∧ ready.admits .link = true := by decide

theorem witness_StepRunsFrontCommand : ready.pending = [] := by decide

theorem witness_RequestReadsBackFromItsFrame : (Request.insertStep 65535 255 received).wf = true := by decide

theorem witness_FramedRequestIsItsCommand : (Request.confirm 3).wf = true ∧ ready.rx = .hunt := by decide

/-- A record of each heat mode and kind, at the ends of its ranges. -/
theorem witness_StoredRecordIsLegal :
    cook.raw.wf = true ∧ acceptRaw cook.raw = some cook
      ∧ acceptRaw { cook with ramp := some 20, heatValue := 160 }.raw = some { cook with ramp := some 20, heatValue := 160 }
      ∧ acceptRaw { cook with heatMode := .power, heatValue := 100, start := .atEntry }.raw
          = some { cook with heatMode := .power, heatValue := 100, start := .atEntry }
      ∧ acceptRaw { dose with target := some 5000 }.raw = some { dose with target := some 5000 }
      ∧ acceptRaw ask.raw = some ask := by decide

/-- A load in flight. -/
def loading : State := { loaded with store := { loaded.store with op := .load 0 } }

/-- `loaded` with step 1 live. -/
def atStep1 : State := paused 1 ask .waitConfirm

theorem witness_PlanRequestRefusals :
    loaded.admits .link = true ∧ loaded.plan.steps.length ≤ 3
      ∧ firstFailure [(loading.loadInFlight, .busy), (decide (5 ≠ loading.plan.revision), .stale),
          (decide (loading.plan.steps.length < 3), .noStep), (decide (loading.plan.steps.length = 48), .full),
          (atOrBelowLive 3 loading, .frozen), (decide (acceptRaw cook.raw = none), .range)] = some Result.busy
      ∧ firstFailure [(loaded.loadInFlight, .busy), (decide (4 ≠ loaded.plan.revision), .stale),
          (decide (loaded.plan.steps.length ≤ 2), .noStep), (belowLive 2 loaded, .frozen),
          (decide (acceptRaw cook.raw = none), .range),
          (isLiveIndex 2 loaded
            && decide ((acceptRaw cook.raw).map (·.kind) ≠ (loaded.plan.steps[2]?).map (·.kind)), .frozen)]
          = some Result.stale
      ∧ firstFailure [(atStep1.loadInFlight, .busy), (decide (5 ≠ atStep1.plan.revision), .stale),
          (decide (atStep1.plan.steps.length ≤ 1), .noStep), (atOrBelowLive 1 atStep1, .frozen)] = some Result.frozen
      ∧ firstFailure [(atStep1.loadInFlight, .busy), (decide (5 ≠ atStep1.plan.revision), .stale),
          (atStep1.inRun, .wrongState)] = some Result.wrongState
      ∧ firstFailure [(loading.loadInFlight, .busy), (decide (5 ≠ loading.plan.revision), .stale)] = some Result.busy := by
  decide

theorem witness_InsertAndReplaceStoreTheRecord :
    loaded.admits .link = true ∧ loaded.loadInFlight = false ∧ 5 = loaded.plan.revision
      ∧ (loaded.inRun = true → ∀ l, loaded.engine.live = some l → l.index < 0) ∧ acceptRaw cook.raw = some cook
      ∧ 6 = (if 5 = 65535 then 1 else 5 + 1) ∧ 3 ≤ loaded.plan.steps.length ∧ loaded.plan.steps.length < 48
      ∧ 2 < loaded.plan.steps.length :=
  ⟨by decide, by decide, by decide, fun h => absurd h (by decide), by decide, by decide, by decide, by decide, by decide⟩

/-- A heating record that replaces the live step 0, in each engine state and phase that the statement tells apart, an end
event that adoption finds, and PROBE_FAULT_B asserted as an OFF step takes heat. -/
theorem witness_ReplaceLiveStepOfPausedRunIsAdopted :
    let hot := { cook with heatValue := 100 }
    let cold := { cook with heatMode := .off, heatValue := 0, start := .atEntry }
    let done := { liveAt 0 cook .dwell none with active := 600 }
    let faulty := fun (st : EngineState) => ({ inState st 0 cold .dwell none with
      plan := { loaded.plan with steps := [cold] }
      mon := { Monitor.reset with probeB := { DetState.reset with asserted := true } } } : State)
    [paused 0 cook .dwell, inState .tripped 0 cook .dwell none, running 0 cook .dwell,
        inState .running 0 cook .locking (some .approach), faulty .paused, faulty .tripped].all
        (fun s => s.admits .link && !s.loadInFlight && decide (5 = s.plan.revision) && s.inRun) = true
      ∧ (paused 0 cook .dwell).engine.live = some (liveAt 0 cook .dwell none)
      ∧ (paused 0 cook .dwell).plan.steps[0]? = some cook ∧ acceptRaw hot.raw = some hot ∧ hot.kind = cook.kind
      ∧ hot.stored = hot ∧ 6 = (if 5 = 65535 then 1 else 5 + 1)
      ∧ (checkedPhase hot (adoptedLive cook hot (liveAt 0 cook .dwell none)).phase 0 false false).2 = none
      ∧ (checkedPhase hot (adoptedLive cook hot done).phase done.active false false).2 = some .timer
      ∧ (faulty .paused).plan.steps[0]? = some cold ∧ (faulty .paused).asserts .probeB = true
      ∧ hot.heatMode ≠ .off ∧ cold.heatMode = .off ∧ (faulty .paused).engine.state ≠ .tripped
      ∧ (faulty .tripped).engine.state = .tripped ∧ (paused 0 cook .dwell).heat.modeSafe = true
      ∧ (beginTemp true 0 900 none Heat.reset).modeSafe = true ∧ (faulty .paused).heat.modeSafe = true := by decide

theorem witness_RemoveClearAndSetIdEditThePlan :
    loaded.admits .panel = true ∧ loaded.loadInFlight = false ∧ 5 = loaded.plan.revision
      ∧ 6 = (if 5 = 65535 then 1 else 5 + 1) ∧ 2 < loaded.plan.steps.length
      ∧ (loaded.inRun = true → ∀ l, loaded.engine.live = some l → l.index < 2) ∧ loaded.inRun = false :=
  ⟨by decide, by decide, by decide, by decide, by decide, fun h => absurd h (by decide), by decide⟩

theorem witness_EveryStepKeepsThePlanSafe :
    ({ loaded with pending := [.insertStep 0 .link 0 5 3 cook.raw] }).pending.all Instr.wf = true
      ∧ loaded.plan.safe = true
      ∧ step { loaded with pending := [.uptimeTick 0] } = .next (after (.uptimeTick 0) loaded) := ⟨by decide, by decide, rfl⟩

theorem witness_PastZoneNeverChanges :
    (running 1 ask .waitConfirm).runSafe = true ∧ (running 1 ask .waitConfirm).inRun = true
      ∧ (running 1 ask .waitConfirm).engine.live = some (liveAt 1 ask .waitConfirm none)
      ∧ 0 < (liveAt 1 ask .waitConfirm none).index ∧ Instr.pause 0 .link 0 ≠ .reset
      ∧ exec (.pause 0 .link 0) (running 1 ask .waitConfirm)
          = .next (after (.pause 0 .link 0) (running 1 ask .waitConfirm)) :=
  ⟨by decide, by decide, by decide, by decide, by decide, rfl⟩

/-- A run log with one entry. -/
def logged : State := after (.confirm 0 .panel 0 1) (running 1 ask .waitConfirm)

theorem witness_ReadingRequestsChangeNothing :
    (loaded.port .link).state ≠ .outstanding ∧ loaded.store.starting = false ∧ loaded.plan.steps[2]? = some dose
      ∧ (logged.port .link).state ≠ .outstanding ∧ logged.store.starting = false
      ∧ loaded.store.directory.length = 8 ∧ loaded.store.directory[7]? = some DirEntry.reset
      ∧ loaded.store.saveBuf = none
      ∧ logged.engine.log[0]? = some (logEntryOf (liveAt 1 ask .waitConfirm none) ask .confirm)
      ∧ logged.engine.log.length ≤ 1 := by decide

theorem witness_StatusRecordLayout : loaded.stir.measured < 65536 := by decide

theorem witness_RunRequestRefusals :
    loaded.admits .panel = true
      ∧ firstFailure [(loaded.inRun, .wrongState), (loaded.loadInFlight, .busy), (decide (5 ≠ loaded.plan.revision), .stale),
          (decide (loaded.plan.steps.length ≤ 3), .range)] = some Result.range
      ∧ firstFailure [(decide (loaded.engine.state ≠ .running ∧ loaded.engine.state ≠ .paused), .wrongState)]
          = some Result.wrongState
      ∧ firstFailure [(decide (loaded.engine.state ≠ .paused), .wrongState)] = some Result.wrongState
      ∧ firstFailure [(!loaded.inRun, .wrongState)] = some Result.wrongState
      ∧ atStep1.admits .panel = true
      ∧ firstFailure [(decide (atStep1.engine.state ≠ .running ∧ atStep1.engine.state ≠ .paused), .wrongState),
          (decide (atStep1.liveIndex ≠ some 0), .wrongStep)] = some Result.wrongStep
      ∧ (running 0 cook .dwell).admits .panel = true
      ∧ firstFailure [(decide ((running 0 cook .dwell).engine.state ≠ .running), .wrongState),
          (decide ((running 0 cook .dwell).liveIndex ≠ some 0), .wrongStep),
          (decide ((running 0 cook .dwell).phase = some .locking), .wrongState),
          (!(((running 0 cook .dwell).liveRecord.map (·.exits.confirm)).getD false)
            && !(((running 0 cook .dwell).engine.live.map (·.fallenBack)).getD false), .wrongState)]
          = some Result.wrongState
      ∧ firstFailure [(decide (loaded.engine.state ≠ .tripped), .wrongState),
          (decide (loaded.engine.trips &&& loaded.mon.realTime ≠ 0), .causePresent)] = some Result.wrongState := by decide

/-- `loaded` with a capture pending. -/
def capturing : State := { zeroing with plan := loaded.plan, permit := loaded.permit }

/-- The hypotheses hold at a COOK step, at a PROMPT step and at a DOSE step; the step stays at its entry with the lock not
held, or ends at once with the lock held and BOIL asserted; a capture waits whose request stands on the panel. -/
theorem witness_StartRunEntersTheStartStep :
    let boil := { cook with exits := { cook.exits with boil := true }, start := .atEntry }
    loaded.admits .link = true ∧ loaded.inRun = false ∧ loaded.loadInFlight = false ∧ 5 = loaded.plan.revision
      ∧ loaded.plan.steps[0]? = some cook ∧ loaded.plan.steps[1]? = some ask ∧ loaded.plan.steps[2]? = some dose
      ∧ loaded.permit.state = .armed
      ∧ [Detector.lidOpen, .bowlAbsent, .lockFault, .overheat, .dryPan, .stall, .probeC, .probeB].all
          (fun d => !loaded.asserts d) = true
      ∧ loaded.lockReady = false ∧ lockedShut.lockReady = true
      ∧ entryPhase cook false true false false false = (.locking, none)
      ∧ entryPhase cook false true true true false = (.dwell, none)
      ∧ entryPhase dose false true true false false = (.settle, none)
      ∧ entryPhase ask false true true false false = (.waitConfirm, none)
      ∧ entryPhase boil false true true false true = (.dwell, some .boil)
      ∧ loaded.scale.pendingCapture = none ∧ capturing.admits .link = true ∧ capturing.inRun = false
      ∧ capturing.loadInFlight = false ∧ 5 = capturing.plan.revision ∧ capturing.plan.steps[0]? = some cook
      ∧ capturing.permit.state = .armed ∧ capturing.mon = Monitor.reset
      ∧ capturing.scale.pendingCapture.isSome = true
      ∧ capturing.panel.buffer = some { kind := 0x34, tag := 3 } := by decide

theorem witness_PauseStopsTheRun :
    (running 0 cook .dwell).admits .panel = true ∧ (running 0 cook .dwell).engine.state = .running
      ∧ (paused 0 cook .dwell).admits .panel = true ∧ (paused 0 cook .dwell).engine.state = .paused := by decide

/-- A step that waits in LOCKING; with the lock held one that goes on, one in SETTLE and one that TIMER ends at once; and one
paused in LOCKING. -/
theorem witness_ResumeGoesBackThroughLocking :
    let shut := { paused 0 cook .dwell with lid := lockedShut.lid }
    shut.lockReady = true ∧ (paused 0 cook .dwell).lockReady = false ∧ shut.admits .link = true ∧ shut.runSafe = true
      ∧ (paused 2 dose .settle).runSafe = true ∧ (inState .paused 0 cook .locking (some .approach)).runSafe = true
      ∧ checkedPhase cook .dwell 0 false false = (.dwell, none)
      ∧ checkedPhase cook .dwell 600 false false = (.dwell, some .timer)
      ∧ (paused 1 ask .waitConfirm).runSafe = true ∧ (paused 0 cook .dwell).runSafe = true
      ∧ (paused 0 cook .dwell).admits .link = true ∧ (paused 0 cook .dwell).engine.state = .paused
      ∧ (paused 0 cook .dwell).engine.causes = { request := true, lid := false, permit := false }
      ∧ (paused 0 cook .dwell).engine.live = some (liveAt 0 cook .dwell none)
      ∧ (paused 0 cook .dwell).plan.steps[0]? = some cook
      ∧ [Detector.bowlAbsent, .lockFault, .overheat, .dryPan, .stall, .probeC, .probeB].all
          (fun d => !(paused 0 cook .dwell).asserts d) = true
      ∧ (liveAt 0 cook .dwell none).phase ≠ .waitConfirm := by decide

theorem witness_AbortEndsTheRun :
    (paused 0 cook .dwell).admits .link = true ∧ (paused 0 cook .dwell).inRun = true
      ∧ (paused 0 cook .dwell).engine.live = some (liveAt 0 cook .dwell none)
      ∧ (paused 0 cook .dwell).plan.steps[0]? = some cook := by decide

/-- CONFIRM at step 1 with a step above it, which stays at its entry or, with BOIL asserted, ends at once; SKIP_STEP at step 2
with none above it; and a heated step above it under PROBE_FAULT_B. -/
theorem witness_SkipAndConfirmEndTheStep :
    let boil := { cook with exits := { cook.exits with boil := true }, start := .atEntry }
    let faulty := ({ paused 0 cook .dwell with
      plan := { loaded.plan with steps := [cook, cook] }
      mon := { Monitor.reset with probeB := { DetState.reset with asserted := true } } } : State)
    (running 1 ask .waitConfirm).admits .panel = true
      ∧ (running 1 ask .waitConfirm).engine.live = some (liveAt 1 ask .waitConfirm none)
      ∧ (running 1 ask .waitConfirm).plan.steps[1]? = some ask ∧ (running 1 ask .waitConfirm).engine.state = .running
      ∧ (liveAt 1 ask .waitConfirm none).phase ≠ .locking ∧ ask.exits.confirm = true
      ∧ (running 1 ask .waitConfirm).plan.steps[2]? = some dose ∧ dose.heatMode = .off
      ∧ entryPhase dose false true false false false = (.locking, none)
      ∧ entryPhase dose false false true false false = (.locking, none)
      ∧ entryPhase boil false true true false true = (.dwell, some .boil)
      ∧ (paused 2 dose .dosing).admits .panel = true
      ∧ (paused 2 dose .dosing).engine.live = some (liveAt 2 dose .dosing none)
      ∧ (paused 2 dose .dosing).engine.state = .paused ∧ (paused 2 dose .dosing).plan.steps[3]? = none
      ∧ faulty.admits .panel = true ∧ faulty.plan.steps[0 + 1]? = some cook ∧ faulty.asserts .probeB = true
      ∧ cook.heatMode ≠ .off := by decide

theorem witness_ClearTripLeavesTheRunPaused :
    (inState .tripped 0 cook .dwell none).admits .panel = true
      ∧ (inState .tripped 0 cook .dwell none).engine.state = .tripped
      ∧ (inState .tripped 0 cook .dwell none).engine.trips &&& (inState .tripped 0 cook .dwell none).mon.realTime = 0 := by
  decide

/-- A state that is safe in every way, RUNNING, with a command in front. -/
def safeRun : State := { running 0 cook .dwell with pending := [.timeBaseTick 100000] }

theorem witness_invariants :
    safeRun.plan.safe = true ∧ safeRun.runSafe = true ∧ safeRun.driveSafe = true ∧ safeRun.permitSafe = true
      ∧ safeRun.scale.safe = true ∧ safeRun.notices.safe = true ∧ safeRun.portSafe = true ∧ safeRun.lidSafe = true
      ∧ safeRun.stir.safe = true ∧ safeRun.pending.all Instr.wf = true
      ∧ step safeRun = .next (after (.timeBaseTick 100000) (running 0 cook .dwell)) :=
  ⟨by decide, by decide, by decide, by decide, by decide, by decide, by decide, by decide, by decide, by decide, rfl⟩

/-- An ABORT as a command and in frames that carry no START_RUN. -/
theorem witness_RunLogOnlyGrows :
    exec (.abort 0 .link 0) (running 0 cook .dwell) = .next (after (.abort 0 .link 0) (running 0 cook .dwell))
      ∧ panelFrame [2, 0x23, 9, 0xD1] = some [2, 0x23, 9, 0xD1]
      ∧ LinkRx.completed [0xA5, 2, 0x23, 9, 0xD1] .hunt = [[2, 0x23, 9, 0xD1]]
      ∧ ([2, 0x23, 9, 0xD1] : List Byte).getD 1 0 ≠ 0x20 := ⟨rfl, by decide, by decide, by decide⟩

/-- One tick short of the duration, and at it. -/
theorem witness_TimeBaseTickCounts :
    (running 0 cook .dwell).engine.live = some (liveAt 0 cook .dwell none)
      ∧ (running 0 cook .dwell).plan.steps[0]? = some cook ∧ (running 0 cook .dwell).engine.runClock < 4294967295
      ∧ (running 0 cook .dwell).engine.state = .running ∧ Phase.dwell ∈ [Phase.dwell, .dosing, .waitConfirm]
      ∧ cook.exits.timer = true ∧ cook.duration = some 60
      ∧ ¬ 10 * 60 ≤ (liveAt 0 cook .dwell none).active + 1
      ∧ 10 * 60 ≤ ({ liveAt 0 cook .dwell none with active := 599 } : Live).active + 1 := by decide

theorem witness_SettleDeadlineTakesTheReference :
    ready.phase ≠ some .settle ∧ (running 2 dose .settle).engine.state = .running
      ∧ (running 2 dose .settle).engine.live = some (liveAt 2 dose .settle none)
      ∧ (running 2 dose .settle).plan.steps[2]? = some dose ∧ dose.exits.timer = false
      ∧ ({ dose with exits := { dose.exits with timer := true }, duration := some 0 } : StepRecord).duration = some 0 := by
  decide

/-- A DOSE step in each phase; samples one short of the target, at it and past the overdose limit; the end of a weigh group. -/
theorem witness_DoseStepWeighsAgainstItsReference :
    (running 2 dose .settle).engine.live = some (liveAt 2 dose .settle none)
      ∧ (running 2 dose .settle).plan.steps[2]? = some dose ∧ (running 2 dose .settle).engine.state = .running
      ∧ (paused 2 dose .settle).engine.state ≠ .running ∧ dose.exits.timer = false ∧ dose.target = some 250
      ∧ ({ liveAt 2 dose .dosing none with reference := some 0 } : Live).reference = some 0
      ∧ (2499 : Int) - 0 < 10 * 250 ∧ 10 * 250 ≤ (2500 : Int) - 0
      ∧ (10 * 250 + max (10 * 250 / 10) 50 : Int) < 2751 - 0 ∧ (running 2 dose .dosing).plan.steps[2 + 1]? = none
      ∧ (running 0 cook .dwell).plan.steps[0 + 1]? = some ask
      ∧ (entryPhase ask false true false false false).2 = none
      ∧ (converting (.weigh 0) (running 2 dose .dosing)).conv.state = .weigh 0
      ∧ (converting (.weigh 0) (running 2 dose .dosing)).conv.weighDiscard = false
      ∧ (converting (.weigh 0) (running 2 dose .dosing)).scale.pendingCapture = none
      ∧ (after (.weighGroupEnd 0 0 0 0 0) (converting (.weigh 0) (running 2 dose .dosing))).asserts .bowlAbsent
          = (running 2 dose .dosing).asserts .bowlAbsent := by decide

theorem witness_DetectorsCountInputsInARow :
    (Detector.stall, 200, 100) ∈
      ([(.lidOpen, 3, 10), (.lockFault, 1, 10), (.overheat, 3, 20), (.dryPan, 20, 20), (.boil, 5, 10),
        (.stall, 200, 100), (.probeB, 1, 40), (.probeC, 1, 40), (.overload, 8, 8), (.bowlAbsent, 8, 8),
        (.supplyLow, 10, 10)] : List (Detector × Nat × Nat)) := by decide

/-- One witness for each way a detector trips. -/
theorem witness_TripClassAssertionTripsTheRun :
    Detector.stall ∈ [Detector.lockFault, .overheat, .dryPan, .stall, .probeC]
      ∧ (paused 0 cook .dwell).engine.state = .paused ∧ (running 0 cook .dwell).liveHeated = true
      ∧ (running 0 cook .dwell).engine.state = .running := by decide

/-- A new member of the trip set, one that is in it already, and PROBE_FAULT_B at a heated and at an unheated step. -/
theorem witness_FurtherAssertionsJoinTheTripSet :
    let tripped := inState .tripped 0 cook .dwell none
    Detector.dryPan ∈ [Detector.lockFault, .overheat, .dryPan, .stall, .probeC, .probeB, .bowlAbsent]
      ∧ tripped.engine.state = .tripped ∧ Detector.dryPan ≠ .bowlAbsent ∧ tripped.engine.firstTrip = some .overheat
      ∧ tripped.engine.trips.getLsbD Detector.dryPan.id = false ∧ tripped.engine.trips.getLsbD Detector.overheat.id = true
      ∧ tripped.liveHeated = true ∧ (inState .tripped 2 dose .dosing none).liveHeated = false
      ∧ ready.engine.state = .idle ∧ (paused 0 cook .dwell).engine.state = .paused := by decide

theorem witness_ClearLatchedClearsNamedFlags :
    ready.admits .link = true ∧ (0x0800 : Word16) &&& 0xF800 ≠ 0 ∧ (0x07FF : Word16) &&& 0xF800 = 0 := by decide

/-- Samples that change no detector, the third open and the tenth closed one, and a mismatch 300 ms after the demand. -/
theorem witness_LidSampleFeedsTheDetectors :
    let third : DetState := { DetState.reset with setCount := 2 }
    let tenth : DetState := { DetState.reset with asserted := true, clearCount := 9 }
    let opening := { running 0 cook .dwell with mon := { Monitor.reset with lidOpen := third } }
    (countInput 3 10 .toClear ready.mon.lidOpen).2 = false ∧ (countInput 1 10 .toClear ready.mon.lockFault).2 = false
      ∧ ready.phase ≠ some .locking ∧ third.asserted = false ∧ 2 ≤ third.setCount
      ∧ (running 0 cook .dwell).engine.state = .running ∧ (running 0 cook .dwell).phase ≠ some .waitConfirm
      ∧ (after (.lidSample 0 true true) opening).mon.lockFault.asserted = opening.mon.lockFault.asserted
      ∧ tenth.asserted = true ∧ 9 ≤ tenth.clearCount ∧ (paused 0 cook .dwell).engine.state = .paused
      ∧ (decide (false ≠ decide ((running 0 cook .dwell).lid.demand = .locked))
          && decide (300000 ≤ (running 0 cook .dwell).now + 300000 - (running 0 cook .dwell).lid.demandAt)) = true
      ∧ (running 0 cook .dwell).mon.lockFault.asserted = false := by decide

/-- A step RUNNING in LOCKING behind APPROACH. -/
def locking : State := inState .running 0 cook .locking (some .approach)

theorem witness_LockConfirmationEndsLocking :
    locking.engine.state = .running ∧ locking.engine.live = some (liveAt 0 cook .locking (some .approach))
      ∧ locking.plan.steps[0]? = some cook ∧ Phase.approach ≠ .locking ∧ locking.lid.demand = .locked
      ∧ locking.lid.lidOpen = false ∧ locking.mon.lidOpen.asserted = false ∧ locking.mon.lockFault.asserted = false
      ∧ locking.heat.reached = false ∧ locking.mon.boil.asserted = false
      ∧ (liveAt 0 cook .locking (some .approach)).active < 10 * 60 := by decide

theorem witness_LockIsReleasedOnlyAtRest :
    (running 0 cook .dwell).lidSafe = true
      ∧ exec (.noEdgeTimeout 250000) ready = .next (after (.noEdgeTimeout 250000) ready)
      ∧ ready.lid.demand = .locked ∧ (after (.noEdgeTimeout 250000) ready).lid.demand = .unlocked :=
  ⟨by decide, rfl, by decide, by decide⟩

/-- ARMED 1,000 ms after its last renewal, and one microsecond before. -/
theorem witness_PermitArmsRenewsAndLapses :
    ready.admits .panel = true ∧ ready.permit.state ≠ .armed ∧ (0xA5 : Byte) ≠ 0x5A
      ∧ loaded.admits .panel = true ∧ loaded.permit.state = .armed ∧ (0xA5 : Byte) = loaded.permit.key
      ∧ loaded.permit.first = true ∧ (0x00 : Byte) ≠ loaded.permit.key ∧ loaded.permit.renewal = some 0
      ∧ 1000000 ≤ (loaded.now + 1000000) - 0 ∧ (loaded.now + 999999) - 0 < 1000000 := by decide

theorem witness_PermitTimersLapseAndCallForRenewal :
    ready.permit.state ≠ .armed ∧ loaded.permit.state = .armed ∧ ready.permit.due = none
      ∧ (armPermit 0).due = some 1500000 := by decide

theorem witness_ConverterTimersStartItsWork :
    ready.conv.freeTimer = some 25000 ∧ ({ ready.conv with freeTimer := none } : Converter).freeTimer = none := by decide

theorem witness_SenseConversionEndsAndIsDelivered :
    4095 < 4096 ∧ ready.conv.state = .idle ∧ (converting (.sense .vs) ready).conv.state = .sense .vs := by decide

theorem witness_WeighGroupEndsAndIsWeighed :
    ready.conv.state = .idle ∧ (converting (.weigh 0) ready).conv.state = .weigh 0
      ∧ (converting (.weigh 0) ready).conv.weighDiscard = false ∧ ready.conv.weighDiscard = true
      ∧ ready.scale.pendingTare = none ∧ ready.scale.pendingCapture = none ∧ ready.scale.cal.span = 0
      ∧ chainScale.cal.span ≠ 0 ∧ ready.engine.state ≠ .running
      ∧ (after (.weighGroupEnd 0 0 0 0 0) (converting (.weigh 0) ready)).asserts .overload = ready.asserts .overload
      ∧ (after (.weighGroupEnd 0 0 0 0 0) (converting (.weigh 0) ready)).asserts .bowlAbsent
          = ready.asserts .bowlAbsent := by decide

/-- A scale READY with one level, none and four. -/
theorem witness_TareRequestsChangeTheStack :
    let at' := fun (tare : List Int) => ({ ready with scale := { chainScale with tare := tare } } : State)
    (at' [5]).admits .link = true ∧ (at' [5]).scale.status ≠ .uncalibrated ∧ (at' [5, 4, 3]).scale.tare.length < 4
      ∧ ((at' [5]).scale.pendingTare.isSome || (at' [5]).scale.pendingCapture.isSome) = false
      ∧ (at' [5]).scale.tare = 5 :: []
      ∧ firstFailure [(decide ((at' [5]).scale.status = .uncalibrated), .wrongState), (false, .busy),
          (decide (4 ≤ (at' [5, 4, 3, 2]).scale.tare.length), .full)] = some Result.full
      ∧ firstFailure [(false, .busy), (decide ((at' []).scale.tare = []), .range)] = some Result.range
      ∧ taring.scale.pendingTare.isSome = true ∧ taring.admits .panel = true := by decide

theorem witness_RestartsAndDeadlinesEndWhatWaits :
    taring.portSafe = true ∧ taring.admits .panel = true
      ∧ taring.scale.pendingTare = some { port := .link, deadline := 3000000 }
      ∧ (taring.port .link).buffer = some { kind := 0x30, tag := 7 } ∧ ready.portSafe = true
      ∧ ready.scale.pendingTare = none ∧ ready.scale.pendingCapture = none ∧ zeroing.portSafe = true
      ∧ zeroing.scale.pendingCapture
          = some { body := .zero 9 (-12) 8 0, sum := 840003, count := 7, deadline := 5000000 }
      ∧ zeroing.panel.buffer = some { kind := 0x34, tag := 3 } := by decide

/-- Body values at the ends of their ranges; the check that fails and no check. -/
theorem witness_CaptureRequestsWaitForSamples :
    ready.admits .panel = true
      ∧ decide (65535 ≤ 65535 ∧ (-500 : Int) ≤ -500 ∧ (-500 : Int) ≤ 500 ∧ (-50 : Int) ≤ 50 ∧ (50 : Int) ≤ 50) = true
      ∧ firstFailure [(ready.inRun, .wrongState),
          (ready.scale.pendingTare.isSome || ready.scale.pendingCapture.isSome, .busy), (!true, .range),
          (decide (ready.stir.measured ≠ 0), .unstable)] = none
      ∧ firstFailure [(ready.inRun, .wrongState),
          (ready.scale.pendingTare.isSome || ready.scale.pendingCapture.isSome, .busy),
          (!decide (1000 ≤ 999 ∧ 999 ≤ 100000 ∧ 9 ≤ 65535), .range), (decide (ready.stir.measured ≠ 0), .unstable)]
          = some Result.range := by decide

/-- A tare that completes at this sample, and one that does not (its window is short). -/
theorem witness_StableSampleCompletesTheTare :
    let s := converting (.weigh 0) { taring with conv := { Converter.reset with tc := 640 } }
    s.conv.state = .weigh 0 ∧ s.conv.weighDiscard = false ∧ s.scale.cal.span ≠ 0
      ∧ s.scale.pendingTare = some { port := .link, deadline := 3000000 } ∧ s.scale.pendingCapture = none
      ∧ (s.port .link).buffer = some { kind := 0x30, tag := 7 }
      ∧ (after (.weighGroupEnd 0 101250 98730 100410 99610) s).scale.stable = true
      ∧ (after (.weighGroupEnd 0 101250 98730 100410 99610)
          { s with scale := { s.scale with window := [] } }).scale.stable = false := by decide

theorem witness_EighthSampleCompletesTheCapture :
    zeroing.conv.state = .weigh 0 ∧ zeroing.conv.weighDiscard = false ∧ zeroing.scale.pendingTare = none
      ∧ zeroing.scale.pendingCapture
          = some { body := .zero 9 (-12) 8 0, sum := 840003, count := 7, deadline := 5000000 }
      ∧ zeroing.panel.buffer = some { kind := 0x34, tag := 3 }
      ∧ ¬ (zeroing.stir.measured ≠ 0 ∨ zeroing.stir.ramped ≠ 0)
      ∧ spanning.scale.pendingCapture
          = some { body := .span 20000 9, sum := 2240000, count := 7, deadline := 5000000 }
      ∧ 1000 ≤ roundDiv (2240000 + 320000) 8 - spanning.scale.cal.zero
      ∧ roundDiv ((20000 : Int) * 65536) (roundDiv (2240000 + 320000) 8 - spanning.scale.cal.zero).toNat ≤ 65535 := by
  decide

theorem witness_TachEdgesMeasureTheSpeed :
    ready.stir.noEdge = some 250000 ∧ ({ ready.stir with noEdge := none } : Stir).noEdge = none
      ∧ ([5000] : List Nat).sum ≠ 0
      ∧ [5000] = (match ({ Stir.reset with lastEdge := some 0 } : Stir).lastEdge with
          | some at' => (if ready.stir.ring.length < 12 then ready.stir.ring else ready.stir.ring.drop 1) ++ [5000 - at']
          | none => ready.stir.ring) := by decide

/-- No wait, a wait that goes on and one that is due; a segment that ends; STALL a handover from changing. -/
theorem witness_ControlUpdateDrivesTheBlade :
    let turning : Stir := { Stir.reset with wait := true, ramped := 40 }
    let due : Stir := { Stir.reset with wait := true, stopped := true }
    (running 0 cook .dwell).engine.state = .running ∧ (running 0 cook .dwell).phase = some .dwell
      ∧ (running 0 cook .dwell).stir.wait = false
      ∧ (turning.wait && decide (turning.ramped = 0) && turning.stopped) = false
      ∧ (due.wait && decide (due.ramped = 0) && due.stopped) = true ∧ due.seg < 4
      ∧ ({ Stir.reset with pattern := .knead, onTime := 3, offTime := 2, seg := 1, elapsed := 199 } : Stir).pattern
          ≠ .continuous
      ∧ 2 * 100 ≤ 199 + 1
      ∧ (running 0 cook .dwell).mon.stall.asserted = false ∧ (running 0 cook .dwell).mon.stall.setCount + 1 < 200 := by
  decide

theorem witness_DriveTurnsOnlyAtRest :
    let s := { running 0 cook .dwell with stir := { Stir.reset with dir := .reverse, wait := true, stopped := true } }
    s.stir.safe = true ∧ exec (.controlUpdate 0) s = .next (after (.controlUpdate 0) s)
      ∧ Instr.controlUpdate 0 ≠ .reset ∧ (after (.controlUpdate 0) s).stir.drive ≠ s.stir.drive :=
  ⟨by decide, rfl, by decide, by decide⟩

/-- A TEMP step 2.5 °C short of its target of 100 °C: 975 against a setpoint of 1,000 asks for 50 half per cent. -/
def heating : State :=
  converting (.sense .tb) { running 0 cook .approach with heat :=
    { Heat.reset with mode := .temp, sp := some 1000, target := some 1000, dir := some .rising } }

/-- The same code short of the target, and within 1 °C of one of 98 °C, in APPROACH with TEMP enabled and not. -/
theorem witness_TbDeliveryRunsTheHeatLoop :
    heating.conv.state = .sense .tb ∧ heating.conv.senseDiscard = false ∧ 20 ≤ 1943 ∧ 1943 ≤ 4075
      ∧ (975 : Int) = ((1943 * 2900 / 4096 : Nat) : Int) - 400 + heating.scale.cal.offB ∧ (975 : Int) ≤ 1750
      ∧ heating.mon.probeB.asserted = false ∧ implausibleCount heating.conv.tbHist < 3
      ∧ heating.mon.dryPan.asserted = false ∧ heating.heat.reached = false ∧ heating.engine.state = .running
      ∧ heating.heat.sp = some 1000 ∧ (50 : Int) = 2 * (1000 - 975) + heating.heat.integral / 8
      ∧ ((50 : Nat) : Int) = clampInt 0 200 50 ∧ ¬(1000 - 10 ≤ (975 : Int)) ∧ 980 - 10 ≤ (975 : Int)
      ∧ heating.engine.live = some (liveAt 0 cook .approach none) ∧ cook.exits.temp = false
      ∧ endInPhase cook .dwell 0 true false = none ∧ endInPhase cook .dwell 600 true false = some .timer := by decide

theorem witness_HeatTimersTakeTheirEffect :
    Heat.reset.frameSafe = true ∧ ({ Heat.reset with slot := 98 } : Heat).slot + 1 < Heat.reset.frameN
      ∧ (beginTemp true 0 1000 (some 5) { Heat.reset with tb := 240 }).countdown = .running 6000000
      ∧ (beginTemp true 0 1000 (some 5) { Heat.reset with tb := 240 }).sp = some 240 := by decide

theorem witness_NoticeRequestsAndUptime :
    loaded.admits .link = true ∧ loaded.notices.queue .link = []
      ∧ (post (.permitLapsed .expired) loaded).notices.queue .link
          = { data := .permitLapsed .expired, count := 1, first := 0, last := 0 } :: [] := by decide

theorem witness_PostingKeepsOneNoticeOfAKind :
    loaded.notices.safe = true ∧ (0xFFFE : Word16).getLsbD (Notice.engineState .idle none 0).code = false
      ∧ (0x8000 : Word16).getLsbD (Notice.tareChanged 0 none .clear none).code = true
      ∧ (post (.permitLapsed .expired) loaded).notices.safe = true
      ∧ (post (.permitLapsed .expired) loaded).notices.panelQ
          = [] ++ { data := .permitLapsed .expired, count := 1, first := 0, last := 0 } :: [] := by decide

theorem witness_LibraryRequestsStartTheirOperation :
    let entry := loaded.store.directory.getD 7 { valid := false, planId := 0, count := 0, saves := 0 }
    loaded.admits .panel = true ∧ 7 ≤ 7 ∧ decide (loaded.store.op ≠ .idle) = false ∧ entry.saves < 50000
      ∧ loaded.inRun = false
      ∧ firstFailure [(decide (7 < 8), .range), (false, .busy), (decide (50000 ≤ entry.saves), .worn)] = some Result.range
      ∧ firstFailure [(decide (7 < 7), .range), (loaded.inRun, .wrongState), (false, .busy), (!entry.valid, .emptySlot)]
          = some Result.emptySlot
      ∧ firstFailure [(decide (7 < 7), .range), (decide (loading.store.op ≠ .idle), .busy)] = some Result.busy
      ∧ firstFailure [(atStep1.inRun, .wrongState), (false, .busy)] = some Result.wrongState
      ∧ ({ entry with valid := true } : DirEntry).valid = true := by decide

/-- The last word write of an ERASE, and of a SAVE, in flight. -/
theorem witness_WordWritesAreMadeInOrder :
    let w : WordWrite := { addr := 4113, value := 3, role := .counter }
    let s := { ready with store := { ready.store with op := .save 7 [w] } }
    ready.store.op.writing = none ∧ s.store.array.wf = true ∧ w.addr < 4114 ∧ 7 < 8 ∧ s.store.directory.length = 8
      ∧ s.store.op ∈ [StoreOp.save 7 [w], .erase 7 [w], .writeCal [w]] := by decide

/-- A slot written in full with `count` records' words after its header, its origin word and a right check. -/
def slotOf (count origin : Word16) (records : List Word16) : Memory :=
  let words := [1, count, 0, origin, 1 + count + origin + wordSum records, 0, 0] ++ records
  (writesFrom 1 words).foldl (fun m w => Memory.write m w.addr w.value) [(0, 0x3C96)]

/-- Loads that end with EMPTY_SLOT, with CORRUPT for a wrong check, a wrong origin and a record that fails R5, and with OK. -/
theorem witness_ScansAndLoadsEnd :
    let holding := fun (m : Memory) => { loading with store := { loading.store with array := m } }
    let ends := fun (m : Memory) => (after (.loadReadEnd 0) (holding m)).notices.linkQ.map (·.data)
    ready.store.op ≠ .scan ∧ State.reset.store.op = .scan ∧ loading.store.op = .load 0
      ∧ Memory.read loading.store.array (512 * 0) ≠ 0x3C96
      ∧ ends [] = [.libraryDone .load (some 0) .emptySlot none]
      ∧ ends (Memory.write (slotOf 0 0 []) 5 7) = [.libraryDone .load (some 0) .corrupt none]
      ∧ ends (slotOf 0 3 []) = [.libraryDone .load (some 0) .corrupt none]
      ∧ ends (slotOf 1 2 (List.replicate 10 0)) = [.libraryDone .load (some 0) .corrupt none]
      ∧ ends (slotOf 1 2 (stepWords cook))
          = [.planChanged 6 .store 1, .libraryDone .load (some 0) .ok (some 6)] := by decide

/-- The snapshot of a plan of one step, saved into slot 7 of an erased array. -/
theorem witness_SaveThenLoadRestoresThePlan :
    let x : Snapshot := { planId := 65535, revision := 5, origin := .link, steps := [cook] }
    7 < 8 ∧ Memory.wf [] = true ∧ x.steps.length ≤ 48 ∧ x.steps.all StepRecord.legal = true ∧ x.planId < 65536
      ∧ 2 ≤ 2 ∧ 2 < (saveWrites 7 0 x).length := by decide

/-- A request that is discarded, one that meets the start-up, the three kinds of panel frame, and link frames. -/
theorem witness_PortsCheckBeforeTheOwner :
    (taring.port .link).state = .outstanding ∧ (State.reset.port .link).state ≠ .outstanding
      ∧ State.reset.store.starting = true ∧ Request.pause ≠ .readStatus ∧ ready.store.starting = false
      ∧ (kindRow (Request.permit 0).kind).map (·.panelOnly) = some true ∧ zeroing.panel.state = .outstanding
      ∧ ready.panel.state ≠ .outstanding ∧ kindRow 0x7F = none
      ∧ kindRow 0x21 = some { length := 0, panelOnly := false } ∧ ([1] : List Byte).length ≠ 0
      ∧ ([2, 0x21, 9, 0xD3] : List Byte) = (byte (2 + 0) ++ [0x21, 9] ++ []) ++ [0xFF - byteSum (byte (2 + 0) ++ [0x21, 9] ++ [])]
      ∧ byteSum (([2, 0x21, 9, 0xD4] : List Byte).take 4) ≠ 0xFF ∧ ready.rx = .hunt
      ∧ taring.link.state = .outstanding ∧ ready.link.state ≠ .outstanding
      ∧ kindRow 0x40 = some { length := 1, panelOnly := true }
      ∧ ([0xA5, 2, 0x21, 9, 0xD3] : List Byte) = 0xA5 :: (byte (2 + 0) ++ [0x21, 9] ++ [])
          ++ [0xFF - byteSum (byte (2 + 0) ++ [0x21, 9] ++ [])] := by decide

/-- A reply waiting on each port, and a receiver with a frame begun and one about to end. -/
theorem witness_PortEventsTakeTheirEffect :
    let s := after (.pause 0 .link 1) (after (.pause 0 .panel 1) (running 0 cook .dwell))
    s.panel.state = .replyReady ∧ s.panel.reply.isSome = true ∧ s.link.reply.isSome = true
      ∧ ready.panel.state ≠ .replyReady ∧ ready.link.reply = none ∧ ready.rx = .hunt
      ∧ ({ ready with rx := .receiving [] } : State).rx = .receiving []
      ∧ ({ ready with rx := .receiving (3 :: [0x24]) } : State).rx = .receiving ((3 : Byte) :: [0x24])
      ∧ ([0x24] : List Byte).length + 2 < (3 : Byte).toNat + 2
      ∧ (2 : Byte).toNat + 2 ≤ ([0x21, 9] : List Byte).length + 2
      ∧ byteSum ((2 : Byte) :: [0x21, 9] ++ [0xD4]) ≠ 0xFF ∧ Request.pause.wf = true
      ∧ Request.pause.frame 9 = [2, 0x21, 9] ++ [0xD3] ∧ Request.pause.frame 9 = [2] ++ [0x21, 9, 0xD3]
      ∧ ([0x21, 9] : List Byte).length = (2 : Byte).toNat := by decide

/-- R189: the check byte of a PAUSE, arriving by itself, pauses the run. -/
theorem test_link_last_byte :
    replyOn .link (after (.linkByteReceived 0 0xD3) { running 0 cook .dwell with rx := .receiving [2, 0x21, 9] })
      = some (.ok, false, false, []) := by decide

theorem witness_ResetLeavesTheResetValues : (running 0 cook .dwell).store.array.wf = true := by decide

end Sys2Proof.Tests
end

section
/-! PROOFS. Request commands: a request command is its request arriving on its port, the reply over what its owner saw, and
the statements about single plan requests and reading requests. -/

namespace Sys2Proof.Machine

/-! ### A request command -/

/-- R195: a step record has twenty bytes. -/
theorem rawBytes_length (raw : RawStep) : (rawBytes raw).length = 20 := by
  simp [rawBytes, byte, le16]

theorem insertStep_body_length (rev idx : Nat) (raw : RawStep) : (Request.insertStep rev idx raw).body.length = 23 := by
  simp [Request.body, rawBytes_length, byte, le16]

theorem replaceStep_body_length (rev idx : Nat) (raw : RawStep) :
    (Request.replaceStep rev idx raw).body.length = 23 := by
  simp [Request.body, rawBytes_length, byte, le16]

/-- R194: the requests that the panel alone may carry. -/
def panelRequestOnly : Request → Bool
  | .clearTrip => true
  | .calZero _ _ _ _ => true
  | .calSpan _ _ => true
  | .permit _ => true
  | .libWriteCal => true
  | _ => false

theorem kindRow_kind_length (r : Request) : (kindRow r.kind).map (·.length) = some r.body.length := by
  cases r
  case insertStep rev idx raw => rw [insertStep_body_length]; rfl
  case replaceStep rev idx raw => rw [replaceStep_body_length]; rfl
  all_goals rfl

theorem kindRow_kind_panelOnly (r : Request) : (kindRow r.kind).map (·.panelOnly) = some (panelRequestOnly r) := by
  cases r <;> rfl

/-- R194: the row of a request's kind. -/
theorem kindRow_kind (r : Request) :
    kindRow r.kind = some { length := r.body.length, panelOnly := panelRequestOnly r } := by
  obtain ⟨row, hrow, hlen⟩ := Option.map_eq_some_iff.mp (kindRow_kind_length r)
  have honly := kindRow_kind_panelOnly r
  rw [hrow, Option.map_some, Option.some_inj] at honly
  rw [hrow, ← hlen, ← honly]

/-- R192: a request command is its request arriving on its port. -/
theorem exec_command (r : Request) (dt : Nat) (p : Port) (tag : Byte) (s : State) :
    exec (r.command dt p tag) s
      = .next (takeRequest p r.kind tag r.body.length (serveRequest p r) (s.after dt)) := by
  cases r
  case insertStep rev idx raw => rw [insertStep_body_length]; rfl
  case replaceStep rev idx raw => rw [replaceStep_body_length]; rfl
  all_goals rfl

/-- R192: an admitted request command that either port may carry is concluded with its owner's answer. -/
theorem exec_admitted {r : Request} {p : Port} {s : State} (h : s.admits p = true)
    (hk : panelRequestOnly r = false) (dt : Nat) (tag : Byte) :
    exec (r.command dt p tag) s
      = .next (conclude p r.kind tag (serveRequest p r (heldState p r.kind tag (s.after dt)))) := by
  rw [exec_command, takeRequest_open h (hk ▸ kindRow_kind r)]

/-- A reply formed over an edited plan does not see the request that its port held. -/
theorem formReply_edited_held (p : Port) (k t : Byte) (a : Answer) (n : Notice) (x : Plan) (s : State) :
    formReply p k t a (post n ((heldState p k t s).withPlan x)) = formReply p k t a (post n (s.withPlan x)) := by
  rw [heldState_eq]
  cases p <;> rfl

@[simp] theorem planBody_held (p : Port) (k t : Byte) (s : State) : planBody (heldState p k t s) = planBody s := by
  simp [planBody]

@[simp] theorem planBody_after (s : State) (dt : Nat) : planBody (s.after dt) = planBody s := rfl

@[simp] theorem atOrBelowLive_held (i : Nat) (p : Port) (k t : Byte) (s : State) :
    atOrBelowLive i (heldState p k t s) = atOrBelowLive i s := by simp [atOrBelowLive]

@[simp] theorem belowLive_held (i : Nat) (p : Port) (k t : Byte) (s : State) :
    belowLive i (heldState p k t s) = belowLive i s := by simp [belowLive]

@[simp] theorem isLiveIndex_held (i : Nat) (p : Port) (k t : Byte) (s : State) :
    isLiveIndex i (heldState p k t s) = isLiveIndex i s := by simp [isLiveIndex]

@[simp] theorem atOrBelowLive_after (i dt : Nat) (s : State) : atOrBelowLive i (s.after dt) = atOrBelowLive i s := rfl
@[simp] theorem belowLive_after (i dt : Nat) (s : State) : belowLive i (s.after dt) = belowLive i s := rfl
@[simp] theorem isLiveIndex_after (i dt : Nat) (s : State) : isLiveIndex i (s.after dt) = isLiveIndex i s := rfl

/-! ### Refused plan requests (O5) -/

theorem firstFailure_cons {b : Bool} {r res : Result} {rest : List (Bool × Result)} :
    firstFailure ((b, r) :: rest) = some res ↔ (b = true ∧ r = res) ∨ (b = false ∧ firstFailure rest = some res) := by
  cases b <;> simp [firstFailure]

theorem firstFailure_nil {res : Result} : ¬ firstFailure [] = some res := by simp [firstFailure]

/-- R10: a refused plan edit is answered with its result and the plan's revision and step count, and changes nothing else. -/
theorem exec_planRefused {r : Request} {p : Port} {tag : Byte} {dt : Nat} {res : Result} {s : State}
    (h : s.admits p = true) (hk : panelRequestOnly r = false)
    (hr : ∀ k t, serveRequest p r (heldState p k t (s.after dt)) = planRefused res (heldState p k t (s.after dt))) :
    exec (r.command dt p tag) s = .next (formReply p r.kind tag
      { result := res, clamped := false, body := planBody s } (s.after dt)) := by
  rw [exec_admitted h hk, hr, planRefused, conclude_answered, formReply_held, planBody_held, planBody_after]

theorem serveReadStep_refused {idx : Nat} {s : State} (h : s.plan.steps.length ≤ idx) :
    serveReadStep idx s = planRefused .noStep s := by
  simp [serveReadStep, h]

theorem serveInsertStep_refused {p : Port} {rev idx : Nat} {raw : RawStep} {res : Result} {s : State}
    (h : firstFailure [(s.loadInFlight, .busy), (decide (rev ≠ s.plan.revision), .stale),
      (decide (s.plan.steps.length < idx), .noStep), (decide (s.plan.steps.length = 48), .full),
      (atOrBelowLive idx s, .frozen), (decide (acceptRaw raw = none), .range)] = some res)
    (hlen : s.plan.steps.length ≤ 48) : serveInsertStep p rev idx raw s = planRefused res s := by
  have hfull : (48 ≤ s.plan.steps.length) ↔ s.plan.steps.length = 48 := by omega
  simp only [firstFailure_cons, firstFailure_nil, decide_eq_true_eq, decide_eq_false_iff_not, not_not] at h
  unfold serveInsertStep
  simp only [hfull]
  rcases h with ⟨hb, rfl⟩ | ⟨hb, ⟨hr, rfl⟩ | ⟨hr, ⟨hi, rfl⟩ | ⟨hi, ⟨hl, rfl⟩ | ⟨hl, ⟨hf, rfl⟩ | ⟨hf, ⟨ha, rfl⟩ | h⟩⟩⟩⟩⟩
  · simp [hb]
  · simp [hb, hr]
  · simp [hb, hr, hi]
  · simp [hb, hr, hl, show ¬ 48 < idx from hl ▸ hi]
  · simp [hb, hr, not_lt.mp hi, hl, hf]
  · simp [hb, hr, not_lt.mp hi, hl, hf, ha]
  · exact absurd h.2 id

theorem serveReplaceStep_refused {p : Port} {rev idx : Nat} {raw : RawStep} {res : Result} {s : State}
    (h : firstFailure [(s.loadInFlight, .busy), (decide (rev ≠ s.plan.revision), .stale),
      (decide (s.plan.steps.length ≤ idx), .noStep), (belowLive idx s, .frozen), (decide (acceptRaw raw = none), .range),
      (isLiveIndex idx s && decide ((acceptRaw raw).map (·.kind) ≠ (s.plan.steps[idx]?).map (·.kind)), .frozen)]
        = some res) : serveReplaceStep p rev idx raw s = planRefused res s := by
  simp only [firstFailure_cons, firstFailure_nil, decide_eq_true_eq, decide_eq_false_iff_not, not_not, not_le] at h
  unfold serveReplaceStep
  rcases h with ⟨hb, rfl⟩ | ⟨hb, ⟨hr, rfl⟩ | ⟨hr, ⟨hi, rfl⟩ | ⟨hi, ⟨hf, rfl⟩ | ⟨hf, ⟨ha, rfl⟩ | ⟨ha, ⟨hk, rfl⟩ | h⟩⟩⟩⟩⟩
  · simp [hb]
  · simp [hb, hr]
  · simp [hb, hr, hi]
  · simp [hb, hr, hi, hf]
  · simp [hb, hr, hi, hf, ha]
  · obtain ⟨r, hacc⟩ := Option.ne_none_iff_exists'.mp ha
    rw [List.getElem?_eq_getElem hi, hacc] at hk
    simp at hk
    simp [hb, hr, hi, hf, hacc, hk]
  · exact absurd h.2 id

theorem serveRemoveStep_refused {p : Port} {rev idx : Nat} {res : Result} {s : State}
    (h : firstFailure [(s.loadInFlight, .busy), (decide (rev ≠ s.plan.revision), .stale),
      (decide (s.plan.steps.length ≤ idx), .noStep), (atOrBelowLive idx s, .frozen)] = some res) :
    serveRemoveStep p rev idx s = planRefused res s := by
  simp only [firstFailure_cons, firstFailure_nil, decide_eq_true_eq, decide_eq_false_iff_not, not_not] at h
  unfold serveRemoveStep
  rcases h with ⟨hb, rfl⟩ | ⟨hb, ⟨hr, rfl⟩ | ⟨hr, ⟨hi, rfl⟩ | ⟨hi, ⟨hf, rfl⟩ | h⟩⟩⟩
  · simp [hb]
  · simp [hb, hr]
  · simp [hb, hr, hi]
  · simp [hb, hr, hi, hf]
  · exact absurd h.2 id

theorem serveClearPlan_refused {p : Port} {rev : Nat} {res : Result} {s : State}
    (h : firstFailure [(s.loadInFlight, .busy), (decide (rev ≠ s.plan.revision), .stale), (s.inRun, .wrongState)]
      = some res) : serveClearPlan p rev s = planRefused res s := by
  simp only [firstFailure_cons, firstFailure_nil, decide_eq_true_eq, decide_eq_false_iff_not, not_not] at h
  unfold serveClearPlan
  rcases h with ⟨hb, rfl⟩ | ⟨hb, ⟨hr, rfl⟩ | ⟨hr, ⟨hi, rfl⟩ | h⟩⟩
  · simp [hb]
  · simp [hb, hr]
  · simp [hb, hr, hi]
  · exact absurd h.2 id

theorem serveSetPlanId_refused {p : Port} {rev planId : Nat} {res : Result} {s : State}
    (h : firstFailure [(s.loadInFlight, .busy), (decide (rev ≠ s.plan.revision), .stale)] = some res) :
    serveSetPlanId p rev planId s = planRefused res s := by
  simp only [firstFailure_cons, firstFailure_nil, decide_eq_true_eq, decide_eq_false_iff_not, not_not] at h
  unfold serveSetPlanId
  rcases h with ⟨hb, rfl⟩ | ⟨hb, ⟨hr, rfl⟩ | h⟩
  · simp [hb]
  · simp [hb, hr]
  · exact absurd h.2 id

/-- Settles O5: the first failing check of each plan request, read off the request's own chain of checks. -/
theorem planRequestRefusals : Obligations.PlanRequestRefusals := by
  intro dt p tag rev idx planId raw res s h
  refine ⟨fun hi => ?_, fun hf hlen => ?_, fun hf => ?_, fun hf => ?_, fun hf => ?_, fun hf => ?_⟩
  · exact exec_planRefused (r := .readStep idx) h rfl fun _ _ => serveReadStep_refused (by simpa using hi)
  · exact exec_planRefused (r := .insertStep rev idx raw) h rfl fun _ _ =>
      serveInsertStep_refused (by simpa using hf) (by simpa using hlen)
  · exact exec_planRefused (r := .replaceStep rev idx raw) h rfl fun _ _ => serveReplaceStep_refused (by simpa using hf)
  · exact exec_planRefused (r := .removeStep rev idx) h rfl fun _ _ => serveRemoveStep_refused (by simpa using hf)
  · exact exec_planRefused (r := .clearPlan rev) h rfl fun _ _ => serveClearPlan_refused (by simpa using hf)
  · exact exec_planRefused (r := .setPlanId rev planId) h rfl fun _ _ => serveSetPlanId_refused (by simpa using hf)

/-! ### Accepted plan edits (O6, O8) -/

/-- R10, R192: an accepted plan edit, with a reply that does not depend on what its port holds. -/
theorem exec_edited {r : Request} {p : Port} {tag : Byte} {dt : Nat} {a : Answer} {n : Notice} {x : Plan} {s : State}
    (h : s.admits p = true) (hk : panelRequestOnly r = false)
    (hr : ∀ k t, serveRequest p r (heldState p k t (s.after dt))
      = (post n ((heldState p k t (s.after dt)).withPlan x), some a)) :
    exec (r.command dt p tag) s = .next (formReply p r.kind tag a (post n ((s.after dt).withPlan x))) := by
  rw [exec_admitted h hk, hr, conclude_answered, formReply_edited_held]

/-- R11: an index above the live one of every run is not at or below it. -/
theorem atOrBelowLive_of_above {idx : Nat} {s : State}
    (h : s.inRun = true → ∀ l, s.engine.live = some l → l.index < idx) : atOrBelowLive idx s = false := by
  unfold atOrBelowLive State.liveIndex
  cases hrun : s.inRun
  · rfl
  · cases hl : s.engine.live with
    | none => rfl
    | some l => simpa using h hrun l hl

theorem belowLive_of_above {idx : Nat} {s : State}
    (h : s.inRun = true → ∀ l, s.engine.live = some l → l.index < idx) : belowLive idx s = false := by
  unfold belowLive State.liveIndex
  cases hrun : s.inRun
  · rfl
  · cases hl : s.engine.live with
    | none => rfl
    | some l => simpa using (h hrun l hl).le

theorem isLiveIndex_of_above {idx : Nat} {s : State}
    (h : s.inRun = true → ∀ l, s.engine.live = some l → l.index < idx) : isLiveIndex idx s = false := by
  unfold isLiveIndex State.liveIndex
  cases hrun : s.inRun
  · rfl
  · cases hl : s.engine.live with
    | none => rfl
    | some l => simpa using (h hrun l hl).ne

theorem serveInsertStep_accepted {p : Port} {rev idx : Nat} {raw : RawStep} {r : StepRecord} {s : State}
    (hload : s.loadInFlight = false) (hrev : rev = s.plan.revision) (hidx : idx ≤ s.plan.steps.length)
    (hlen : s.plan.steps.length < 48) (hf : atOrBelowLive idx s = false) (hr : acceptRaw raw = some r) :
    serveInsertStep p rev idx raw s
      = (acceptEdit p s.plan.planId (insertAt idx r.stored s.plan.steps) s,
         some (stepAccepted r (acceptEdit p s.plan.planId (insertAt idx r.stored s.plan.steps) s))) := by
  simp [serveInsertStep, hload, hrev, not_lt.mpr hidx, not_le.mpr hlen, hf, hr]

theorem serveReplaceStep_accepted {p : Port} {rev idx : Nat} {raw : RawStep} {old r : StepRecord} {s : State}
    (hload : s.loadInFlight = false) (hrev : rev = s.plan.revision) (hold : s.plan.steps[idx]? = some old)
    (hf : belowLive idx s = false) (hr : acceptRaw raw = some r) (hk : isLiveIndex idx s = true → r.kind = old.kind) :
    serveReplaceStep p rev idx raw s
      = (replaceAt p idx old r.stored s, some (stepAccepted r (replaceAt p idx old r.stored s))) := by
  have hk' : ¬ (isLiveIndex idx s = true ∧ r.kind ≠ old.kind) := fun hc => hc.2 (hk hc.1)
  simp only [serveReplaceStep, hload, hrev, hold, hf, hr, hk', if_false, ne_eq, not_true_eq_false, Bool.false_eq_true]

theorem replaceAt_of_notLive {p : Port} {idx : Nat} {old r : StepRecord} {s : State} (h : isLiveIndex idx s = false) :
    replaceAt p idx old r s = acceptEdit p s.plan.planId (s.plan.steps.set idx r) s := by
  simp [replaceAt, h]

theorem serveRemoveStep_accepted {p : Port} {rev idx : Nat} {s : State}
    (hload : s.loadInFlight = false) (hrev : rev = s.plan.revision) (hidx : idx < s.plan.steps.length)
    (hf : atOrBelowLive idx s = false) :
    serveRemoveStep p rev idx s
      = (acceptEdit p s.plan.planId (removeAt idx s.plan.steps) s,
         some (okWith (planBody (acceptEdit p s.plan.planId (removeAt idx s.plan.steps) s)))) := by
  simp [serveRemoveStep, hload, hrev, hidx, hf]

theorem serveClearPlan_accepted {p : Port} {rev : Nat} {s : State}
    (hload : s.loadInFlight = false) (hrev : rev = s.plan.revision) (hrun : s.inRun = false) :
    serveClearPlan p rev s = (acceptEdit p 0 [] s, some (okWith (planBody (acceptEdit p 0 [] s)))) := by
  simp [serveClearPlan, hload, hrev, hrun]

theorem serveSetPlanId_accepted {p : Port} {rev planId : Nat} {s : State}
    (hload : s.loadInFlight = false) (hrev : rev = s.plan.revision) :
    serveSetPlanId p rev planId s
      = (acceptEdit p planId s.plan.steps s, some (okWith (planBody (acceptEdit p planId s.plan.steps s)))) := by
  simp [serveSetPlanId, hload, hrev]

/-- R2, R3, R21: what an accepted edit leaves of the plan. -/
@[simp] theorem acceptEdit_plan (p : Port) (planId : Nat) (steps : List StepRecord) (s : State) :
    (acceptEdit p planId steps s).plan
      = { planId := planId, revision := nextRevision s.plan.revision, steps := steps, origin := portOrigin p,
          slot := none } := rfl

@[simp] theorem planBody_acceptEdit (p : Port) (planId : Nat) (steps : List StepRecord) (s : State) :
    planBody (acceptEdit p planId steps s) = le16 (nextRevision s.plan.revision) ++ byte steps.length := rfl

/-- R2, R3, R21: an accepted edit is the new plan and PLAN_CHANGED. -/
theorem acceptEdit_eq (p : Port) (planId : Nat) (steps : List StepRecord) (s : State) :
    acceptEdit p planId steps s
      = post (.planChanged (nextRevision s.plan.revision) (portOrigin p) steps.length)
        (s.withPlan { planId := planId, revision := nextRevision s.plan.revision, steps := steps,
                      origin := portOrigin p, slot := none }) := rfl

theorem insertAt_length {idx : Nat} {r : StepRecord} {steps : List StepRecord} (h : idx ≤ steps.length) :
    (insertAt idx r steps).length = steps.length + 1 := by
  simp [insertAt]; omega

theorem removeAt_length {idx : Nat} {steps : List StepRecord} (h : idx < steps.length) :
    (removeAt idx steps).length = steps.length - 1 := by
  simp [removeAt]; omega

/-- Settles O6: an accepted INSERT_STEP or REPLACE_STEP is one accepted edit with the stored record. -/
theorem insertAndReplaceStoreTheRecord : Obligations.InsertAndReplaceStoreTheRecord := by
  rintro dt p tag rev idx rev' raw r s h hload rfl habove hr rfl
  refine ⟨fun hidx hlen => ?_, fun hidx => ?_⟩
  · refine exec_edited (r := .insertStep s.plan.revision idx raw) h rfl fun k t => ?_
    refine (serveInsertStep_accepted (by simpa using hload) (by simp) (by simpa using hidx) (by simpa using hlen)
      (by simpa using atOrBelowLive_of_above habove) hr).trans ?_
    rw [acceptEdit_eq]
    simp [stepAccepted, stepBody, planBody, insertAt_length hidx, nextRevision]
    rfl
  · refine exec_edited (r := .replaceStep s.plan.revision idx raw) h rfl fun k t => ?_
    have hlive := isLiveIndex_of_above habove
    refine (serveReplaceStep_accepted (old := s.plan.steps[idx]) (by simpa using hload) (by simp) (by simp [hidx])
      (by simpa using belowLive_of_above habove) hr (by simp [hlive])).trans ?_
    rw [replaceAt_of_notLive (by simpa using hlive), acceptEdit_eq]
    simp [stepAccepted, stepBody, planBody, nextRevision]

/-- Settles O8: each of the three edits is one accepted edit. -/
theorem removeClearAndSetIdEditThePlan : Obligations.RemoveClearAndSetIdEditThePlan := by
  rintro dt p tag rev idx planId rev' s h hload rfl rfl
  refine ⟨fun hidx habove => ?_, fun hrun => ?_, ?_⟩
  · refine exec_edited (r := .removeStep s.plan.revision idx) h rfl fun k t => ?_
    refine (serveRemoveStep_accepted (by simpa using hload) (by simp) (by simpa using hidx)
      (by simpa using atOrBelowLive_of_above habove)).trans ?_
    rw [planBody_acceptEdit, acceptEdit_eq]
    simp [okWith, removeAt_length hidx, nextRevision]
    rfl
  · refine exec_edited (r := .clearPlan s.plan.revision) h rfl fun k t => ?_
    refine (serveClearPlan_accepted (by simpa using hload) (by simp) (by simpa using hrun)).trans ?_
    rw [planBody_acceptEdit, acceptEdit_eq]
    simp [okWith, nextRevision]
  · refine exec_edited (r := .setPlanId s.plan.revision planId) h rfl fun k t => ?_
    refine (serveSetPlanId_accepted (by simpa using hload) (by simp)).trans ?_
    rw [planBody_acceptEdit, acceptEdit_eq]
    simp [okWith, nextRevision]

/-! ### Reading (O11) -/

/-- R192: a request whose owner reads and answers changes its port alone. -/
theorem exec_reading {r : Request} {p : Port} {tag : Byte} {dt : Nat} {a : Answer} {s : State}
    (hp : (s.port p).state ≠ .outstanding) (hc : portCheck p r.kind r.body.length s = none)
    (hr : ∀ k t, serveRequest p r (heldState p k t (s.after dt)) = (heldState p k t (s.after dt), some a)) :
    exec (r.command dt p tag) s = .next (formReply p r.kind tag a (s.after dt)) := by
  rw [exec_command, takeRequest_passed (s := s.after dt) (by simpa using hp) hc, hr, conclude_answered, formReply_held]

@[simp] theorem statusRecord_held (p : Port) (k t : Byte) (s : State) :
    statusRecord (heldState p k t s) = statusRecord s := by
  simp [statusRecord, engineBytes, scaleBytes, driveBytes, conditionBytes]

/-- Settles O11: each reading request hands its owner's state back unchanged with the bytes it read. -/
theorem readingRequestsChangeNothing : Obligations.ReadingRequestsChangeNothing := by
  intro dt p tag s hp
  have hopen : ∀ {r : Request}, s.store.starting = false → panelRequestOnly r = false →
      portCheck p r.kind r.body.length s = none := fun hs hk => portCheck_none hs (kindRow_kind _) (Or.inl hk) rfl
  refine ⟨?_, fun hs => ⟨?_, fun idx r hr => ?_, fun pos e he => ?_, fun pos hlen => ?_, ?_, ?_⟩⟩
  · refine exec_reading (r := .readStatus) hp ?_ fun k t => ?_
    · simp [portCheck, statusKind, Request.kind, Request.body, kindRow]
    · simp [serveRequest, serveReadStatus, okWith]; rfl
  · refine exec_reading (r := .readPlanHeader) hp (hopen hs rfl) fun k t => ?_
    simp only [serveRequest, serveReadPlanHeader, okWith, headerBody, indexByte, held_plan, State.after_plan]
    split <;> rfl
  · refine exec_reading (r := .readStep idx) hp (hopen hs rfl) fun k t => ?_
    simp [serveRequest, serveReadStep, okWith, stepBody, planBody, hr]
  · refine exec_reading (r := .readRunLog pos) hp (hopen hs rfl) fun k t => ?_
    simp [serveRequest, serveReadRunLog, okWith, he]
  · refine exec_reading (r := .readRunLog pos) hp (hopen hs rfl) fun k t => ?_
    simp [serveRequest, serveReadRunLog, hlen]
  · refine exec_reading (r := .readCal) hp (hopen hs rfl) fun k t => ?_
    simp [serveRequest, serveReadCal, okWith, calBody]
  · refine exec_reading (r := .libInfo) hp (hopen hs rfl) fun k t => ?_
    simp [serveRequest, serveLibInfo, okWith]

end Sys2Proof.Machine
end

section
/-! PROOFS. Step records: a received record reads back from its fields, and the record stored for an accepted one is legal
and stays as it is when it is stored again. -/

namespace Sys2Proof.Machine

/-! ### The codes of R195, both ways -/

theorem Kind.code_of_ofCode {n : Nat} {k : Kind} (h : Kind.ofCode n = some k) : k.code = n := by
  unfold Kind.ofCode at h
  split at h
  all_goals cases h
  all_goals rfl
theorem HeatMode.code_of_ofCode {n : Nat} {k : HeatMode} (h : HeatMode.ofCode n = some k) : k.code = n := by
  unfold HeatMode.ofCode at h
  split at h
  all_goals cases h
  all_goals rfl
theorem BoilAction.code_of_ofCode {n : Nat} {k : BoilAction} (h : BoilAction.ofCode n = some k) : k.code = n := by
  unfold BoilAction.ofCode at h
  split at h
  all_goals cases h
  all_goals rfl
theorem Direction.code_of_ofCode {n : Nat} {k : Direction} (h : Direction.ofCode n = some k) : k.code = n := by
  unfold Direction.ofCode at h
  split at h
  all_goals cases h
  all_goals rfl
theorem Pattern.code_of_ofCode {n : Nat} {k : Pattern} (h : Pattern.ofCode n = some k) : k.code = n := by
  unfold Pattern.ofCode at h
  split at h
  all_goals cases h
  all_goals rfl
theorem TimerStart.code_of_ofCode {n : Nat} {k : TimerStart} (h : TimerStart.ofCode n = some k) : k.code = n := by
  unfold TimerStart.ofCode at h
  split at h
  all_goals cases h
  all_goals rfl

/-- R195: the 32 exit sets are their codes. -/
theorem ExitSet.code_of_ofCode {n : Nat} {e : ExitSet} (h : ExitSet.ofCode n = some e) : e.code = n := by
  unfold ExitSet.ofCode at h
  split at h
  · rename_i hn
    cases h
    interval_cases n <;> rfl
  · cases h

theorem absentIfZero_getD (n : Nat) : (absentIfZero n).getD 0 = n := by
  unfold absentIfZero; split <;> simp_all

theorem absentIfZero_eq_some {n x : Nat} : absentIfZero n = some x ↔ n = x ∧ 1 ≤ x := by
  unfold absentIfZero; split <;> simp <;> omega

/-- R4: a field that may be absent is carried as 0 when it is, and never holds 0. -/
theorem absentIfZero_of_getD {o : Option Nat} (h : o ≠ some 0) : absentIfZero (o.getD 0) = o := by
  cases o with
  | none => rfl
  | some x => simp [absentIfZero] at h ⊢; omega

@[simp] theorem Kind.ofCode_code (k : Kind) : Kind.ofCode k.code = some k := by cases k <;> rfl
@[simp] theorem HeatMode.ofCode_code (k : HeatMode) : HeatMode.ofCode k.code = some k := by cases k <;> rfl
@[simp] theorem BoilAction.ofCode_code (k : BoilAction) : BoilAction.ofCode k.code = some k := by cases k <;> rfl
@[simp] theorem Direction.ofCode_code (k : Direction) : Direction.ofCode k.code = some k := by cases k <;> rfl
@[simp] theorem Pattern.ofCode_code (k : Pattern) : Pattern.ofCode k.code = some k := by cases k <;> rfl
@[simp] theorem TimerStart.ofCode_code (k : TimerStart) : TimerStart.ofCode k.code = some k := by cases k <;> rfl
@[simp] theorem ExitSet.ofCode_code (e : ExitSet) : ExitSet.ofCode e.code = some e := by
  obtain ⟨a, b, c, d, f⟩ := e
  revert a b c d f
  decide

/-! ### Reading a record -/

/-- R4: no field that may be absent holds 0. -/
def StepRecord.noZero (r : StepRecord) : Prop := r.ramp ≠ some 0 ∧ r.duration ≠ some 0 ∧ r.target ≠ some 0

/-- R195, R196: a record read from received fields carries the same fields, none of them present as 0. -/
theorem raw_of_readRaw {raw : RawStep} {r : StepRecord} (h : readRaw raw = some r) : r.raw = raw ∧ r.noZero := by
  unfold readRaw at h
  split at h
  · rename_i kind exits heatMode boil direction pattern start h1 h2 h3 h4 h5 h6 h7
    cases h
    refine ⟨?_, ?_, ?_, ?_⟩
    · simp only [StepRecord.raw, Kind.code_of_ofCode h1, ExitSet.code_of_ofCode h2, HeatMode.code_of_ofCode h3,
        BoilAction.code_of_ofCode h4, Direction.code_of_ofCode h5, Pattern.code_of_ofCode h6,
        TimerStart.code_of_ofCode h7, absentIfZero_getD]
    all_goals simp [absentIfZero_eq_some]
  · cases h

/-- R195, R196: a record reads back from its own fields. -/
theorem readRaw_raw {r : StepRecord} (h : r.noZero) : readRaw r.raw = some r := by
  obtain ⟨hramp, hduration, htarget⟩ := h
  simp [readRaw, StepRecord.raw, absentIfZero_of_getD, hramp, hduration, htarget]

theorem acceptRaw_eq_some {raw : RawStep} {r : StepRecord} :
    acceptRaw raw = some r ↔ readRaw raw = some r ∧ r.fits = true := by
  unfold acceptRaw
  cases h : readRaw raw with
  | none => simp
  | some q => by_cases hq : q.fits = true <;> simp [hq] <;> rintro rfl <;> simp_all

/-! ### Clamping -/

theorem clampHeat_temp (v : Nat) : clampHeat .temp v = max 30 (min v 160) := by
  simp only [clampHeat]; split_ifs <;> omega

theorem clampHeat_power (v : Nat) : clampHeat .power v = max 1 (min v 100) := by
  simp only [clampHeat]; split_ifs <;> omega

theorem clampSegment_eq (v : Nat) : clampSegment v = max 1 (min v 60) := by
  unfold clampSegment; split_ifs <;> omega

theorem clampSpeed_cook (v : Nat) : clampSpeed .cook v = if v = 0 then 0 else max 40 (min v 10700) := by
  simp only [clampSpeed]; split_ifs <;> omega

theorem clampSpeed_dose (v : Nat) : clampSpeed .dose v = if v = 0 then 0 else max 40 (min v 600) := by
  simp only [clampSpeed]; split_ifs <;> omega

theorem clampSpeed_prompt (v : Nat) : clampSpeed .prompt v = 0 := rfl

theorem clampRamp_temp (x : Option Nat) : clampRamp .temp x = x.map (min · 20) := by
  cases x with
  | none => rfl
  | some r => simp only [clampRamp, Option.map_some, Option.some_inj]; split_ifs <;> omega

theorem clampHeat_idem (m : HeatMode) (v : Nat) : clampHeat m (clampHeat m v) = clampHeat m v := by
  cases m
  case off => rfl
  case temp => simp only [clampHeat_temp]; omega
  case power => simp only [clampHeat_power]; omega

theorem clampSpeed_idem (k : Kind) (v : Nat) : clampSpeed k (clampSpeed k v) = clampSpeed k v := by
  cases k
  case cook => simp only [clampSpeed_cook]; split_ifs <;> omega
  case dose => simp only [clampSpeed_dose]; split_ifs <;> omega
  case prompt => rfl

theorem clampSegment_idem (v : Nat) : clampSegment (clampSegment v) = clampSegment v := by
  simp only [clampSegment_eq]; omega

theorem clampRamp_idem (x : Option Nat) : clampRamp .temp (clampRamp .temp x) = clampRamp .temp x := by
  cases x <;> simp [clampRamp_temp]

theorem clampSegment_range (v : Nat) : 1 ≤ clampSegment v ∧ clampSegment v ≤ 60 := by
  rw [clampSegment_eq]; omega

theorem clampHeat_lt {m : HeatMode} {v : Nat} (h : v < 256) : clampHeat m v < 256 := by
  cases m
  case off => exact h
  case temp => rw [clampHeat_temp]; omega
  case power => rw [clampHeat_power]; omega

theorem clampSpeed_range (k : Kind) (v : Nat) :
    clampSpeed k v ≤ 10700 ∧ (clampSpeed k v = 0 ∨ 40 ≤ clampSpeed k v) := by
  cases k
  case cook => rw [clampSpeed_cook]; split_ifs <;> omega
  case dose => rw [clampSpeed_dose]; split_ifs <;> omega
  case prompt => simp [clampSpeed_prompt]

/-! ### The stored record, field by field -/

section
variable (r : StepRecord)

@[simp] theorem complete_kind : r.complete.kind = r.kind := by unfold StepRecord.complete; split <;> rfl
@[simp] theorem complete_boil : r.complete.boil = r.boil := by unfold StepRecord.complete; split <;> rfl
@[simp] theorem stored_kind : r.stored.kind = r.kind := by simp [StepRecord.stored, StepRecord.normalise, StepRecord.clamp]
@[simp] theorem complete_heatMode : r.complete.heatMode = r.heatMode := by unfold StepRecord.complete; split <;> rfl
@[simp] theorem stored_heatMode : r.stored.heatMode = r.heatMode := by
  simp [StepRecord.stored, StepRecord.normalise, StepRecord.clamp]
@[simp] theorem stored_exits : r.stored.exits = r.complete.exits := rfl
theorem complete_exits : r.complete.exits = { r.exits with boil := r.exits.boil || decide (r.boil = .endStep) } := by
  unfold StepRecord.complete; split <;> simp_all
@[simp] theorem stored_duration : r.stored.duration = r.duration := by
  unfold StepRecord.stored StepRecord.complete; split <;> rfl
@[simp] theorem stored_start : r.stored.start = r.start := by
  unfold StepRecord.stored StepRecord.complete; split <;> rfl
theorem complete_eq : r.complete = { r with exits := { r.exits with boil := r.exits.boil || decide (r.boil = .endStep) } } := by
  unfold StepRecord.complete; split <;> simp_all
theorem stored_eq : r.stored = { r with
    exits := r.complete.exits
    heatValue := if r.heatMode = .off then 0 else clampHeat r.heatMode r.heatValue
    ramp := if r.heatMode = .temp then clampRamp r.heatMode r.ramp else none
    boil := if r.heatMode = .off ∧ r.boil = .hold then .ignore else r.boil
    speed := clampSpeed r.kind r.speed, onTime := clampSegment r.onTime, offTime := clampSegment r.offTime
    target := if r.kind = .dose then r.target else none } := by
  unfold StepRecord.stored StepRecord.complete
  split <;> rfl

end

/-- R9: a boil action END, and no other, is stored as END. -/
theorem stored_boil_endStep (r : StepRecord) : r.stored.boil = .endStep ↔ r.boil = .endStep := by
  rw [stored_eq]; split_ifs with h <;> simp_all

/-- R7: the stored record is complete. -/
theorem stored_complete (r : StepRecord) : r.stored.complete = r.stored := by
  have hexits : { r.stored.exits with boil := r.stored.exits.boil || decide (r.stored.boil = .endStep) }
      = r.stored.exits := by
    simp only [stored_boil_endStep, stored_exits, complete_exits, Bool.or_assoc, Bool.or_self]
  rw [complete_eq, hexits]

theorem dropHold_idem (m : HeatMode) (b : BoilAction) :
    (if m = .off ∧ (if m = .off ∧ b = .hold then BoilAction.ignore else b) = .hold then BoilAction.ignore
      else if m = .off ∧ b = .hold then .ignore else b) = if m = .off ∧ b = .hold then .ignore else b := by
  cases m <;> cases b <;> rfl

theorem dropTarget_idem (k : Kind) (x : Option Nat) :
    (if k = .dose then (if k = .dose then x else none) else none) = if k = .dose then x else none := by
  cases k <;> rfl

/-- R9, R196: a stored record would be stored unchanged. -/
theorem stored_stored (r : StepRecord) : r.stored.stored = r.stored := by
  rw [stored_eq r.stored, stored_complete]
  rw [stored_eq r]
  simp only [dropHold_idem, dropTarget_idem, clampSpeed_idem, clampSegment_idem]
  cases r.heatMode <;> simp [clampHeat_idem, clampRamp_idem]

/-- R5: a complete record of fit exits has them still when it is stored. -/
theorem stored_exitsFit {r : StepRecord} (h : r.complete.exitsFit = true) : r.stored.exitsFit = true := by
  have htarget : r.complete.target = r.target := by unfold StepRecord.complete; split <;> rfl
  unfold StepRecord.exitsFit at h ⊢
  rw [stored_kind, stored_exits]
  rw [complete_kind] at h
  cases hk : r.kind <;> simp_all [stored_eq]

/-- R6: a complete record of fit fields has them still when it is stored. -/
theorem stored_fieldsFit {r : StepRecord} (h : r.complete.fieldsFit = true) : r.stored.fieldsFit = true := by
  have hkeep : r.complete.target = r.target ∧ r.complete.duration = r.duration ∧ r.complete.start = r.start := by
    unfold StepRecord.complete; split <;> exact ⟨rfl, rfl, rfl⟩
  obtain ⟨htarget, hduration, hstart⟩ := hkeep
  unfold StepRecord.fieldsFit at h ⊢
  simp only [complete_kind, complete_boil, complete_heatMode, htarget, hduration, hstart, Bool.and_eq_true] at h
  obtain ⟨⟨⟨⟨⟨htimer, htemp⟩, hstart⟩, hend⟩, hboil⟩, hweight⟩ := h
  have hb := stored_boil_endStep r
  simp only [Bool.and_eq_true]
  refine ⟨⟨⟨⟨⟨?_, ?_⟩, ?_⟩, ?_⟩, ?_⟩, ?_⟩
  · rwa [stored_duration]
  · rwa [stored_heatMode]
  · rwa [stored_heatMode, stored_kind, stored_start]
  · simpa [hb] using hend
  · simpa [hb] using hboil
  · by_cases hk : r.kind = .dose <;> simp [stored_eq, hk]
    exact hweight

/-- R5, R6: the stored record of an accepted one passes the tests as it stands. -/
theorem stored_fits {r : StepRecord} (h : r.fits = true) : r.stored.fits = true := by
  unfold StepRecord.fits at h ⊢
  rw [stored_complete]
  rw [Bool.and_eq_true] at h ⊢
  exact ⟨stored_exitsFit h.1, stored_fieldsFit h.2⟩

/-- R4, R8: storing a record makes no absent field present and none 0. -/
theorem stored_noZero {r : StepRecord} (h : r.noZero) : r.stored.noZero := by
  obtain ⟨hramp, hduration, htarget⟩ := h
  rw [stored_eq]
  refine ⟨?_, hduration, ?_⟩
  · cases hx : r.ramp with
    | none => cases r.heatMode <;> simp [clampRamp_temp]
    | some x => cases r.heatMode <;> simp [clampRamp_temp]; simpa [hx] using hramp
  · by_cases hk : r.kind = .dose <;> simp [hk, htarget]

theorem exitSet_code_lt (e : ExitSet) : e.code < 256 := by
  obtain ⟨a, b, c, d, f⟩ := e
  revert a b c d f
  decide

/-- R8, R195: the stored record's fields fit their bytes where those of the record as read do. -/
theorem stored_raw_wf {r : StepRecord} (h : r.raw.wf = true) : r.stored.raw.wf = true := by
  have hboil : r.stored.boil.code < 256 := by cases r.stored.boil <;> decide
  have hexits := exitSet_code_lt r.stored.exits
  simp only [RawStep.wf, Bool.and_eq_true, decide_eq_true_eq] at h ⊢
  simp only [StepRecord.raw] at h hboil hexits ⊢
  rw [stored_eq] at hboil hexits ⊢
  have hspeed := (clampSpeed_range r.kind r.speed).1
  have hon := clampSegment_range r.onTime
  have hoff := clampSegment_range r.offTime
  have hheat := @clampHeat_lt r.heatMode r.heatValue
  have hramp : (if r.heatMode = .temp then clampRamp r.heatMode r.ramp else none).getD 0 < 256 := by
    cases r.heatMode <;> cases r.ramp <;> simp [clampRamp_temp]
  have htarget : (if r.kind = .dose then r.target else none).getD 0 < 65536 := by
    split_ifs
    · omega
    · simp
  simp only at hboil hexits ⊢
  refine ⟨⟨⟨⟨⟨⟨⟨⟨⟨⟨⟨⟨⟨⟨⟨?_, hexits⟩, ?_⟩, ?_⟩, hramp⟩, hboil⟩, ?_⟩, ?_⟩, ?_⟩, ?_⟩, ?_⟩, ?_⟩, ?_⟩, ?_⟩, htarget⟩, ?_⟩
  case refine_3 => split_ifs <;> omega
  all_goals omega

/-- R5 to R9, R196: the record stored for an accepted one is legal. -/
theorem stored_legal {raw : RawStep} {r : StepRecord} (hw : raw.wf = true) (h : acceptRaw raw = some r) :
    r.stored.legal = true := by
  obtain ⟨hread, hfits⟩ := acceptRaw_eq_some.mp h
  obtain ⟨rfl, hz⟩ := raw_of_readRaw hread
  have hagain : acceptRaw r.stored.raw = some r.stored :=
    acceptRaw_eq_some.mpr ⟨readRaw_raw (stored_noZero hz), stored_fits hfits⟩
  simp [StepRecord.legal, stored_raw_wf hw, hagain, stored_stored]

/-! ### The ranges of a stored record (O4) -/

/-- R8, R9: a stored ramp belongs to TEMP and lies in its range. -/
theorem stored_ramp_range {r : StepRecord} (h : r.noZero) {x : Nat} (hx : r.stored.ramp = some x) :
    r.stored.heatMode = .temp ∧ 1 ≤ x ∧ x ≤ 20 := by
  have hne := (stored_noZero h).1
  rw [stored_heatMode]
  rw [stored_eq] at hx hne
  cases hm : r.heatMode <;> cases hr : r.ramp <;> simp_all [clampRamp_temp]
  omega

/-- R6, R9: a stored weight target belongs to a DOSE record and lies in its range. -/
theorem stored_target_range {r : StepRecord} (h : r.noZero) (hf : r.fits = true) {x : Nat}
    (hx : r.stored.target = some x) : r.stored.kind = .dose ∧ 1 ≤ x ∧ x ≤ 5000 := by
  have hne := (stored_noZero h).2.2
  have hle := stored_fits hf
  rw [StepRecord.fits, stored_complete, Bool.and_eq_true, StepRecord.fieldsFit, hx] at hle
  have hk : r.kind = .dose := by
    by_contra hk
    simp [stored_eq, hk] at hx
  rw [stored_kind]
  simp only [Bool.and_eq_true, decide_eq_true_eq] at hle
  rw [hx] at hne
  exact ⟨hk, by by_contra hlt; simp_all, hle.2.2⟩

/-- R6, R7: BOIL stands among a stored record's exits exactly with the boil action END. -/
theorem stored_boil_exit_iff {r : StepRecord} (hf : r.fits = true) :
    r.stored.exits.boil = true ↔ r.stored.boil = .endStep := by
  have hfits := stored_fits hf
  rw [StepRecord.fits, stored_complete, Bool.and_eq_true, StepRecord.fieldsFit] at hfits
  simp only [Bool.and_eq_true, Bool.or_eq_true, decide_eq_true_eq] at hfits
  obtain ⟨_, ⟨⟨_, hboil⟩, _⟩⟩ := hfits
  constructor
  · intro hb
    rw [hb] at hboil
    simpa using hboil
  · intro hb
    rw [stored_exits, complete_exits, decide_eq_true ((stored_boil_endStep r).mp hb), Bool.or_true]

/-- Settles O4: the record stored for an accepted one is legal, and each of its fields lies where clamping and normalising
put it. -/
theorem storedRecordIsLegal : Obligations.StoredRecordIsLegal := by
  intro raw r hw h
  obtain ⟨hread, hfits⟩ := acceptRaw_eq_some.mp h
  have hz := (raw_of_readRaw hread).2
  refine ⟨stored_legal hw h, (clampSpeed_range _ _).1, ?_, ?_, ?_, ?_, ?_, ?_, ?_, ?_, fun x => stored_ramp_range hz,
    fun x => stored_target_range hz hfits, stored_boil_exit_iff hfits⟩
  all_goals rw [stored_eq]
  · exact (clampSpeed_range _ _).2
  · intro hk; simp only at hk ⊢; rw [hk, clampSpeed_dose]; split_ifs <;> omega
  · intro hk; simp only at hk ⊢; rw [hk]; rfl
  · exact clampSegment_range _
  · exact clampSegment_range _
  · intro hm; simp only at hm ⊢; rw [if_neg (by simp [hm]), hm, clampHeat_temp]; omega
  · intro hm; simp only at hm ⊢; rw [if_neg (by simp [hm]), hm, clampHeat_power]; omega
  · intro hm; simp only at hm ⊢; simp [hm]

end Sys2Proof.Machine
end

section
/-! PROOFS. RESET: the array it keeps, and that the state it leaves is safe. -/

namespace Sys2Proof.Machine

/-- R170: a reset keeps the form of the array. -/
theorem arrayAfterReset_wf (free : Nat) {st : Store} (h : st.array.wf = true) : (arrayAfterReset free st).wf = true := by
  unfold arrayAfterReset
  split
  · split
    · exact h
    · exact Memory.write_wf _ _ _ h
  · exact h

/-- R170, R185: a reset keeps every word but the one being erased or written. -/
theorem read_arrayAfterReset (free : Nat) {st : Store} {a : Nat}
    (h : ∀ w, st.op.writing = some w → a ≠ w.addr) :
    Memory.read (arrayAfterReset free st) a = Memory.read st.array a := by
  unfold arrayAfterReset
  split
  · rename_i w hw
    split
    · rfl
    · exact Memory.read_write_other _ _ (h w hw).symm
  · rfl

theorem reset_store_safe {array : Memory} (h : array.wf = true) : (Store.reset array).safe = true := by
  simp [Store.safe, Store.reset, h]

/-- Settles O60: RESET is `resetState`, each of whose blocks is a constant but for the array. -/
theorem resetLeavesTheResetValues : Obligations.ResetLeavesTheResetValues := by
  refine ⟨fun s hs => ⟨resetState s, arrayAfterReset s.free s.store, rfl, rfl, arrayAfterReset_wf _ hs,
    fun a => read_arrayAfterReset _, rfl, rfl, rfl, rfl, rfl, rfl,
    reset_store_safe (arrayAfterReset_wf _ hs), rfl, rfl, rfl⟩, by decide⟩

end Sys2Proof.Machine
end

section
/-! PROOFS. What a command can do to an invariant: ports and frames hand a request to its owner and change nothing else but
themselves, so an invariant that ports do not touch is kept by every command when every owner and every unit's own event keeps
it. -/

namespace Sys2Proof.Machine

/-! ### The commands that carry a request -/

/-- A command that carries a request is that request's command. -/
theorem command_of_request {c : Instr} {r : Request} (h : c.request = some r) :
    ∃ dt p tag, c = r.command dt p tag := by
  cases c <;> cases h <;> exact ⟨_, _, _, rfl⟩

theorem wf_of_request {c : Instr} {r : Request} (h : c.request = some r) (hw : c.wf = true) : r.wf = true := by
  cases c <;> cases h <;> exact hw

theorem row_of_portCheck_none {p : Port} {k : Byte} {n : Nat} {s : State} (h : portCheck p k n s = none) :
    ∃ row, kindRow k = some row ∧ row.length = n := by
  unfold portCheck at h
  split at h
  · cases h
  · split at h
    · cases h
    · rename_i row hrow
      refine ⟨row, hrow, ?_⟩
      by_contra hne
      split at h
      · cases h
      · exact absurd h (by simp [Ne.symm hne])

/-! ### The requests that frames carry -/

theorem byte_lt (b : Byte) : b.toNat < 256 := b.isLt
theorem num16_lt (a b : Byte) : num16 a b < 65536 := by
  have := byte_lt a; have := byte_lt b; unfold num16; omega
theorem num32_lt (a b c d : Byte) : num32 a b c d < 4294967296 := by
  have := byte_lt a; have := byte_lt b; have := byte_lt c; have := byte_lt d; unfold num32; omega
theorem rawOfBytes_wf {bs : List Byte} {raw : RawStep} (h : rawOfBytes bs = some raw) : raw.wf = true := by
  unfold rawOfBytes at h
  split at h
  · cases h
    simp only [RawStep.wf, byte_lt, num16_lt, decide_true, Bool.and_true]
  · cases h
theorem signed_word_range {n : Nat} (h : n < 65536) : -32768 ≤ signed 16 n ∧ signed 16 n < 32768 := by
  simp only [signed]; split_ifs <;> omega
theorem signed_byte_range (b : Byte) : -128 ≤ signed 8 b.toNat ∧ signed 8 b.toNat < 128 := by
  have := byte_lt b
  simp only [signed]; split_ifs <;> omega

/-- R194: a request given by a kind of the table and bytes of its length fits its fields. -/
theorem requestOf_wf {k : Byte} {body : List Byte} {row : KindRow} {r : Request} (hk : kindRow k = some row)
    (hl : row.length = body.length) (h : requestOf k body = some r) : r.wf = true := by
  unfold kindRow at hk
  split at hk
  case h_33 => cases hk
  all_goals
    rename_i hkn
    have hk' : k = BitVec.ofNat 8 k.toNat := by simp
    rw [hkn] at hk'
    subst hk'
    cases hk
    rcases body with _ | ⟨b0, _ | ⟨b1, _ | ⟨b2, _ | ⟨b3, _ | ⟨b4, _ | ⟨b5, _ | ⟨b6, bs⟩⟩⟩⟩⟩⟩⟩
  all_goals simp at hl
  case h_6 | h_7 =>
    obtain ⟨raw, hraw, rfl⟩ := Option.map_eq_some_iff.mp h
    simp only [Request.wf, rawOfBytes_wf hraw, byte_lt, num16_lt, Bool.and_true, decide_true]
  all_goals
    change some _ = some r at h
    cases h
    simp only [Request.wf, byte_lt, num16_lt, num32_lt, signed_word_range, signed_byte_range, and_self, decide_true,
      Bool.and_true]

/-! ### Ports, the receiver and time -/

/-- A property of the part that its ports, the receiver, PSDO and the passing of time leave alone. -/
structure PortFree (P : State → Prop) : Prop where
  port : ∀ {s : State} (p : Port) (x : PortState), P s → P (s.setPort p x)
  rx : ∀ {s : State} (x : LinkRx), P s → P (s.withRx x)
  psdo : ∀ {s : State} (x : List Byte), P s → P (s.withPsdo x)
  after : ∀ {s : State} (dt : Nat), P s → P (s.after dt)

section
variable {P : State → Prop} (hP : PortFree P)
include hP

theorem PortFree.formReply {s : State} (p : Port) (k t : Byte) (a : Answer) (h : P s) : P (formReply p k t a s) :=
  hP.port p _ h

theorem PortFree.discardFrame {s : State} (p : Port) (h : P s) : P (discardFrame p s) := hP.port p _ h

theorem PortFree.dropReply {s : State} (p : Port) (h : P s) : P (dropReply p s) := hP.port p _ h

theorem PortFree.answerPending {s : State} (p : Port) (a : Answer) (h : P s) : P (answerPending p a s) := by
  unfold Machine.answerPending
  split
  · exact hP.formReply p _ _ a h
  · exact h

theorem PortFree.conclude {v : Served} (p : Port) (k t : Byte) (h : P v.1) : P (conclude p k t v) := by
  obtain ⟨u, _ | a⟩ := v
  · exact h
  · exact hP.formReply p k t a h

/-- R192: a request is refused by its port, or is of a known kind and length and handed to its owner. -/
theorem PortFree.judgeRequest {owner : State → Served} {s : State} (p : Port) (k t : Byte) (n : Nat)
    (ho : ∀ row, kindRow k = some row → row.length = n → ∀ u, P u → P (owner u).1) (h : P s) :
    P (judgeRequest p k t n owner s) := by
  unfold Machine.judgeRequest
  split
  · exact hP.formReply p k t _ h
  · rename_i hc
    obtain ⟨row, hrow, hlen⟩ := row_of_portCheck_none hc
    exact hP.conclude p k t (ho row hrow hlen _ (hP.port p _ h))

/-- R187, R189: a request is discarded or judged. -/
theorem PortFree.takeRequest {owner : State → Served} {s : State} (p : Port) (k t : Byte) (n : Nat)
    (ho : ∀ row, kindRow k = some row → row.length = n → ∀ u, P u → P (owner u).1) (h : P s) :
    P (takeRequest p k t n owner s) := by
  unfold Machine.takeRequest
  split
  · exact hP.discardFrame p h
  · exact hP.judgeRequest p k t n ho h
  · exact hP.judgeRequest p k t n ho (hP.dropReply p h)

/-! ### Frames -/

variable {W : Request → Prop} (hW : ∀ r, r.wf = true → W r) (hserve : ∀ p r u, W r → P u → P (serveRequest p r u).1)
include hW hserve

/-- R187, R189, R192: a frame's request, or a kind and length that spell none. -/
theorem PortFree.takeFrame {s : State} (p : Port) (frame : List Byte) (h : P s) : P (takeFrame p frame s) := by
  refine hP.takeRequest p _ _ _ (fun row hrow hlen u hu => ?_) h
  unfold serveFrame
  split
  · rename_i r hr
    exact hserve p r u (hW r (requestOf_wf hrow hlen hr)) hu
  · exact hu

theorem PortFree.linkByte {s : State} (b : Byte) (h : P s) : P (linkByte b s) := by
  unfold Machine.linkByte linkComplete
  split
  · split
    · exact hP.takeFrame hW hserve .link _ (hP.rx _ h)
    · exact hP.rx _ h
  · exact hP.rx _ h

theorem PortFree.linkBytes (bytes : List Byte) {s : State} (h : P s) : P (linkBytes bytes s) := by
  induction bytes generalizing s with
  | nil => exact h
  | cons b bs ih => exact ih (hP.linkByte hW hserve b h)

theorem PortFree.panelRequest {s : State} (bytes : List Byte) (h : P s) : P (panelRequest bytes s) := by
  have h' := hP.psdo (List.replicate bytes.length 0) h
  unfold Machine.panelRequest
  dsimp only
  split
  · exact hP.takeFrame hW hserve .panel _ h'
  · unfold takeDamaged
    split
    · exact hP.discardFrame .panel h'
    · exact hP.formReply .panel _ _ _ h'
    · exact hP.formReply .panel _ _ _ (hP.dropReply .panel h')

omit hW hserve in
theorem PortFree.panelRead {s : State} (n : Nat) (h : P s) : P (panelRead n s) := by
  unfold Machine.panelRead
  split
  · dsimp only
    split
    · exact hP.port .panel _ (hP.psdo _ h)
    · exact hP.psdo _ h
  · exact hP.psdo _ h

omit hW hserve in
theorem PortFree.linkSent {s : State} (h : P s) : P (linkSent s) := by
  unfold Machine.linkSent
  split
  · exact hP.port .link _ h
  · exact h

/-! ### Commands -/

omit hP hW hserve in
/-- The commands that are neither a request, nor a port's own event, nor a reset: what the units' timers and work bring. -/
def unitEvent : Instr → Bool
  | .timeBaseTick _ | .settleDeadline _ | .senseTimerExpiry _ | .senseConversionEnd _ _ | .freeTrigger _
  | .weighGroupEnd _ _ _ _ _ | .tareDeadline _ | .captureDeadline _ | .tachEdge _ | .noEdgeTimeout _ | .controlUpdate _
  | .lidSample _ _ _ | .plateauTimer _ | .frameEnd _ | .slotBoundary _ | .rampRise _ | .permitExpiry _
  | .permitDueTimer _ | .uptimeTick _ | .scanEnd _ | .wordWriteEnd _ _ _ | .loadReadEnd _ => true
  | _ => false

/-- A property that ports leave alone is kept by every command but RESET, when every owner and every unit event keeps it. -/
theorem PortFree.exec (hevent : ∀ c u v, unitEvent c = true → P u → exec c u = .next v → P v) {c : Instr} {s t : State}
    (hc : c ≠ .reset) (hw : ∀ r, c.request = some r → W r) (h : P s) (he : exec c s = .next t) : P t := by
  cases hreq : c.request with
  | some r =>
    obtain ⟨dt, p, tag, rfl⟩ := command_of_request hreq
    rw [exec_command] at he
    cases he
    exact hP.takeRequest p _ _ _ (fun _ _ _ u hu => hserve p r u (hw r hreq) hu) (hP.after dt h)
  | none =>
    by_cases hu : unitEvent c = true
    · exact hevent c s t hu h he
    cases c
    case reset => exact absurd rfl hc
    case panelRequestFrame dt bytes => cases he; exact hP.panelRequest hW hserve bytes (hP.after dt h)
    case panelReplyRead dt n => cases he; exact hP.panelRead n (hP.after dt h)
    case linkFrameComplete dt bytes => cases he; exact hP.linkBytes hW hserve bytes (hP.after dt h)
    case linkByteReceived dt b => cases he; exact hP.linkByte hW hserve b (hP.after dt h)
    case linkByteGapTimeout dt => cases he; exact hP.rx _ (hP.after dt h)
    case linkStopBitMissing dt => cases he; exact hP.rx _ (hP.after dt h)
    case linkReplySent dt => cases he; exact hP.linkSent (hP.after dt h)
    all_goals simp [unitEvent, Instr.request] at hu hreq

end

end Sys2Proof.Machine
end

section
/-! PROOFS. The reach of the commands: which blocks a unit's event or a request's owner can change. None but the plan edits
and the end of a load reaches Plan Memory, and none but the library's own reaches the operation in flight. -/

namespace Sys2Proof.Machine

/-- What a unit's event, or a request that edits no plan, can change. -/
def partReach : List Block :=
  [.now, .free, .engine, .conv, .scale, .heat, .stir, .lid, .mon, .permit, .notices, .store, .panel, .link]

/-- What the units' events other than the store's can change. -/
def unitReach : List Block :=
  [.now, .free, .engine, .conv, .scale, .heat, .stir, .lid, .mon, .permit, .notices, .panel, .link]

theorem useFree_touches (s : State) : Touches [.free] s s.useFree := by
  intro b hb
  cases b
  case free => exact absurd (List.mem_singleton_self _) hb
  all_goals rfl
theorem withPanel_touches (x : PortState) (s : State) : Touches [.panel] s (s.withPanel x) := setPort_touches .panel x s

theorem engineReach_unit : engineReach ⊆ unitReach := by decide
theorem monitorReach_unit : monitorReach ⊆ unitReach := by decide
theorem scaleReach_unit : scaleReach ⊆ unitReach := by decide
theorem unitReach_part : unitReach ⊆ partReach := by decide

/-! ### The units' events -/

theorem countTenths_touches (s : State) : Touches unitReach s (countTenths s) :=
  (((withEngine_touches _ s).mono (by decide)).trans ((useFree_touches _).mono (by decide))).trans
    ((useFree_touches _).mono (by decide))

theorem testTimer_touches (s : State) : Touches engineReach s (testTimer s) := by
  unfold testTimer
  split
  · exact Touches.ite _ (endStep_touches _ s) (Touches.refl _ s)
  · exact Touches.refl _ s

theorem settleRunsOut_touches (s : State) : Touches engineReach s (settleRunsOut s) :=
  Touches.ite _ (takeReference_touches _ _ s) (Touches.refl _ s)

theorem endSense_touches (code : Nat) (s : State) : Touches unitReach s (endSense code s) := by
  unfold endSense
  split
  · exact ((deliverSense_touches _ code s).mono (by decide)).trans ((withConv_touches _ _).mono (by decide))
  · exact Touches.refl _ s
  · exact Touches.refl _ s

theorem expireFree_touches (s : State) : Touches [.conv] s (expireFree s) := by
  unfold expireFree
  split
  · exact withConv_touches _ s
  · exact Touches.refl _ s

theorem finishWeigh_touches (a b c d : Int) (s : State) : Touches unitReach s (finishWeigh a b c d s) :=
  Touches.ite _ ((withConv_touches _ s).mono (by decide))
    (((withConv_touches _ s).mono (by decide)).trans ((takeSample_touches _ _).mono (by decide)))

theorem endWeigh_touches (a b c d : Int) (s : State) : Touches unitReach s (endWeigh a b c d s) := by
  unfold endWeigh
  split
  · exact (finishWeigh_touches a b c d s).trans ((withConv_touches _ _).mono (by decide))
  · exact Touches.refl _ s
  · exact Touches.refl _ s

/-- What a tach edge, or its absence, can change. -/
def tachReach : List Block := [.stir, .lid, .conv]

theorem tachEdge_touches (s : State) : Touches tachReach s (tachEdge s) :=
  (((withStir_touches _ s).mono (by decide)).trans ((tellStopped_touches _ _).mono (by decide))).trans
    ((withConv_touches _ _).mono (by decide))

theorem noEdgeTimeout_touches (s : State) : Touches tachReach s (noEdgeTimeout s) := by
  unfold noEdgeTimeout
  split
  · have h : Touches tachReach s (s.withStir (standStir s.stir)) := (withStir_touches _ s).mono (by decide)
    exact (Touches.ite _ h (h.trans ((withConv_touches _ _).mono (by decide)))).trans
      ((tellStopped_touches _ _).mono (by decide))
  · exact Touches.refl _ s

theorem updateApplied_touches (s : State) : Touches [.stir, .notices] s (updateApplied s) := by
  have h : ∀ x, Touches [.stir, .notices] s (s.withStir x) := fun x => (withStir_touches x s).mono (by decide)
  unfold updateApplied
  dsimp only
  split
  · split
    · exact ((h _).trans ((withStir_touches _ _).mono (by decide))).trans ((post_touches _ _).mono (by decide))
    · exact h _
  · exact h _

theorem controlUpdate_touches (s : State) : Touches unitReach s (controlUpdate s) :=
  ((((withStir_touches _ s).mono (by decide)).trans ((updateApplied_touches _).mono (by decide))).trans
    ((withStir_touches _ _).mono (by decide))).trans
      (((withStir_touches _ _).mono (by decide)).trans ((stallHandover_touches _ _ _).mono monitorReach_unit))

theorem lidOpenInput_touches (b : Bool) (s : State) : Touches monitorReach s (lidOpenInput b s) :=
  detectorInput_touches _ _ s
theorem lockFaultInput_touches (b : Bool) (s : State) : Touches monitorReach s (lockFaultInput b s) :=
  detectorInput_touches _ _ s

theorem lidSample_touches (a b : Bool) (s : State) : Touches unitReach s (lidSample a b s) := by
  have h := fun x => (((withLid_touches x s).mono (us := unitReach) (by decide)).trans
    ((lidOpenInput_touches a _).mono monitorReach_unit)).trans ((lockFaultInput_touches b _).mono monitorReach_unit)
  exact Touches.ite _ ((h _).trans ((takeLockConfirmation_touches _).mono engineReach_unit)) (h _)

theorem expirePlateau_touches (s : State) : Touches unitReach s (expirePlateau s) :=
  ((withHeat_touches _ s).mono (by decide)).trans ((detectorInput_touches _ _ _).mono monitorReach_unit)

theorem lapsePermit_touches (r : LapseReason) (s : State) : Touches unitReach s (lapsePermit r s) :=
  (((withPermit_touches _ s).mono (by decide)).trans ((post_touches _ _).mono (by decide))).trans
    ((takeLapse_touches _).mono engineReach_unit)

theorem expirePermit_touches (s : State) : Touches unitReach s (expirePermit s) :=
  Touches.ite _ (lapsePermit_touches _ s) (Touches.refl _ s)

theorem comeDue_touches (s : State) : Touches unitReach s (comeDue s) := by
  unfold comeDue
  split
  · exact ((withPermit_touches _ s).mono (by decide)).trans ((postPanel_touches _ _).mono (by decide))
  · exact Touches.refl _ s

/-! ### The Recipe Store -/

/-- What a word write's end can change. -/
def storeReach : List Block := [.store, .notices]

theorem endOperation_touches (op : DoneOp) (slot : Option Nat) (r : Result) (rev : Option Nat) (s : State) :
    Touches storeReach s (endOperation op slot r rev s) :=
  ((withStore_touches _ s).mono (by decide)).trans ((post_touches _ _).mono (by decide))

theorem withStore_reach (x : Store) (s : State) : Touches storeReach s (s.withStore x) :=
  (withStore_touches x s).mono (by decide)

theorem saveWriteEnd_touches (slot : Nat) (w : WordWrite) (rest : List WordWrite) (a b : Word16) (s : State) :
    Touches storeReach s (saveWriteEnd slot w rest a b s) :=
  Touches.ite _
    (Touches.ite _ ((withStore_reach _ s).trans (endOperation_touches _ _ _ _ _)) (withStore_reach _ s))
    ((withStore_reach _ s).trans (endOperation_touches _ _ _ _ _))

theorem eraseWriteEnd_touches (slot : Nat) (w : WordWrite) (rest : List WordWrite) (a b : Word16) (s : State) :
    Touches storeReach s (eraseWriteEnd slot w rest a b s) :=
  Touches.ite _
    (Touches.ite _ ((withStore_reach _ s).trans (endOperation_touches _ _ _ _ _)) (withStore_reach _ s))
    ((withStore_reach _ s).trans (endOperation_touches _ _ _ _ _))

theorem calWriteEnd_touches (w : WordWrite) (rest : List WordWrite) (a b : Word16) (s : State) :
    Touches storeReach s (calWriteEnd w rest a b s) :=
  Touches.ite _
    (Touches.ite _ ((withStore_reach _ s).trans (endOperation_touches _ _ _ _ _)) (withStore_reach _ s))
    ((withStore_reach _ s).trans (endOperation_touches _ _ _ _ _))

theorem endWordWrite_touches (a b : Word16) (s : State) : Touches storeReach s (endWordWrite a b s) := by
  unfold endWordWrite
  split
  · exact saveWriteEnd_touches _ _ _ a b s
  · exact eraseWriteEnd_touches _ _ _ a b s
  · exact calWriteEnd_touches _ _ a b s
  all_goals exact Touches.refl _ s

theorem endScan_touches (s : State) : Touches partReach s (endScan s) := by
  unfold endScan
  split
  · exact ((withStore_touches _ s).mono (by decide)).trans ((changeCalibration_touches _ _).mono (by decide))
  all_goals exact Touches.refl _ s

/-! ### All unit events -/

/-- The events of the Recipe Store (R173, R176, R181). -/
def storeEvent : Instr → Bool
  | .scanEnd _ | .wordWriteEnd _ _ _ | .loadReadEnd _ => true
  | _ => false

/-- A unit event that is not the store's reaches neither Plan Memory nor the store. -/
theorem unitEvent_touches {c : Instr} {s t : State} (hu : unitEvent c = true) (hs : storeEvent c = false)
    (he : exec c s = .next t) : Touches unitReach s t := by
  cases c
  case timeBaseTick dt =>
    cases he
    exact ((after_touches dt s).mono (by decide)).trans ((countTenths_touches _).trans
      ((testTimer_touches _).mono engineReach_unit))
  case settleDeadline dt =>
    cases he; exact ((after_touches dt s).mono (by decide)).trans ((settleRunsOut_touches _).mono engineReach_unit)
  case senseTimerExpiry dt =>
    cases he; exact ((after_touches dt s).mono (by decide)).trans ((withConv_touches _ _).mono (by decide))
  case senseConversionEnd dt code =>
    cases he; exact ((after_touches dt s).mono (by decide)).trans (endSense_touches code _)
  case freeTrigger dt => cases he; exact ((after_touches dt s).mono (by decide)).trans ((expireFree_touches _).mono (by decide))
  case weighGroupEnd dt a b c d =>
    cases he; exact ((after_touches dt s).mono (by decide)).trans (endWeigh_touches a b c d _)
  case tareDeadline dt =>
    cases he; exact ((after_touches dt s).mono (by decide)).trans ((endTare_touches _ _).mono scaleReach_unit)
  case captureDeadline dt =>
    cases he; exact ((after_touches dt s).mono (by decide)).trans ((endCapture_touches _ _).mono scaleReach_unit)
  case tachEdge dt => cases he; exact ((after_touches dt s).mono (by decide)).trans ((tachEdge_touches _).mono (by decide))
  case noEdgeTimeout dt => cases he; exact ((after_touches dt s).mono (by decide)).trans ((noEdgeTimeout_touches _).mono (by decide))
  case controlUpdate dt => cases he; exact ((after_touches dt s).mono (by decide)).trans (controlUpdate_touches _)
  case lidSample dt a b => cases he; exact ((after_touches dt s).mono (by decide)).trans (lidSample_touches a b _)
  case plateauTimer dt => cases he; exact ((after_touches dt s).mono (by decide)).trans (expirePlateau_touches _)
  case frameEnd dt =>
    cases he; exact ((after_touches dt s).mono (by decide)).trans ((withHeat_touches _ _).mono (by decide))
  case slotBoundary dt =>
    cases he; exact ((after_touches dt s).mono (by decide)).trans ((withHeat_touches _ _).mono (by decide))
  case rampRise dt =>
    cases he; exact ((after_touches dt s).mono (by decide)).trans ((withHeat_touches _ _).mono (by decide))
  case permitExpiry dt => cases he; exact ((after_touches dt s).mono (by decide)).trans (expirePermit_touches _)
  case permitDueTimer dt => cases he; exact ((after_touches dt s).mono (by decide)).trans (comeDue_touches _)
  case uptimeTick dt =>
    cases he; exact ((after_touches dt s).mono (by decide)).trans ((withNotices_touches _ _).mono (by decide))
  all_goals simp [unitEvent, storeEvent] at hu hs

/-! ### The requests' owners -/

/-- The requests that edit the plan (R15 to R20). -/
def editsPlan : Request → Bool
  | .insertStep _ _ _ | .replaceStep _ _ _ | .removeStep _ _ | .clearPlan _ | .setPlanId _ _ => true
  | _ => false

theorem beginRun_touches (i : Nat) (r : StepRecord) (s : State) : Touches unitReach s (beginRun i r s) := by
  have h : Touches unitReach s (enterStep i r (post (.engineState .running (some i) 0)
      ((endCapture .aborted s).withEngine { (endCapture .aborted s).engine with
        state := .running, live := none, causes := CauseSet.none, trips := 0, firstTrip := none, endReason := none,
        runClock := 0, log := [] }))) :=
    ((((endCapture_touches _ s).mono scaleReach_unit).trans ((withEngine_touches _ _).mono (by decide))).trans
      ((post_touches _ _).mono (by decide))).trans ((enterStep_touches _ _ _).mono engineReach_unit)
  refine Touches.ite _ (h.trans ?_) h
  exact (settleOutcome_touches ((comeIn_touches _).mono reach_engine)).mono engineReach_unit

/-- R50: a START_RUN is refused or begins a run, with no run in progress and no load in flight. -/
theorem serveStartRun_cases (rev i : Nat) (s : State) :
    (serveStartRun rev i s).1 = s
      ∨ ∃ r, s.plan.steps[i]? = some r ∧ s.inRun = false ∧ s.loadInFlight = false
        ∧ (serveStartRun rev i s).1 = beginRun i r s := by
  unfold serveStartRun refused
  split
  · exact .inl rfl
  rename_i hrun
  split
  · exact .inl rfl
  rename_i hload
  split
  · exact .inl rfl
  split
  · exact .inl rfl
  rename_i r hr
  split_ifs
  case neg => exact .inr ⟨r, hr, by simpa using hrun, by simpa using hload, rfl⟩
  all_goals exact .inl rfl

theorem serveStartRun_touches (rev i : Nat) (s : State) : Touches unitReach s (serveStartRun rev i s).1 := by
  obtain h | ⟨r, _, _, _, h⟩ := serveStartRun_cases rev i s
  · rw [h]; exact Touches.refl _ s
  · rw [h]; exact beginRun_touches i r s

theorem resumeRun_touches (s : State) : Touches engineReach s (resumeRun s) :=
  (((((withEngine_touches _ s).mono reach_engine).trans ((withHeat_touches _ _).mono reach_heat)).trans
    (((syncHold_touches _).mono reach_heat).trans ((syncWish_touches _).mono reach_lid))).trans
      ((postEngineState_touches _).mono reach_notices)).trans
        (settleOutcome_touches ((comeIn_touches _).mono reach_engine))

theorem servePause_touches (s : State) : Touches engineReach s (servePause s).1 := by
  unfold servePause
  split
  · exact enterPaused_touches _ s
  all_goals exact Touches.refl _ s

theorem serveResume_touches (s : State) : Touches engineReach s (serveResume s).1 := by
  unfold serveResume
  split_ifs
  case neg => exact resumeRun_touches s
  all_goals exact Touches.refl _ s

theorem serveAbort_touches (s : State) : Touches engineReach s (serveAbort s).1 := by
  unfold serveAbort
  split
  · exact (closeStep_touches _ s).trans (enterEnded_touches _ _)
  · exact Touches.refl _ s

theorem serveSkipStep_touches (i : Nat) (s : State) : Touches engineReach s (serveSkipStep i s).1 := by
  unfold serveSkipStep
  split_ifs
  case neg => exact endStep_touches _ s
  all_goals exact Touches.refl _ s

theorem serveConfirm_touches (i : Nat) (s : State) : Touches engineReach s (serveConfirm i s).1 := by
  unfold serveConfirm
  split_ifs
  · exact Touches.refl _ s
  · exact Touches.refl _ s
  · exact Touches.refl _ s
  · exact endStep_touches _ s
  · exact Touches.refl _ s

theorem serveClearTrip_touches (s : State) : Touches engineReach s (serveClearTrip s).1 := by
  unfold serveClearTrip
  split_ifs
  case neg => exact enterPaused_touches _ s
  all_goals exact Touches.refl _ s

theorem servePermit_touches (key : Byte) (s : State) : Touches unitReach s (servePermit key s).1 := by
  have harm : Touches unitReach s (serveArming key s).1 := by
    unfold serveArming
    split
    · exact ((withPermit_touches _ s).mono (by decide)).trans ((takeRearm_touches _).mono engineReach_unit)
    · exact Touches.refl _ s
  have hrenew : Touches unitReach s (serveRenewal key s).1 := by
    unfold serveRenewal
    split
    · exact lapsePermit_touches _ s
    · exact (withPermit_touches _ s).mono (by decide)
  unfold servePermit
  split
  · exact hrenew
  · exact harm
  · exact harm

theorem beginCapture_touches (b : CaptureBody) (i : Bool) (s : State) : Touches scaleReach s (beginCapture b i s).1 := by
  unfold beginCapture
  split_ifs
  case neg => exact (withScale_touches _ s).mono (by decide)
  all_goals exact Touches.refl _ s

theorem serveTarePush_touches (p : Port) (s : State) : Touches scaleReach s (serveTarePush p s).1 := by
  unfold serveTarePush
  split_ifs
  case neg => exact (withScale_touches _ s).mono (by decide)
  all_goals exact Touches.refl _ s

theorem serveTarePop_touches (p : Port) (s : State) : Touches scaleReach s (serveTarePop p s).1 := by
  unfold serveTarePop
  split_ifs
  case neg => exact ((withScale_touches _ s).mono (by decide)).trans (postTareChanged_touches _ _ _)
  all_goals exact Touches.refl _ s

theorem serveTareClear_touches (p : Port) (s : State) : Touches scaleReach s (serveTareClear p s).1 := by
  unfold serveTareClear
  split_ifs
  · exact Touches.refl _ s
  · exact ((withScale_touches _ s).mono (by decide)).trans (postTareChanged_touches _ _ _)

theorem serveRestartScale_touches (s : State) : Touches scaleReach s (serveRestartScale s).1 := by
  have h : Touches scaleReach s (endCapture .aborted (endTare .aborted (s.withScale (restartScale s.scale)))) :=
    (((withScale_touches _ s).mono (by decide)).trans (endTare_touches _ _)).trans (endCapture_touches _ _)
  exact Touches.ite _ h (h.trans (postScaleEvent_touches _))

theorem serveTakeNotice_touches (p : Port) (s : State) : Touches [.notices] s (serveTakeNotice p s).1 := by
  unfold serveTakeNotice
  split
  · exact Touches.refl _ s
  · exact withNotices_touches _ s

theorem serveClearLatched_touches (x : DetSet) (s : State) : Touches [.mon] s (serveClearLatched x s).1 := by
  unfold serveClearLatched
  split
  · exact Touches.refl _ s
  · exact withMon_touches _ s

theorem serveReadStep_touches (i : Nat) (s : State) : Touches [] s (serveReadStep i s).1 := by
  unfold serveReadStep planRefused
  split <;> exact Touches.refl _ s

theorem serveReadRunLog_touches (i : Nat) (s : State) : Touches [] s (serveReadRunLog i s).1 := by
  unfold serveReadRunLog
  split <;> exact Touches.refl _ s

theorem serveLibSave_touches (i : Nat) (s : State) : Touches [.store] s (serveLibSave i s).1 := by
  unfold serveLibSave
  split_ifs
  case neg => exact withStore_touches _ s
  all_goals exact Touches.refl _ s

theorem serveLibLoad_touches (i : Nat) (s : State) : Touches [.store] s (serveLibLoad i s).1 := by
  unfold serveLibLoad
  split_ifs
  case neg => exact withStore_touches _ s
  all_goals exact Touches.refl _ s

theorem serveLibErase_touches (i : Nat) (s : State) : Touches [.store] s (serveLibErase i s).1 := by
  unfold serveLibErase
  split_ifs
  case neg => exact withStore_touches _ s
  all_goals exact Touches.refl _ s

theorem serveLibWriteCal_touches (s : State) : Touches [.store] s (serveLibWriteCal s).1 := by
  unfold serveLibWriteCal
  split_ifs
  case neg => exact withStore_touches _ s
  all_goals exact Touches.refl _ s

/-- The library's requests, which begin the store's operations. -/
def startsStore : Request → Bool
  | .libSave _ | .libLoad _ | .libErase _ | .libWriteCal => true
  | _ => false

/-- A request that neither edits the plan nor begins an operation of the store reaches neither. -/
theorem serveRequest_touches (p : Port) {r : Request} (hp : editsPlan r = false) (hs : startsStore r = false) (s : State) :
    Touches unitReach s (serveRequest p r s).1 := by
  cases r
  case readStatus => exact Touches.refl _ s
  case takeNotice => exact (serveTakeNotice_touches p s).mono (by decide)
  case setNoticeMask m => exact (withNotices_touches _ s).mono (by decide)
  case readPlanHeader => exact Touches.refl _ s
  case readStep i => exact (serveReadStep_touches i s).mono (by decide)
  case startRun rev i => exact serveStartRun_touches rev i s
  case pause => exact (servePause_touches s).mono engineReach_unit
  case resume => exact (serveResume_touches s).mono engineReach_unit
  case abort => exact (serveAbort_touches s).mono engineReach_unit
  case skipStep i => exact (serveSkipStep_touches i s).mono engineReach_unit
  case confirm i => exact (serveConfirm_touches i s).mono engineReach_unit
  case clearTrip => exact (serveClearTrip_touches s).mono engineReach_unit
  case readRunLog i => exact (serveReadRunLog_touches i s).mono (by decide)
  case tarePush => exact (serveTarePush_touches p s).mono scaleReach_unit
  case tarePop => exact (serveTarePop_touches p s).mono scaleReach_unit
  case tareClear => exact (serveTareClear_touches p s).mono scaleReach_unit
  case restartScale => exact (serveRestartScale_touches s).mono scaleReach_unit
  case calZero => exact (beginCapture_touches _ _ s).mono scaleReach_unit
  case calSpan => exact (beginCapture_touches _ _ s).mono scaleReach_unit
  case readCal => exact Touches.refl _ s
  case permit key => exact servePermit_touches key s
  case clearLatched x => exact (serveClearLatched_touches x s).mono (by decide)
  case libInfo => exact Touches.refl _ s
  all_goals simp [editsPlan, startsStore] at hp hs

/-- A request that begins an operation of the store changes the store alone. -/
theorem serveRequest_store_touches (p : Port) {r : Request} (hs : startsStore r = true) (s : State) :
    Touches [.store] s (serveRequest p r s).1 := by
  cases r
  case libSave i => exact serveLibSave_touches i s
  case libLoad i => exact serveLibLoad_touches i s
  case libErase i => exact serveLibErase_touches i s
  case libWriteCal => exact serveLibWriteCal_touches s
  all_goals cases hs

/-! ### The plan edits -/

/-- What a plan edit can change. -/
def editReach : List Block := .plan :: engineReach

theorem acceptEdit_touches (p : Port) (i : Nat) (x : List StepRecord) (s : State) :
    Touches editReach s (acceptEdit p i x s) :=
  ((withPlan_touches _ s).mono (by decide)).trans ((post_touches _ _).mono (by decide))

theorem replaceAt_touches (p : Port) (i : Nat) (old r : StepRecord) (s : State) :
    Touches editReach s (replaceAt p i old r s) :=
  Touches.ite _ ((acceptEdit_touches p _ _ s).trans ((adoptStep_touches old r _).mono (by decide)))
    (acceptEdit_touches p _ _ s)

/-- R16, R17: what a replacement leaves of the plan. -/
theorem replaceAt_plan (p : Port) (i : Nat) (old r : StepRecord) (s : State) :
    (replaceAt p i old r s).plan = (acceptEdit p s.plan.planId (s.plan.steps.set i r) s).plan := by
  unfold replaceAt
  dsimp only
  split
  · exact adoptStep_touches old r _ .plan (by decide)
  · rfl

/-- R10, R15: an INSERT_STEP is refused or stores its record. -/
theorem serveInsertStep_cases (p : Port) (rev i : Nat) (raw : RawStep) (s : State) :
    (serveInsertStep p rev i raw s).1 = s
      ∨ ∃ r, acceptRaw raw = some r ∧ s.loadInFlight = false ∧ i ≤ s.plan.steps.length ∧ s.plan.steps.length < 48
        ∧ atOrBelowLive i s = false
        ∧ (serveInsertStep p rev i raw s).1 = acceptEdit p s.plan.planId (insertAt i r.stored s.plan.steps) s := by
  unfold serveInsertStep planRefused
  split_ifs with h1 h2 h3 h4 h5
  case neg =>
    split
    · exact .inl rfl
    · rename_i r hr
      exact .inr ⟨r, hr, by simpa using h1, by omega, by omega, by simpa using h5, rfl⟩
  all_goals exact .inl rfl

/-- R10, R16, R17: a REPLACE_STEP is refused or stores its record, of the live step's kind where it replaces that. -/
theorem serveReplaceStep_cases (p : Port) (rev i : Nat) (raw : RawStep) (s : State) :
    (serveReplaceStep p rev i raw s).1 = s
      ∨ ∃ old r, s.plan.steps[i]? = some old ∧ acceptRaw raw = some r ∧ s.loadInFlight = false ∧ belowLive i s = false
        ∧ (isLiveIndex i s = true → r.kind = old.kind)
        ∧ (serveReplaceStep p rev i raw s).1 = replaceAt p i old r.stored s := by
  unfold serveReplaceStep planRefused
  split
  · exact .inl rfl
  rename_i hload
  split
  · exact .inl rfl
  split
  · exact .inl rfl
  rename_i old hold
  split
  · exact .inl rfl
  rename_i hbelow
  split
  · exact .inl rfl
  rename_i r hr
  split
  · exact .inl rfl
  rename_i hkind
  exact .inr ⟨old, r, hold, hr, by simpa using hload, by simpa using hbelow, by simpa using hkind, rfl⟩

/-- R10, R18: a REMOVE_STEP is refused or takes its step out. -/
theorem serveRemoveStep_cases (p : Port) (rev i : Nat) (s : State) :
    (serveRemoveStep p rev i s).1 = s
      ∨ s.loadInFlight = false ∧ i < s.plan.steps.length ∧ atOrBelowLive i s = false
        ∧ (serveRemoveStep p rev i s).1 = acceptEdit p s.plan.planId (removeAt i s.plan.steps) s := by
  unfold serveRemoveStep planRefused
  split_ifs with h1 h2 h3 h4
  case neg => exact .inr ⟨by simpa using h1, by omega, by simpa using h4, rfl⟩
  all_goals exact .inl rfl

/-- R10, R19: a CLEAR_PLAN is refused or leaves an empty plan, outside a run. -/
theorem serveClearPlan_cases (p : Port) (rev : Nat) (s : State) :
    (serveClearPlan p rev s).1 = s
      ∨ s.loadInFlight = false ∧ s.inRun = false ∧ (serveClearPlan p rev s).1 = acceptEdit p 0 [] s := by
  unfold serveClearPlan planRefused
  split_ifs with h1 h2 h3
  case neg => exact .inr ⟨by simpa using h1, by simpa using h3, rfl⟩
  all_goals exact .inl rfl

/-- R10, R20: a SET_PLAN_ID is refused or sets the id. -/
theorem serveSetPlanId_cases (p : Port) (rev i : Nat) (s : State) :
    (serveSetPlanId p rev i s).1 = s
      ∨ s.loadInFlight = false ∧ (serveSetPlanId p rev i s).1 = acceptEdit p i s.plan.steps s := by
  unfold serveSetPlanId planRefused
  split_ifs with h1 h2
  case neg => exact .inr ⟨by simpa using h1, rfl⟩
  all_goals exact .inl rfl

/-- R22, R181: the end of a load leaves the plan, or replaces it by what the image holds. -/
theorem endLoad_cases (s : State) :
    (∀ slot, s.store.op ≠ .load slot) ∧ endLoad s = s
      ∨ ∃ slot, s.store.op = .load slot ∧
        ((∃ r rev, endLoad s = endOperation .load (some slot) r rev s)
          ∨ ∃ planId steps, judgeImage s.store.array slot = (.ok, planId, steps)
            ∧ endLoad s = endOperation .load (some slot) .ok (some (nextRevision s.plan.revision))
                (replacePlan slot planId steps s)) := by
  unfold endLoad
  split
  · rename_i slot hop
    refine .inr ⟨slot, hop, ?_⟩
    split
    · rename_i planId steps hj
      exact .inr ⟨planId, steps, hj, rfl⟩
    · rename_i r _ _ _ _
      exact .inl ⟨r, none, rfl⟩
  all_goals
    rename_i hop
    exact .inl ⟨by simp [hop], rfl⟩

end Sys2Proof.Machine
end

section
/-! PROOFS. Plan Memory's own invariant: every command keeps the plan within its count, its ranges and its stored form. -/

namespace Sys2Proof.Machine

/-! ### What a safe plan is made of -/

/-- R1 to R9: a list of records that Plan Memory can hold. -/
def stepsLegal (steps : List StepRecord) : Prop := steps.length ≤ 48 ∧ ∀ r ∈ steps, r.legal = true

theorem Plan.safe_iff (x : Plan) : x.safe = true ↔
    stepsLegal x.steps ∧ x.revision ≤ 65535 ∧ x.planId ≤ 65535 ∧ (x.slot.isSome ↔ x.origin = .store) := by
  simp only [Plan.safe, stepsLegal, Bool.and_eq_true, decide_eq_true_eq, List.all_eq_true, beq_iff_eq,
    Bool.eq_iff_iff (b := decide _), and_assoc]

theorem nextRevision_le {n : Nat} (h : n ≤ 65535) : nextRevision n ≤ 65535 := by
  unfold nextRevision; split_ifs <;> omega

/-- R2, R3: an accepted edit with legal records and an id in range leaves a safe plan. -/
theorem acceptEdit_planSafe {p : Port} {planId : Nat} {steps : List StepRecord} {s : State} (h : s.plan.safe = true)
    (hs : stepsLegal steps) (hid : planId ≤ 65535) : (acceptEdit p planId steps s).plan.safe = true := by
  obtain ⟨_, hrev, _, _⟩ := (Plan.safe_iff _).mp h
  rw [Plan.safe_iff, acceptEdit_plan]
  exact ⟨hs, nextRevision_le hrev, hid, by cases p <;> simp [portOrigin]⟩

theorem insertAt_legal {i : Nat} {r : StepRecord} {steps : List StepRecord} (h : stepsLegal steps)
    (hi : i ≤ steps.length) (hlen : steps.length < 48) (hr : r.legal = true) : stepsLegal (insertAt i r steps) := by
  refine ⟨by rw [insertAt_length hi]; omega, fun q hq => ?_⟩
  rw [insertAt, List.mem_append, List.mem_cons] at hq
  obtain hq | rfl | hq := hq
  · exact h.2 q (List.mem_of_mem_take hq)
  · exact hr
  · exact h.2 q (List.mem_of_mem_drop hq)

theorem removeAt_legal {i : Nat} {steps : List StepRecord} (h : stepsLegal steps) : stepsLegal (removeAt i steps) := by
  refine ⟨?_, fun q hq => ?_⟩
  · have := h.1
    simp [removeAt]; omega
  · rw [removeAt, List.mem_append] at hq
    exact h.2 q (hq.elim List.mem_of_mem_take List.mem_of_mem_drop)

theorem set_legal {i : Nat} {r : StepRecord} {steps : List StepRecord} (h : stepsLegal steps) (hr : r.legal = true) :
    stepsLegal (steps.set i r) := by
  refine ⟨by simpa using h.1, fun q hq => ?_⟩
  obtain hq | rfl := List.mem_or_eq_of_mem_set hq
  · exact h.2 q hq
  · exact hr

/-! ### What a load stages -/

/-- R181, test 3: a staged record is one that Plan Memory can hold. -/
theorem recordOfWords_legal {ws : List Word16} {r : StepRecord} (h : recordOfWords ws = some r) : r.legal = true := by
  unfold recordOfWords at h
  split at h
  · rename_i raw hraw
    split at h
    · rename_i q hq
      split_ifs at h with hst
      cases h
      rw [← hst]
      exact stored_legal (rawOfBytes_wf hraw) hq
    · cases h
  · cases h

theorem imageRecords_succ_eq_some {m : Memory} {a n : Nat} {rs : List StepRecord} :
    imageRecords m a (n + 1) = some rs ↔
      ∃ r rest, recordOfWords (Memory.readRange m a 10) = some r ∧ imageRecords m (a + 10) n = some rest
        ∧ rs = r :: rest := by
  rw [imageRecords]
  cases recordOfWords (Memory.readRange m a 10) <;> cases imageRecords m (a + 10) n <;> simp [eq_comm]

theorem imageRecords_legal {m : Memory} : ∀ {n a : Nat} {rs : List StepRecord}, imageRecords m a n = some rs →
    rs.length = n ∧ ∀ r ∈ rs, r.legal = true
  | 0, _, rs, h => by cases h; simp
  | n + 1, a, rs, h => by
    obtain ⟨r, rest, hr, hrest, rfl⟩ := imageRecords_succ_eq_some.mp h
    obtain ⟨hlen, hall⟩ := imageRecords_legal hrest
    refine ⟨by simp [hlen], fun q hq => ?_⟩
    obtain rfl | hq := List.mem_cons.mp hq
    · exact recordOfWords_legal hr
    · exact hall q hq

/-- R181: what a load that ends with OK has found. -/
theorem judgeImage_eq_ok {m : Memory} {slot planId : Nat} {steps : List StepRecord} :
    judgeImage m slot = (.ok, planId, steps) ↔
      slotWord m slot 0 = slotMarker ∧ (slotWord m slot 2).toNat ≤ 48 ∧ slotWord m slot 5 = formedCheck m slot
        ∧ (slotWord m slot 4).toNat ≤ 2 ∧ imageRecords m (slotBase slot + 8) (slotWord m slot 2).toNat = some steps
        ∧ (slotWord m slot 1).toNat = planId := by
  unfold judgeImage
  split_ifs with h1 h2
  · simp only [Prod.mk.injEq, reduceCtorEq, false_and, false_iff, not_and]
    intro hm hc
    exact absurd h1 (by simp [hm, hc])
  · simp only [Prod.mk.injEq, reduceCtorEq, false_and, false_iff, not_and]
    intro _ _ hk ho
    exact absurd h2 (by simp [hk, ho])
  · simp only [not_or, not_not, not_lt] at h1 h2
    cases himg : imageRecords m (slotBase slot + 8) (slotWord m slot 2).toNat with
    | none => simp
    | some rs => simp [h1, h2, and_comm]

theorem judgeImage_legal {m : Memory} {slot planId : Nat} {steps : List StepRecord}
    (h : judgeImage m slot = (.ok, planId, steps)) : stepsLegal steps ∧ planId ≤ 65535 := by
  obtain ⟨_, hcount, _, _, himg, rfl⟩ := judgeImage_eq_ok.mp h
  obtain ⟨hlen, hall⟩ := imageRecords_legal himg
  exact ⟨⟨by omega, hall⟩, by omega⟩

/-! ### Every command (O9) -/

/-- The invariant of O9: the plan is safe and the commands that wait are well formed. -/
def planKept (s : State) : Prop := s.plan.safe = true ∧ s.pending.all Instr.wf = true

theorem planKept_of_touches {ts : List Block} {s t : State} (h : planKept s) (k : Touches ts s t)
    (hp : .plan ∉ ts) (hq : .pending ∉ ts) : planKept t := by
  have h1 : t.plan = s.plan := k .plan hp
  have h2 : t.pending = s.pending := k .pending hq
  rw [planKept, h1, h2]
  exact h

theorem planKept_portFree : PortFree planKept where
  port p _ h := by cases p <;> exact h
  rx _ h := h
  psdo _ h := h
  after _ h := h

/-- A plan edit that leaves a safe plan keeps the invariant. -/
theorem planKept_of_edit {s t : State} (h : planKept s) (k : Touches editReach s t) (hp : t.plan.safe = true) :
    planKept t := by
  have h2 : t.pending = s.pending := k .pending (by decide)
  exact ⟨hp, h2 ▸ h.2⟩

theorem serveEdit_planKept {p : Port} {r : Request} {s : State} (hr : editsPlan r = true) (hw : r.wf = true)
    (h : planKept s) : planKept (serveRequest p r s).1 := by
  obtain ⟨hsteps, hrev, hid, _⟩ := (Plan.safe_iff _).mp h.1
  cases r
  case insertStep rev i raw =>
    simp only [Request.wf, Bool.and_eq_true] at hw
    obtain he | ⟨q, hq, _, hi, hlen, _, he⟩ := serveInsertStep_cases p rev i raw s
    all_goals rw [serveRequest, he]
    · exact h
    · exact planKept_of_edit h (acceptEdit_touches _ _ _ s)
        (acceptEdit_planSafe h.1 (insertAt_legal hsteps hi hlen (stored_legal hw.2 hq)) hid)
  case replaceStep rev i raw =>
    simp only [Request.wf, Bool.and_eq_true] at hw
    obtain he | ⟨old, q, _, hq, _, _, _, he⟩ := serveReplaceStep_cases p rev i raw s
    all_goals rw [serveRequest, he]
    · exact h
    · refine planKept_of_edit h (replaceAt_touches _ _ _ _ s) ?_
      rw [replaceAt_plan]
      exact acceptEdit_planSafe h.1 (set_legal hsteps (stored_legal hw.2 hq)) hid
  case removeStep rev i =>
    obtain he | ⟨_, _, _, he⟩ := serveRemoveStep_cases p rev i s
    all_goals rw [serveRequest, he]
    · exact h
    · exact planKept_of_edit h (acceptEdit_touches _ _ _ s) (acceptEdit_planSafe h.1 (removeAt_legal hsteps) hid)
  case clearPlan rev =>
    obtain he | ⟨_, _, he⟩ := serveClearPlan_cases p rev s
    all_goals rw [serveRequest, he]
    · exact h
    · exact planKept_of_edit h (acceptEdit_touches _ _ _ s)
        (acceptEdit_planSafe h.1 ⟨by simp, by simp⟩ (by omega))
  case setPlanId rev i =>
    simp only [Request.wf, Bool.and_eq_true, decide_eq_true_eq] at hw
    obtain he | ⟨_, he⟩ := serveSetPlanId_cases p rev i s
    all_goals rw [serveRequest, he]
    · exact h
    · exact planKept_of_edit h (acceptEdit_touches _ _ _ s) (acceptEdit_planSafe h.1 hsteps (by omega))
  all_goals cases hr

theorem serveRequest_planKept {p : Port} {r : Request} {s : State} (hw : r.wf = true) (h : planKept s) :
    planKept (serveRequest p r s).1 := by
  cases he : editsPlan r
  · cases hs : startsStore r
    · exact planKept_of_touches h (serveRequest_touches p he hs s) (by decide) (by decide)
    · exact planKept_of_touches h (serveRequest_store_touches p hs s) (by decide) (by decide)
  · exact serveEdit_planKept he hw h

theorem endLoad_planKept {s : State} (h : planKept s) : planKept (endLoad s) := by
  obtain ⟨_, he⟩ | ⟨slot, _, ⟨r, rev, he⟩ | ⟨planId, steps, hj, he⟩⟩ := endLoad_cases s
  all_goals rw [he]
  · exact h
  · exact planKept_of_touches h (endOperation_touches _ _ _ _ s) (by decide) (by decide)
  · obtain ⟨hsteps, hid⟩ := judgeImage_legal hj
    refine planKept_of_touches ?_ (endOperation_touches _ _ _ _ (replacePlan slot planId steps s)) (by decide) (by decide)
    refine ⟨(Plan.safe_iff _).mpr ⟨hsteps, nextRevision_le ((Plan.safe_iff _).mp h.1).2.1, hid, ?_⟩, h.2⟩
    exact iff_of_true rfl rfl

theorem unitEvent_planKept {c : Instr} {s t : State} (hu : unitEvent c = true) (h : planKept s)
    (he : exec c s = .next t) : planKept t := by
  cases hs : storeEvent c
  · exact planKept_of_touches h (unitEvent_touches hu hs he) (by decide) (by decide)
  · cases c
    case scanEnd dt =>
      cases he
      exact planKept_of_touches (planKept_portFree.after dt h) (endScan_touches _) (by decide) (by decide)
    case wordWriteEnd dt a b =>
      cases he
      exact planKept_of_touches (planKept_portFree.after dt h) (endWordWrite_touches a b _) (by decide) (by decide)
    case loadReadEnd dt => cases he; exact endLoad_planKept (planKept_portFree.after dt h)
    all_goals cases hs

/-- R1: a reset leaves the empty plan. -/
theorem resetState_planKept {s : State} (h : s.pending.all Instr.wf = true) : planKept (resetState s) := ⟨rfl, h⟩

/-- Settles O9: each command, well formed as it waits in the queue, keeps the plan safe and takes none of the others. -/
theorem everyStepKeepsThePlanSafe : Obligations.EveryStepKeepsThePlanSafe := by
  intro s t hpend hplan hstep
  unfold step at hstep
  split at hstep
  · cases hstep
    exact ⟨hplan, hpend⟩
  · rename_i c rest hq
    rw [hq, List.all_cons, Bool.and_eq_true] at hpend
    have h : planKept { s with pending := rest } := ⟨hplan, hpend.2⟩
    by_cases hc : c = .reset
    · subst hc
      cases hstep
      exact resetState_planKept hpend.2
    · exact planKept_portFree.exec (W := fun r => r.wf = true) (fun _ hw => hw) (fun _ _ _ => serveRequest_planKept)
        (fun _ _ _ => unitEvent_planKept) hc (fun r hr => wf_of_request hr hpend.1) h hstep

end Sys2Proof.Machine
end

section
/-! PROOFS. The run as a whole: what each operation of the Step Engine leaves of the engine, and that every command keeps
engine state, live step, causes, trip set and plan in agreement. -/

namespace Sys2Proof.Machine

/-! ### What the operations leave of the engine -/

@[simp] theorem tellWish_engine (w : Bool) (s : State) : (tellWish w s).engine = s.engine :=
  tellWish_touches w s .engine (by decide)
@[simp] theorem tellLidOpen_engine (w : Bool) (s : State) : (tellLidOpen w s).engine = s.engine :=
  tellLidOpen_touches w s .engine (by decide)
@[simp] theorem syncWish_engine (s : State) : (syncWish s).engine = s.engine := syncWish_touches s .engine (by decide)
@[simp] theorem syncHold_engine (s : State) : (syncHold s).engine = s.engine := rfl
@[simp] theorem postEngineState_engine (s : State) : (postEngineState s).engine = s.engine := rfl
@[simp] theorem mapLive_engine (f : Live → Live) (s : State) :
    (s.mapLive f).engine = { s.engine with live := s.engine.live.map f } := rfl

/-- R39: the settle deadline cancelled. -/
def Live.cancelSettle (l : Live) : Live := { l with settleBy := none }

@[simp] theorem entryActions_engine (s : State) :
    (entryActions s).engine = { s.engine with live := s.engine.live.map Live.cancelSettle } := by
  simp [entryActions]
  rfl

@[simp] theorem enterPaused_engine (c : CauseSet) (s : State) :
    (enterPaused c s).engine = { s.engine with
      state := .paused, causes := c, trips := 0, firstTrip := none, live := s.engine.live.map Live.cancelSettle } := by
  simp [enterPaused]

@[simp] theorem enterEnded_engine (r : EndReason) (s : State) :
    (enterEnded r s).engine = { s.engine with
      state := .ended, live := none, causes := CauseSet.none, trips := 0, firstTrip := none, endReason := some r } := by
  simp [enterEnded]

@[simp] theorem enterTripped_engine (d : Detector) (s : State) :
    (enterTripped d s).engine = { s.engine with
      state := .tripped, causes := CauseSet.none, trips := d.set, firstTrip := some d,
      live := s.engine.live.map Live.cancelSettle } := by
  simp [enterTripped]

theorem joinTrip_engine (d : Detector) (s : State) :
    (joinTrip d s).engine
      = if DetSet.has s.engine.trips d then s.engine else { s.engine with trips := s.engine.trips ||| d.set } := by
  unfold joinTrip
  split <;> rfl

theorem closeStep_engine (e : StepEnd) (s : State) :
    ∃ log, (closeStep e s).engine = { s.engine with log := log } := by
  unfold closeStep
  split
  · exact ⟨_, rfl⟩
  · exact ⟨s.engine.log, rfl⟩

@[simp] theorem judgeAndPost_engine (s : State) : (judgeAndPost s).engine = s.engine := by
  unfold judgeAndPost; split <;> rfl

@[simp] theorem handOver_engine (r : StepRecord) (s : State) : (handOver r s).engine = s.engine := by
  simp [handOver]

@[simp] theorem announceStep_engine (i : Nat) (r : StepRecord) (f : Bool) (s : State) :
    (announceStep i r f s).engine = s.engine := announceStep_touches i r f s .engine (by decide)

theorem phaseChecks_state (s : State) : (phaseChecks s).1.engine.state = s.engine.state := by
  unfold phaseChecks
  split
  · rfl
  · dsimp only; split <;> rfl

theorem comeIntoPhase_state (s : State) : (comeIntoPhase s).1.engine.state = s.engine.state := by
  unfold comeIntoPhase
  split
  · rfl
  · rfl
  · exact phaseChecks_state s
  · exact phaseChecks_state s
  · exact phaseChecks_state s
  · exact phaseChecks_state s
  · rfl

/-- R29, R30: coming into a phase changes no engine state. -/
theorem comeIn_state (s : State) : (comeIn s).1.engine.state = s.engine.state := by
  unfold comeIn comeIntoLocking
  split
  · split
    · exact comeIntoPhase_state _
    · rfl
  · exact comeIntoPhase_state s

/-! ### The invariant, clause by clause -/

/-- R25, R28: a live step context that goes with its plan. -/
structure LiveOk (x : Plan) (l : Live) : Prop where
  kind : (x.steps[l.index]?).map (·.kind) = some l.kind
  ret : l.returnPhase.isSome = true ↔ l.phase = .locking
  notLocking : l.returnPhase ≠ some .locking

theorem Live.safe_iff (x : Plan) (l : Live) : l.safe x = true ↔ LiveOk x l := by
  simp only [Live.safe, Bool.and_eq_true, decide_eq_true_eq, beq_iff_eq, Bool.eq_iff_iff (b := decide _)]
  exact ⟨fun ⟨⟨h1, h2⟩, h3⟩ => ⟨h1, h2, h3⟩, fun ⟨h1, h2, h3⟩ => ⟨⟨h1, h2⟩, h3⟩⟩

/-- R22, R24, R43: an engine that goes with its plan and with whether a load is in flight. -/
structure RunOk (x : Plan) (load : Bool) (e : Engine) : Prop where
  live : e.live.isSome = e.state.inRun
  paused : e.state = .paused → e.causes.request = true
  causes : e.state ≠ .paused → e.causes = CauseSet.none
  trips : e.trips ≠ 0 ↔ e.state = .tripped
  first : e.firstTrip.isSome = true ↔ e.state = .tripped
  reason : e.endReason.isSome = true ↔ e.state = .ended
  step : ∀ l, e.live = some l → LiveOk x l
  load : load = true → e.state.inRun = false

/-- The invariant of O20 at a state. -/
def State.runOk (s : State) : Prop := RunOk s.plan s.loadInFlight s.engine

theorem State.runSafe_iff (s : State) : s.runSafe = true ↔ s.runOk := by
  have hcauses : (if s.engine.state = .paused then s.engine.causes.request else decide (s.engine.causes = CauseSet.none))
        = true ↔ (s.engine.state = .paused → s.engine.causes.request = true)
          ∧ (s.engine.state ≠ .paused → s.engine.causes = CauseSet.none) := by
    by_cases h : s.engine.state = .paused <;> simp [h]
  simp only [State.runSafe, Engine.safe, Bool.and_eq_true, hcauses, beq_iff_eq, Bool.eq_iff_iff (b := decide _),
    decide_eq_true_eq, Bool.not_eq_true', Bool.and_eq_false_imp, State.inRun]
  constructor
  · rintro ⟨⟨⟨⟨⟨⟨h1, h2, h3⟩, h4⟩, h5⟩, h6⟩, h7⟩, h8⟩
    exact ⟨h1, h2, h3, h4, h5, h6, fun l hl => by rw [hl] at h7; exact (Live.safe_iff _ _).mp h7, h8⟩
  · rintro ⟨h1, h2, h3, h4, h5, h6, h7, h8⟩
    refine ⟨⟨⟨⟨⟨⟨h1, h2, h3⟩, h4⟩, h5⟩, h6⟩, ?_⟩, h8⟩
    cases hl : s.engine.live with
    | none => rfl
    | some l => exact (Live.safe_iff _ _).mpr (h7 l hl)

theorem EngineState.inRun_iff {st : EngineState} : st.inRun = true ↔ st = .running ∨ st = .paused ∨ st = .tripped := by
  cases st <;> simp [EngineState.inRun]

theorem Detector.set_ne_zero (d : Detector) : d.set ≠ 0 := by cases d <;> decide

section
variable {x : Plan} {load : Bool} {e : Engine}

theorem RunOk.reason_of_inRun (h : RunOk x load e) (hr : e.state.inRun = true) : e.endReason = none := by
  have hne : e.state ≠ .ended := by rintro he; rw [he] at hr; cases hr
  simpa [hne] using h.reason

theorem RunOk.load_of_inRun (h : RunOk x load e) (hr : e.state.inRun = true) : load = false := by
  cases hl : load
  · rfl
  · rw [h.load hl] at hr; cases hr

theorem RunOk.live_of_inRun (h : RunOk x load e) (hr : e.state.inRun = true) : ∃ l, e.live = some l :=
  Option.isSome_iff_exists.mp (h.live.trans hr)

theorem RunOk.inRun_of_live (h : RunOk x load e) {l : Live} (hl : e.live = some l) : e.state.inRun = true := by
  rw [← h.live, hl]; rfl

/-- A change of the live step context, within the same plan. -/
theorem RunOk.map (h : RunOk x load e) {f : Live → Live} (hf : ∀ l, e.live = some l → LiveOk x l → LiveOk x (f l)) :
    RunOk x load { e with live := e.live.map f } where
  live := by simpa using h.live
  paused := h.paused
  causes := h.causes
  trips := h.trips
  first := h.first
  reason := h.reason
  load := h.load
  step l hl := by
    obtain ⟨l', hl', rfl⟩ := Option.map_eq_some_iff.mp hl
    exact hf l' hl' (h.step l' hl')

theorem LiveOk.cancelSettle {l : Live} (h : LiveOk x l) : LiveOk x l.cancelSettle := ⟨h.kind, h.ret, h.notLocking⟩

/-- R27, R43: a run paused. -/
theorem RunOk.pause (h : RunOk x load e) (hr : e.state.inRun = true) {c : CauseSet} (hc : c.request = true) :
    RunOk x load { e with
      state := .paused, causes := c, trips := 0, firstTrip := none, live := e.live.map Live.cancelSettle } where
  live := by rw [Option.isSome_map, h.live, hr]; rfl
  paused _ := hc
  causes hne := absurd rfl hne
  trips := by simp
  first := by simp
  reason := by simp [h.reason_of_inRun hr]
  load hl := absurd hl (by simp [h.load_of_inRun hr])
  step := (h.map fun l _ => LiveOk.cancelSettle).step

/-- R24: a run ended. -/
theorem RunOk.ended (r : EndReason) :
    RunOk x load { e with
      state := .ended, live := none, causes := CauseSet.none, trips := 0, firstTrip := none, endReason := some r } where
  live := rfl
  paused hp := by cases hp
  causes _ := rfl
  trips := by simp
  first := by simp
  reason := by simp
  load _ := rfl
  step l hl := by cases hl

/-- R51: a run tripped. -/
theorem RunOk.trip (h : RunOk x load e) (hr : e.state.inRun = true) (d : Detector) :
    RunOk x load { e with
      state := .tripped, causes := CauseSet.none, trips := d.set, firstTrip := some d,
      live := e.live.map Live.cancelSettle } where
  live := by rw [Option.isSome_map, h.live, hr]; rfl
  paused hp := by cases hp
  causes _ := rfl
  trips := by simpa using d.set_ne_zero
  first := by simp
  reason := by simp [h.reason_of_inRun hr]
  load hl := absurd hl (by simp [h.load_of_inRun hr])
  step := (h.map fun l _ => LiveOk.cancelSettle).step

/-- R52: a detector joins the trip set of a TRIPPED engine. -/
theorem RunOk.join (h : RunOk x load e) (hs : e.state = .tripped) (d : Detector) :
    RunOk x load { e with trips := e.trips ||| d.set } where
  live := h.live
  paused := h.paused
  causes := h.causes
  trips := by
    refine iff_of_true (fun hz => d.set_ne_zero ?_) hs
    exact (BitVec.or_eq_zero_iff.mp hz).2
  first := h.first
  reason := h.reason
  load := h.load
  step := h.step

/-- R45, R46: a cause joins or leaves a PAUSED engine, REQUEST staying. -/
theorem RunOk.setCauses (h : RunOk x load e) (hs : e.state = .paused) {c : CauseSet} (hc : c.request = true) :
    RunOk x load { e with causes := c } where
  live := h.live
  paused _ := hc
  causes hne := absurd hs hne
  trips := h.trips
  first := h.first
  reason := h.reason
  load := h.load
  step := h.step

/-- R33: another live step context in the same engine state. -/
theorem RunOk.setLive {l l' : Live} (h : RunOk x load { e with live := some l }) (hl : LiveOk x l') :
    RunOk x load { e with live := some l' } where
  live := h.live
  paused := h.paused
  causes := h.causes
  trips := h.trips
  first := h.first
  reason := h.reason
  load := h.load
  step q hq := by cases hq; exact hl

/-- R58: a change of the run log, the clocks or the time base. -/
theorem RunOk.of_eq {e' : Engine} (h : RunOk x load e) (hs : e'.state = e.state) (hl : e'.live = e.live)
    (hc : e'.causes = e.causes) (ht : e'.trips = e.trips) (hf : e'.firstTrip = e.firstTrip)
    (hr : e'.endReason = e.endReason) : RunOk x load e' where
  live := by rw [hs, hl]; exact h.live
  paused := by rw [hs, hc]; exact h.paused
  causes := by rw [hs, hc]; exact h.causes
  trips := by rw [hs, ht]; exact h.trips
  first := by rw [hs, hf]; exact h.first
  reason := by rw [hs, hr]; exact h.reason
  load := by rw [hs]; exact h.load
  step := by rw [hl]; exact h.step

/-- R15 to R20: a plan whose step at the live index keeps its kind. -/
theorem RunOk.setPlan {y : Plan} (h : RunOk x load e)
    (hk : ∀ l, e.live = some l → (y.steps[l.index]?).map (·.kind) = (x.steps[l.index]?).map (·.kind)) :
    RunOk y load e where
  live := h.live
  paused := h.paused
  causes := h.causes
  trips := h.trips
  first := h.first
  reason := h.reason
  load := h.load
  step l hl := by
    have hok := h.step l hl
    exact ⟨(hk l hl).trans hok.kind, hok.ret, hok.notLocking⟩

end

/-! ### The Step Engine's operations -/

/-- The invariant speaks of the engine, the plan and the load alone. -/
theorem runOk_of_touches {ts : List Block} {s t : State} (h : s.runOk) (k : Touches ts s t) (hp : .plan ∉ ts)
    (he : .engine ∉ ts) (hs : .store ∉ ts) : t.runOk := by
  have h1 : t.plan = s.plan := k .plan hp
  have h2 : t.engine = s.engine := k .engine he
  have h3 : t.store = s.store := k .store hs
  rw [State.runOk, State.loadInFlight, h1, h2, h3]
  exact h

/-- An operation of the engine keeps the invariant when the engine it leaves goes with the plan. -/
theorem runOk_of_engine {ts : List Block} {s t : State} (k : Touches ts s t) (hp : .plan ∉ ts) (hs : .store ∉ ts)
    (h : RunOk s.plan s.loadInFlight t.engine) : t.runOk := by
  have h1 : t.plan = s.plan := k .plan hp
  have h3 : t.store = s.store := k .store hs
  rw [State.runOk, State.loadInFlight, h1, h3]
  exact h

theorem enterEnded_runOk (r : EndReason) (s : State) : (enterEnded r s).runOk :=
  runOk_of_engine (enterEnded_touches r s) (by decide) (by decide) (by rw [enterEnded_engine]; exact RunOk.ended r)

section
variable {s : State} (h : s.runOk)
include h

theorem mapLive_runOk {f : Live → Live} (hf : ∀ l, s.engine.live = some l → LiveOk s.plan l → LiveOk s.plan (f l)) :
    (s.mapLive f).runOk := RunOk.map h hf

theorem syncHold_runOk : (syncHold s).runOk := h
theorem syncWish_runOk : (syncWish s).runOk :=
  runOk_of_touches h (syncWish_touches s) (by decide) (by decide) (by decide)
theorem withConv_runOk (x : Converter) : (s.withConv x).runOk := h
theorem withHeat_runOk (x : Heat) : (s.withHeat x).runOk := h
theorem withStir_runOk (x : Stir) : (s.withStir x).runOk := h
theorem withMon_runOk (x : Monitor) : (s.withMon x).runOk := h
theorem post_runOk (n : Notice) : (post n s).runOk := h
theorem postEngineState_runOk : (postEngineState s).runOk := h

theorem enterPaused_runOk (hr : s.inRun = true) {c : CauseSet} (hc : c.request = true) : (enterPaused c s).runOk :=
  runOk_of_engine (enterPaused_touches c s) (by decide) (by decide) (by rw [enterPaused_engine]; exact RunOk.pause h hr hc)

theorem enterTripped_runOk (hr : s.inRun = true) (d : Detector) : (enterTripped d s).runOk :=
  runOk_of_engine (enterTripped_touches d s) (by decide) (by decide)
    (by rw [enterTripped_engine]; exact RunOk.trip h hr d)

theorem joinTrip_runOk (hs : s.engine.state = .tripped) (d : Detector) : (joinTrip d s).runOk := by
  refine runOk_of_engine (joinTrip_touches d s) (by decide) (by decide) ?_
  rw [joinTrip_engine]
  split
  · exact h
  · exact RunOk.join h hs d

theorem takeTrip_runOk (d : Detector) : (takeTrip d s).runOk := by
  unfold takeTrip
  split
  · cases hst : s.engine.state
    case idle => exact h
    case ended => exact h
    case running => exact enterTripped_runOk h (by simp [State.inRun, hst, EngineState.inRun]) d
    case paused =>
      dsimp only
      split
      · exact h
      · exact enterTripped_runOk h (by simp [State.inRun, hst, EngineState.inRun]) d
    case tripped =>
      dsimp only
      split
      · exact h
      · exact joinTrip_runOk h hst d
  · exact h

theorem closeStep_runOk (e : StepEnd) : (closeStep e s).runOk := by
  obtain ⟨log, hlog⟩ := closeStep_engine e s
  refine runOk_of_engine (closeStep_touches e s) (by decide) (by decide) ?_
  rw [hlog]
  exact RunOk.of_eq h rfl rfl rfl rfl rfl rfl

/-! Phases: the live step stays with its record, and its return phase goes with LOCKING. -/

theorem toPhase_runOk {ph : Phase} (hph : ph ≠ .locking) (hs : s.phase ≠ some .locking) : (toPhase ph s).runOk := by
  refine mapLive_runOk h fun l hl hok => ⟨hok.kind, ?_, hok.notLocking⟩
  have hne : l.phase ≠ .locking := by simpa [State.phase, hl] using hs
  simp only [hph, iff_false, Bool.not_eq_true]
  simpa [hne] using hok.ret

theorem passLocking_runOk : (passLocking s).runOk := by
  refine mapLive_runOk h fun l _ hok => ⟨hok.kind, ?_, by simp⟩
  simp only [Option.isSome_none, Bool.false_eq_true, false_iff]
  cases hret : l.returnPhase with
  | none => simpa [hret] using hok.ret
  | some ph => simpa [hret] using hok.notLocking

theorem phaseChecks_runOk : (phaseChecks s).1.runOk := by
  unfold phaseChecks
  split
  · exact h
  · split
    · rename_i hap
      exact toPhase_runOk h (by decide) (by simp [hap.1])
    · exact h

theorem comeIntoPhase_runOk : (comeIntoPhase s).1.runOk := by
  unfold comeIntoPhase
  split
  · exact mapLive_runOk h fun l _ hok => ⟨hok.kind, hok.ret, hok.notLocking⟩
  · exact h
  · exact phaseChecks_runOk h
  · exact phaseChecks_runOk h
  · exact phaseChecks_runOk h
  · exact phaseChecks_runOk h
  · exact h

theorem comeIn_runOk : (comeIn s).1.runOk := by
  unfold comeIn comeIntoLocking
  split
  · split
    · exact comeIntoPhase_runOk (passLocking_runOk h)
    · exact h
  · exact comeIntoPhase_runOk h

end

/-! ### Step entry and step ends -/

/-- R28: a step entered goes with its record. -/
theorem newLive_ok {x : Plan} {i : Nat} {r : StepRecord} (hr : x.steps[i]? = some r) (f : Bool) (tb : Int) :
    LiveOk x (newLive i r f tb) := by
  refine ⟨by simp [newLive, hr], ?_, ?_⟩
  · cases hk : r.kind <;> cases f <;> simp [newLive, initialPhase, hk]
  · cases hk : r.kind <;> cases f <;> cases hs : r.start <;> simp [newLive, initialPhase, hk, hs]

/-- R33, R34: a step entered in a run, whatever step was live before. -/
theorem enterStep_runOk {s : State} {l : Live} {i : Nat} {r : StepRecord}
    (h : RunOk s.plan s.loadInFlight { s.engine with live := some l }) (hr : s.plan.steps[i]? = some r) :
    (enterStep i r s).runOk := by
  unfold enterStep
  dsimp only
  generalize (decide (r.kind = .dose) && decide (s.scale.status = .uncalibrated)) = f
  have hok : (s.withEngine { s.engine with live := some (newLive i r f s.conv.tb) }).runOk :=
    RunOk.setLive (l := l) h (newLive_ok hr f _)
  have hrun : (s.withEngine { s.engine with live := some (newLive i r f s.conv.tb) }).inRun = true :=
    RunOk.inRun_of_live hok rfl
  have hdone : (announceStep i r f (handOver r (s.withEngine { s.engine with
      live := some (newLive i r f s.conv.tb) }))).runOk := by
    refine runOk_of_engine ((handOver_touches r _).trans ((announceStep_touches i r f _).mono reach_notices))
      (by decide) (by decide) ?_
    rw [announceStep_engine, handOver_engine]
    exact hok
  split
  · refine enterTripped_runOk hdone ?_ .probeB
    rw [State.inRun, announceStep_engine, handOver_engine]
    exact hrun
  · exact hdone

theorem runOk_setLive_self {s : State} (h : s.runOk) {l : Live} (hl : s.engine.live = some l) :
    RunOk s.plan s.loadInFlight { s.engine with live := some l } := by
  rw [← hl]; exact h

/-- R35: a chain of step ends: `rest` are the records above index `i`. -/
theorem endStepAt_runOk : ∀ (rest : List StepRecord) (i : Nat) (e : StepEnd) {s : State}, s.runOk → s.inRun = true →
    s.plan.steps.drop (i + 1) = rest → (endStepAt rest i e s).runOk
  | [], _, _, _, _, _, _ => enterEnded_runOk _ _
  | r :: rest, i, e, s, h, hrun, hrest => by
    have hc := closeStep_runOk h e
    have hplan : (closeStep e s).plan = s.plan := closeStep_touches e s .plan (by decide)
    have hr : (closeStep e s).plan.steps[i + 1]? = some r := by
      rw [hplan, ← List.head?_drop, hrest]; rfl
    obtain ⟨log, hlog⟩ := closeStep_engine e s
    obtain ⟨l, hl⟩ := RunOk.live_of_inRun hc (by rw [hlog]; exact hrun)
    have he : (enterStep (i + 1) r (closeStep e s)).runOk := enterStep_runOk (runOk_setLive_self hc hl) hr
    unfold endStepAt
    dsimp only
    split
    · rename_i hrunning
      have hcome := comeIn_runOk he
      have htouch := comeIn_touches (enterStep (i + 1) r (closeStep e s))
      have hstate := comeIn_state (enterStep (i + 1) r (closeStep e s))
      split
      · rename_i heq
        rw [heq] at hcome
        exact hcome
      · rename_i s' e' heq
        rw [heq] at hcome htouch hstate
        refine endStepAt_runOk rest (i + 1) e' hcome ?_ ?_
        · rw [State.inRun, hstate, of_decide_eq_true hrunning]; rfl
        · have h1 : s'.plan = (enterStep (i + 1) r (closeStep e s)).plan := htouch .plan (by decide)
          have h2 : (enterStep (i + 1) r (closeStep e s)).plan = (closeStep e s).plan :=
            enterStep_touches _ _ _ .plan (by decide)
          rw [h1, h2, hplan, ← List.drop_drop, hrest]; rfl
    · exact he

section
variable {s : State} (h : s.runOk)
include h

theorem endStep_runOk (e : StepEnd) : (endStep e s).runOk := by
  unfold endStep
  split
  · rename_i l hl
    exact endStepAt_runOk _ _ e h (RunOk.inRun_of_live h hl) rfl
  · exact h

end

theorem settleOutcome_runOk {o : State × Option StepEnd} (h : o.1.runOk) : (settleOutcome o).runOk := by
  unfold settleOutcome
  split
  · exact endStep_runOk h _
  · exact h

/-! ### Events that reach the engine -/

section
variable {s : State} (h : s.runOk)
include h

omit h in
theorem State.inRun_of_running (hr : s.isRunning = true) : s.inRun = true := by
  rw [State.inRun, of_decide_eq_true hr]; rfl

theorem takeLockConfirmation_runOk : (takeLockConfirmation s).runOk := by
  unfold takeLockConfirmation
  split
  · exact settleOutcome_runOk (comeIntoPhase_runOk (passLocking_runOk h))
  · exact h

theorem takeTempReached_runOk : (takeTempReached s).runOk := by
  unfold takeTempReached
  split
  · split
    · split
      · exact endStep_runOk h _
      · split
        · rename_i hap
          exact settleOutcome_runOk (phaseChecks_runOk (toPhase_runOk h (by decide) (by simp [hap])))
        · exact h
    · exact h
  · exact h

theorem takeBoil_runOk (b : Bool) : (takeBoil b s).runOk := by
  unfold takeBoil
  dsimp only
  split
  · split
    · exact endStep_runOk (syncHold_runOk h) _
    · exact h
  · exact h

theorem takeLidOpen_runOk : (takeLidOpen s).runOk := by
  unfold takeLidOpen
  split
  · rename_i hr
    exact enterPaused_runOk h (State.inRun_of_running hr.1) rfl
  · exact h

theorem takeLidClosed_runOk : (takeLidClosed s).runOk := by
  unfold takeLidClosed
  split
  · rename_i hp
    exact RunOk.setCauses h hp.1 (h.paused hp.1)
  · exact h

theorem takeLapse_runOk : (takeLapse s).runOk := by
  unfold takeLapse
  split
  · rename_i hr
    exact enterPaused_runOk h (by rw [State.inRun, hr]; rfl) rfl
  · rename_i hp
    split
    · exact h
    · exact RunOk.setCauses h hp (h.paused hp)
  all_goals exact h

theorem takeRearm_runOk : (takeRearm s).runOk := by
  unfold takeRearm
  split
  · rename_i hp
    exact RunOk.setCauses h hp.1 (h.paused hp.1)
  · exact h

/-- R39: a step that settles takes its reference and goes to DOSING. -/
theorem takeReference_runOk (net : Int) (u : Bool) (hs : s.phase = some .settle) : (takeReference net u s).runOk := by
  refine settleOutcome_runOk (comeIntoPhase_runOk (mapLive_runOk h fun l hl hok => ⟨hok.kind, ?_, hok.notLocking⟩))
  have hph : l.phase = .settle := by simpa [State.phase, hl] using hs
  simpa [hph] using hok.ret

theorem noteAdded_runOk (a t : Int) (i : Nat) (l : Live) : (noteAdded a t i l s).runOk := by
  unfold noteAdded
  split
  · exact mapLive_runOk h fun l _ hok => ⟨hok.kind, hok.ret, hok.notLocking⟩
  · exact mapLive_runOk h fun l _ hok => ⟨hok.kind, hok.ret, hok.notLocking⟩

theorem noteOverdose_runOk (a t : Int) (i : Nat) : (noteOverdose a t i s).runOk := by
  unfold noteOverdose
  split
  · exact mapLive_runOk h fun l _ hok => ⟨hok.kind, hok.ret, hok.notLocking⟩
  · exact h

theorem compareDose_runOk (a t : Int) (l : Live) : (compareDose a t l s).runOk := by
  unfold compareDose
  split
  · exact endStep_runOk (noteOverdose_runOk (noteAdded_runOk h a t l.index l) a t l.index) _
  · exact noteAdded_runOk h a t l.index l

theorem takeWeight_runOk (net : Int) (b : Bool) : (takeWeight net b s).runOk := by
  unfold takeWeight
  split
  · rename_i l r hl hr
    split
    · split
      · rename_i hph
        split
        · exact takeReference_runOk h net false (by simp [State.phase, hl, hph])
        · exact h
      · split
        · exact compareDose_runOk h _ _ l
        · exact h
      all_goals exact h
    · exact h
  · exact h

/-! ### Adoption -/

theorem adoptHeat_runOk (r : StepRecord) : (adoptHeat r s).runOk := by
  have hheat : (adoptHeat r s).engine = s.engine := by
    unfold adoptHeat
    dsimp only
    split
    · rw [judgeAndPost_engine, State.withHeat_engine]
    · rfl
  exact runOk_of_engine (adoptHeat_touches r s) (by decide) (by decide) (by rw [hheat]; exact h)

theorem adoptHandOver_runOk (old r : StepRecord) : (adoptHandOver old r s).runOk := by
  have hheat : ((adoptHeat r (syncHold s)).withStir (stirAdopt r (adoptHeat r (syncHold s)).stir)).runOk :=
    adoptHeat_runOk (syncHold_runOk h) r
  unfold adoptHandOver
  dsimp only
  generalize (adoptHeat r (syncHold s)).withStir _ = u at hheat
  have hprompt : (adoptPrompt old r u).runOk :=
    runOk_of_touches hheat (adoptPrompt_touches old r u) (by decide) (by decide) (by decide)
  have htarget : (adoptTarget old r (adoptPrompt old r u)).runOk := by
    unfold adoptTarget
    split
    · exact mapLive_runOk hprompt fun l _ hok => ⟨hok.kind, hok.ret, hok.notLocking⟩
    · exact hprompt
  unfold adoptProbe
  split
  · exact takeTrip_runOk htarget _
  · exact htarget

theorem keepAdopted_runOk (r : StepRecord) : (keepAdopted r s).runOk := by
  unfold keepAdopted
  split
  · refine mapLive_runOk h fun l _ hok => ⟨hok.kind, ?_, ?_⟩
    · have hret := hok.ret
      cases hph : l.phase <;> cases hl : l.returnPhase <;> simp_all
      split_ifs <;> simp
    · have hne := hok.notLocking
      dsimp only
      split_ifs <;> simp_all
  · exact h

theorem adoptStep_runOk (old r : StepRecord) : (adoptStep old r s).runOk := by
  have hover := adoptHandOver_runOk h old r
  unfold adoptStep adoptConsequences
  dsimp only
  split
  · split
    · rename_i hap
      exact settleOutcome_runOk (phaseChecks_runOk (toPhase_runOk hover (by decide) (by simp [hap.1])))
    · exact settleOutcome_runOk (phaseChecks_runOk hover)
  · exact keepAdopted_runOk hover r

/-! ### Detectors -/

theorem reportChange_runOk (d : Detector) (b : Bool) : (reportChange d b s).runOk := by
  have htrip : ∀ d, (if b = true then takeTrip d s else s).runOk := fun d => by
    split
    · exact takeTrip_runOk h d
    · exact h
  cases d
  case lidOpen =>
    refine runOk_of_touches (s := if b = true then takeLidOpen s else takeLidClosed s) ?_ (tellLidOpen_touches b _)
      (by decide) (by decide) (by decide)
    split
    · exact takeLidOpen_runOk h
    · exact takeLidClosed_runOk h
  case boil => exact takeBoil_runOk h b
  case overload => exact h
  case supplyLow => exact h
  all_goals exact htrip _

theorem changeDetector_runOk (d : Detector) (b : Bool) : (changeDetector d b s).runOk := by
  unfold changeDetector
  exact reportChange_runOk (post_runOk (withMon_runOk h _) _) d b

theorem detectorInput_runOk (d : Detector) (q : Qualifies) : (detectorInput d q s).runOk := by
  unfold detectorInput
  dsimp only
  split
  · exact changeDetector_runOk h d _
  · exact h

theorem stallCurrentInput_runOk (b : Band) : (stallCurrentInput b s).runOk := by
  unfold stallCurrentInput
  split_ifs
  · exact h
  · exact changeDetector_runOk h _ _
  · exact h
  · exact h

/-! ### Deliveries and samples -/

theorem judgeDelivered_runOk : (judgeDelivered s).runOk := by
  unfold judgeDelivered
  split
  · exact post_runOk (takeTempReached_runOk (withHeat_runOk h _)) _
  · exact h

theorem deliverTb_runOk (code : Nat) : (deliverTb code s).runOk := by
  unfold deliverTb probeInput
  dsimp only
  generalize hx : s.withConv _ = x
  have hconv : x.runOk := hx ▸ h
  have hdet := detectorInput_runOk (detectorInput_runOk hconv .probeB (probeQualifies (x.asserts .probeB) (plausible code)
    (implausibleCount x.conv.tbHist))) .dryPan (aboveAsserts (bandTb x.conv.tb))
  have hpeak := mapLive_runOk hdet (f := fun l => { l with peak := max l.peak x.conv.tb })
    fun l _ hok => ⟨hok.kind, hok.ret, hok.notLocking⟩
  exact withStir_runOk (judgeDelivered_runOk (withHeat_runOk hpeak _)) _

theorem deliverSense_runOk (ch : Channel) (code : Nat) : (deliverSense ch code s).runOk := by
  unfold deliverSense
  split
  · exact h
  · split
    · exact deliverTb_runOk h code
    · exact detectorInput_runOk (detectorInput_runOk (withConv_runOk h _) _ _) _ _
    · exact stallCurrentInput_runOk (withConv_runOk h _) _
    · exact detectorInput_runOk (withConv_runOk h _) _ _

theorem bandInputs_runOk : (bandInputs s).runOk := by
  unfold bandInputs
  split
  · exact h
  · exact detectorInput_runOk (detectorInput_runOk h _ _) _ _

theorem takeSample_runOk (x : Sample) : (takeSample x s).runOk := by
  unfold takeSample
  dsimp only
  generalize hu : (if (s.withScale (weighChain s.conv.tc x s.scale)).scale.status = s.scale.status then
    s.withScale (weighChain s.conv.tc x s.scale) else postScaleEvent (s.withScale (weighChain s.conv.tc x s.scale))) = u
  have hchain : u.runOk := by
    rw [← hu]
    split <;> exact h
  have hcap : (captureSample x (bandInputs u)).runOk :=
    runOk_of_touches (bandInputs_runOk hchain) (captureSample_touches x _) (by decide) (by decide) (by decide)
  exact runOk_of_touches (takeWeight_runOk hcap _ _) (tareSample_touches x _) (by decide) (by decide) (by decide)

end

end Sys2Proof.Machine
end

section
/-! PROOFS. Every command keeps the run safe, and none but a reset changes a step below the live index of a run. -/

namespace Sys2Proof.Machine

/-! ### The run's invariant under each owner -/

theorem runOk_portFree : PortFree State.runOk where
  port p _ h := by cases p <;> exact h
  rx _ h := h
  psdo _ h := h
  after _ h := h

/-- R22: with nothing live, any plan and any load go with the engine. -/
theorem RunOk.idle {x y : Plan} {load load' : Bool} {e : Engine} (h : RunOk x load e) (hr : e.state.inRun = false) :
    RunOk y load' e where
  live := h.live
  paused := h.paused
  causes := h.causes
  trips := h.trips
  first := h.first
  reason := h.reason
  load _ := hr
  step l hl := absurd (h.inRun_of_live hl) (by simp [hr])

/-- R12, R22: an engine goes with no load in flight wherever it goes with one. -/
theorem RunOk.noLoad {x : Plan} {load : Bool} {e : Engine} (h : RunOk x load e) : RunOk x false e where
  live := h.live
  paused := h.paused
  causes := h.causes
  trips := h.trips
  first := h.first
  reason := h.reason
  load hl := by cases hl
  step := h.step

/-- R15 to R20: the plan after an accepted edit, with the step at the live index of its kind still. -/
theorem acceptEdit_runOk {s : State} (h : s.runOk) (p : Port) (planId : Nat) {steps : List StepRecord}
    (hk : ∀ l, s.engine.live = some l → (steps[l.index]?).map (·.kind) = (s.plan.steps[l.index]?).map (·.kind)) :
    (acceptEdit p planId steps s).runOk := RunOk.setPlan h hk

/-- R11: in a run, an index that is not at or below the live one lies above it. -/
theorem index_lt_of_not_atOrBelow {s : State} (h : s.runOk) {i : Nat} (hf : atOrBelowLive i s = false) {l : Live}
    (hl : s.engine.live = some l) : l.index < i := by
  have hr : s.inRun = true := RunOk.inRun_of_live h hl
  simpa [atOrBelowLive, hr, State.liveIndex, hl] using hf

theorem index_le_of_not_below {s : State} (h : s.runOk) {i : Nat} (hf : belowLive i s = false) {l : Live}
    (hl : s.engine.live = some l) : l.index ≤ i := by
  have hr : s.inRun = true := RunOk.inRun_of_live h hl
  simpa [belowLive, hr, State.liveIndex, hl] using hf

theorem isLiveIndex_live {s : State} (h : s.runOk) {l : Live} (hl : s.engine.live = some l) :
    isLiveIndex l.index s = true := by
  have hr : s.inRun = true := RunOk.inRun_of_live h hl
  simp [isLiveIndex, hr, State.liveIndex, hl]

theorem insertAt_getElem?_lt {i j : Nat} (r : StepRecord) {steps : List StepRecord} (h : j < i)
    (hi : i ≤ steps.length) : (insertAt i r steps)[j]? = steps[j]? := by
  rw [insertAt, List.getElem?_append_left (by simp; omega), List.getElem?_take_of_lt h]

theorem removeAt_getElem?_lt {i j : Nat} {steps : List StepRecord} (h : j < i) (hi : i < steps.length) :
    (removeAt i steps)[j]? = steps[j]? := by
  rw [removeAt, List.getElem?_append_left (by simp; omega), List.getElem?_take_of_lt h]

/-- R16, R17: a replacement keeps the kind at the live index, and adoption keeps the run safe. -/
theorem replaceAt_runOk {s : State} (h : s.runOk) (p : Port) {i : Nat} {old r : StepRecord}
    (hold : s.plan.steps[i]? = some old) (hkind : isLiveIndex i s = true → r.kind = old.kind) :
    (replaceAt p i old r s).runOk := by
  have hedit : (acceptEdit p s.plan.planId (s.plan.steps.set i r) s).runOk := by
    refine acceptEdit_runOk h p _ fun l hl => ?_
    by_cases hi : i = l.index
    · subst hi
      have hlt : l.index < s.plan.steps.length := (List.getElem?_eq_some_iff.mp hold).1
      rw [List.getElem?_set_self hlt, hold, Option.map_some, Option.map_some, hkind (isLiveIndex_live h hl)]
    · rw [List.getElem?_set_ne hi]
  unfold replaceAt
  dsimp only
  split
  · exact adoptStep_runOk hedit old r
  · exact hedit

theorem serveEdit_runOk {s : State} (h : s.runOk) (p : Port) {r : Request} (hr : editsPlan r = true) :
    (serveRequest p r s).1.runOk := by
  cases r
  case insertStep rev i raw =>
    obtain he | ⟨q, _, _, hi, _, hf, he⟩ := serveInsertStep_cases p rev i raw s
    all_goals rw [serveRequest, he]
    · exact h
    · exact acceptEdit_runOk h p _ fun l hl =>
        congrArg _ (insertAt_getElem?_lt _ (index_lt_of_not_atOrBelow h hf hl) hi)
  case replaceStep rev i raw =>
    obtain he | ⟨old, q, hold, _, _, _, hk, he⟩ := serveReplaceStep_cases p rev i raw s
    all_goals rw [serveRequest, he]
    · exact h
    · exact replaceAt_runOk h p hold (by simpa using hk)
  case removeStep rev i =>
    obtain he | ⟨_, hi, hf, he⟩ := serveRemoveStep_cases p rev i s
    all_goals rw [serveRequest, he]
    · exact h
    · exact acceptEdit_runOk h p _ fun l hl =>
        congrArg _ (removeAt_getElem?_lt (index_lt_of_not_atOrBelow h hf hl) hi)
  case clearPlan rev =>
    obtain he | ⟨_, hrun, he⟩ := serveClearPlan_cases p rev s
    all_goals rw [serveRequest, he]
    · exact h
    · exact RunOk.idle h hrun
  case setPlanId rev i =>
    obtain he | ⟨_, he⟩ := serveSetPlanId_cases p rev i s
    all_goals rw [serveRequest, he]
    · exact h
    · exact acceptEdit_runOk h p _ fun l _ => rfl
  all_goals cases hr

/-! The run requests. -/

/-- R50: a run begun at a step of the plan. -/
theorem beginRun_runOk {s : State} (hload : s.loadInFlight = false) {i : Nat} {r : StepRecord}
    (hr : s.plan.steps[i]? = some r) : (beginRun i r s).runOk := by
  unfold beginRun
  dsimp only
  generalize hu : endCapture .aborted s = u
  have hplan : u.plan = s.plan := hu ▸ endCapture_touches .aborted s .plan (by decide)
  have hstore : u.store = s.store := hu ▸ endCapture_touches .aborted s .store (by decide)
  have hentered : (enterStep i r (post (.engineState .running (some i) 0) (u.withEngine { u.engine with
      state := .running, live := none, causes := CauseSet.none, trips := 0, firstTrip := none, endReason := none,
      runClock := 0, log := [] }))).runOk := by
    refine enterStep_runOk (l := newLive i r false 0) ?_ (by simpa [hplan] using hr)
    exact { live := rfl
            paused := fun hp => by cases hp
            causes := fun _ => rfl
            trips := by simp
            first := by simp
            reason := by simp
            load := fun hl => by
              rw [State.loadInFlight] at hl hload
              simp [hstore, hload] at hl
            step := fun l hl => by
              cases hl
              exact newLive_ok (by simpa [hplan] using hr) _ _ }
  split
  · exact settleOutcome_runOk (comeIn_runOk hentered)
  · exact hentered

/-- R47: a paused step sent back through LOCKING goes with its plan. -/
theorem resumePhase_ok {x : Plan} {l : Live} (h : LiveOk x l) : LiveOk x (resumePhase l) := by
  obtain ⟨hkind, hret, hne⟩ := h
  unfold resumePhase
  split
  · exact ⟨hkind, hret, hne⟩
  · exact ⟨hkind, hret, hne⟩
  all_goals exact ⟨hkind, by simp, by simp⟩

/-- R47: RUNNING from PAUSED with no cause, the step sent back through LOCKING. -/
theorem RunOk.resume {x : Plan} {load : Bool} {e : Engine} (h : RunOk x load e) (hs : e.state = .paused) :
    RunOk x load { e with state := .running, causes := CauseSet.none, live := e.live.map resumePhase } where
  live := by rw [Option.isSome_map, h.live, hs]; rfl
  paused hp := by cases hp
  causes _ := rfl
  trips := by have := h.trips; simp_all
  first := by have := h.first; simp_all
  reason := by have := h.reason; simp_all
  load hl := absurd hl (by simp [h.load_of_inRun (by rw [hs]; rfl)])
  step := (h.map fun l _ => resumePhase_ok).step

section
variable {s : State} (h : s.runOk)
include h

theorem resumeRun_runOk (hs : s.engine.state = .paused) : (resumeRun s).runOk := by
  have hrun : (s.withEngine { s.engine with
      state := .running, causes := CauseSet.none, live := s.engine.live.map resumePhase }).runOk := RunOk.resume h hs
  unfold resumeRun
  exact settleOutcome_runOk (comeIn_runOk (postEngineState_runOk (syncWish_runOk (syncHold_runOk (withHeat_runOk hrun _)))))

theorem serveStartRun_runOk (rev i : Nat) : (serveStartRun rev i s).1.runOk := by
  obtain he | ⟨r, hr, _, hload, he⟩ := serveStartRun_cases rev i s
  · rw [he]; exact h
  · rw [he]; exact beginRun_runOk hload hr

theorem servePause_runOk : (servePause s).1.runOk := by
  unfold servePause
  split
  · rename_i hr
    exact enterPaused_runOk h (by rw [State.inRun, hr]; rfl) rfl
  all_goals exact h

theorem serveResume_runOk : (serveResume s).1.runOk := by
  unfold serveResume
  split_ifs with hs
  case neg => exact resumeRun_runOk h (not_not.mp hs)
  all_goals exact h

theorem serveAbort_runOk : (serveAbort s).1.runOk := by
  unfold serveAbort
  split
  · exact enterEnded_runOk _ _
  · exact h

theorem serveSkipStep_runOk (i : Nat) : (serveSkipStep i s).1.runOk := by
  unfold serveSkipStep
  split_ifs
  case neg => exact endStep_runOk h _
  all_goals exact h

theorem serveConfirm_runOk (i : Nat) : (serveConfirm i s).1.runOk := by
  unfold serveConfirm
  split_ifs
  · exact h
  · exact h
  · exact h
  · exact endStep_runOk h _
  · exact h

theorem serveClearTrip_runOk : (serveClearTrip s).1.runOk := by
  unfold serveClearTrip
  split_ifs with hs
  case neg => exact enterPaused_runOk h (by rw [State.inRun, not_not.mp hs]; rfl) rfl
  all_goals exact h

theorem lapsePermit_runOk (r : LapseReason) : (lapsePermit r s).runOk :=
  takeLapse_runOk (s := post _ (s.withPermit _)) h

theorem servePermit_runOk (key : Byte) : (servePermit key s).1.runOk := by
  have harm : (serveArming key s).1.runOk := by
    unfold serveArming
    split
    · exact takeRearm_runOk (s := s.withPermit _) h
    · exact h
  have hrenew : (serveRenewal key s).1.runOk := by
    unfold serveRenewal
    split
    · exact lapsePermit_runOk h _
    · exact h
  unfold servePermit
  split
  · exact hrenew
  · exact harm
  · exact harm

/-- R22, R180: a load begins only outside a run. -/
theorem serveStore_runOk (p : Port) {r : Request} (hr : startsStore r = true) : (serveRequest p r s).1.runOk := by
  cases r
  case libSave i =>
    simp only [serveRequest, serveLibSave]
    split_ifs
    case neg => exact RunOk.noLoad h
    all_goals exact h
  case libLoad i =>
    simp only [serveRequest, serveLibLoad]
    split_ifs with _ hrun
    case neg => exact RunOk.idle h (Bool.eq_false_of_not_eq_true hrun)
    all_goals exact h
  case libErase i =>
    simp only [serveRequest, serveLibErase]
    split_ifs
    case neg => exact RunOk.noLoad h
    all_goals exact h
  case libWriteCal =>
    simp only [serveRequest, serveLibWriteCal]
    split_ifs
    case neg => exact RunOk.noLoad h
    all_goals exact h
  all_goals cases hr

theorem serveScale_runOk {u : Served} (k : Touches scaleReach s u.1) : u.1.runOk :=
  runOk_of_touches h k (by decide) (by decide) (by decide)

theorem serveRequest_runOk (p : Port) (r : Request) : (serveRequest p r s).1.runOk := by
  cases r
  case readStatus => exact h
  case takeNotice => exact runOk_of_touches h (serveTakeNotice_touches p s) (by decide) (by decide) (by decide)
  case setNoticeMask m => exact h
  case readPlanHeader => exact h
  case readStep i => exact runOk_of_touches h (serveReadStep_touches i s) (by decide) (by decide) (by decide)
  case insertStep => exact serveEdit_runOk h p rfl
  case replaceStep => exact serveEdit_runOk h p rfl
  case removeStep => exact serveEdit_runOk h p rfl
  case clearPlan => exact serveEdit_runOk h p rfl
  case setPlanId => exact serveEdit_runOk h p rfl
  case startRun rev i => exact serveStartRun_runOk h rev i
  case pause => exact servePause_runOk h
  case resume => exact serveResume_runOk h
  case abort => exact serveAbort_runOk h
  case skipStep i => exact serveSkipStep_runOk h i
  case confirm i => exact serveConfirm_runOk h i
  case clearTrip => exact serveClearTrip_runOk h
  case readRunLog i => exact runOk_of_touches h (serveReadRunLog_touches i s) (by decide) (by decide) (by decide)
  case tarePush => exact serveScale_runOk h (serveTarePush_touches p s)
  case tarePop => exact serveScale_runOk h (serveTarePop_touches p s)
  case tareClear => exact serveScale_runOk h (serveTareClear_touches p s)
  case restartScale => exact serveScale_runOk h (serveRestartScale_touches s)
  case calZero => exact serveScale_runOk h (beginCapture_touches _ _ s)
  case calSpan => exact serveScale_runOk h (beginCapture_touches _ _ s)
  case readCal => exact h
  case permit key => exact servePermit_runOk h key
  case clearLatched x => exact runOk_of_touches h (serveClearLatched_touches x s) (by decide) (by decide) (by decide)
  case libSave => exact serveStore_runOk h p rfl
  case libLoad => exact serveStore_runOk h p rfl
  case libErase => exact serveStore_runOk h p rfl
  case libInfo => exact h
  case libWriteCal => exact serveStore_runOk h p rfl

/-! ### The run's invariant under each unit event -/

theorem countTenths_runOk : (countTenths s).runOk := by
  have htick : RunOk s.plan s.loadInFlight { s.engine with live := s.engine.live.map (tickLive s.engine.state s.free) } :=
    RunOk.map h fun l _ hok => by
      unfold tickLive
      split
      · split
        · exact ⟨hok.kind, hok.ret, hok.notLocking⟩
        · exact hok
      · exact ⟨hok.kind, hok.ret, hok.notLocking⟩
      · exact ⟨hok.kind, hok.ret, hok.notLocking⟩
      · exact hok
      · exact hok
  exact RunOk.of_eq htick rfl rfl rfl rfl rfl rfl

theorem testTimer_runOk : (testTimer s).runOk := by
  unfold testTimer
  split
  · split
    · exact endStep_runOk h _
    · exact h
  · exact h

theorem settleRunsOut_runOk : (settleRunsOut s).runOk := by
  unfold settleRunsOut
  split
  · rename_i hs
    exact takeReference_runOk h _ _ hs.2
  · exact h

theorem endSense_runOk (code : Nat) : (endSense code s).runOk := by
  unfold endSense
  split
  · exact withConv_runOk (deliverSense_runOk h _ code) _
  · exact h
  · exact h

theorem endWeigh_runOk (a b c d : Int) : (endWeigh a b c d s).runOk := by
  have hfinish : (finishWeigh a b c d s).runOk := by
    unfold finishWeigh
    dsimp only
    split
    · exact h
    · exact takeSample_runOk (withConv_runOk h _) _
  unfold endWeigh
  split
  · exact withConv_runOk hfinish _
  · exact h
  · exact h

theorem controlUpdate_runOk : (controlUpdate s).runOk := by
  have happlied : (updateApplied (updatePattern s)).runOk :=
    runOk_of_touches (withStir_runOk h _) (updateApplied_touches _) (by decide) (by decide) (by decide)
  exact detectorInput_runOk (withStir_runOk (withStir_runOk happlied _) _) _ _

theorem lidSample_runOk (a b : Bool) : (lidSample a b s).runOk := by
  unfold lidSample
  dsimp only
  generalize hu : s.withLid _ = u
  have hlid : (lockFaultInput b (lidOpenInput a u)).runOk :=
    detectorInput_runOk (detectorInput_runOk (hu ▸ h) _ _) _ _
  split
  · exact takeLockConfirmation_runOk hlid
  · exact hlid

theorem expirePermit_runOk : (expirePermit s).runOk := by
  unfold expirePermit
  split
  · exact lapsePermit_runOk h _
  · exact h

theorem comeDue_runOk : (comeDue s).runOk := by
  unfold comeDue
  split <;> exact h

theorem endOperation_runOk (op : DoneOp) (slot : Option Nat) (r : Result) (rev : Option Nat) :
    (endOperation op slot r rev s).runOk := RunOk.noLoad h

theorem saveWriteEnd_runOk (slot : Nat) (w : WordWrite) (rest : List WordWrite) (a b : Word16) :
    (saveWriteEnd slot w rest a b s).runOk := by
  unfold saveWriteEnd
  dsimp only
  split_ifs <;> exact RunOk.noLoad h

theorem eraseWriteEnd_runOk (slot : Nat) (w : WordWrite) (rest : List WordWrite) (a b : Word16) :
    (eraseWriteEnd slot w rest a b s).runOk := by
  unfold eraseWriteEnd
  dsimp only
  split_ifs <;> exact RunOk.noLoad h

theorem calWriteEnd_runOk (w : WordWrite) (rest : List WordWrite) (a b : Word16) :
    (calWriteEnd w rest a b s).runOk := by
  unfold calWriteEnd
  dsimp only
  split_ifs <;> exact RunOk.noLoad h

theorem endWordWrite_runOk (a b : Word16) : (endWordWrite a b s).runOk := by
  unfold endWordWrite
  split
  · exact saveWriteEnd_runOk h _ _ _ a b
  · exact eraseWriteEnd_runOk h _ _ _ a b
  · exact calWriteEnd_runOk h _ _ a b
  all_goals exact h

theorem endScan_runOk : (endScan s).runOk := by
  unfold endScan
  split
  · dsimp only
    generalize hu : s.withStore _ = u
    have hidle : u.runOk := by
      rw [← hu]
      exact RunOk.noLoad h
    exact runOk_of_touches hidle (changeCalibration_touches _ u) (by decide) (by decide) (by decide)
  all_goals exact h

/-- R22, R181: a load that ends well replaces the plan of no run. -/
theorem endLoad_runOk : (endLoad s).runOk := by
  obtain ⟨_, he⟩ | ⟨slot, hop, ⟨r, rev, he⟩ | ⟨planId, steps, _, he⟩⟩ := endLoad_cases s
  all_goals rw [he]
  · exact h
  · exact endOperation_runOk h _ _ _ _
  · have hidle : s.inRun = false := h.load (by rw [State.loadInFlight, hop]; rfl)
    exact RunOk.idle h hidle

end

theorem unitEvent_runOk {c : Instr} {s t : State} (hu : unitEvent c = true) (h : s.runOk) (he : exec c s = .next t) :
    t.runOk := by
  have hafter : ∀ dt, (s.after dt).runOk := fun dt => runOk_portFree.after dt h
  have hquiet : ∀ {dt : Nat} {ts : List Block} {u : State}, Touches ts (s.after dt) u → .plan ∉ ts → .engine ∉ ts →
      .store ∉ ts → u.runOk := fun k => runOk_of_touches (hafter _) k
  cases c
  case timeBaseTick dt => cases he; exact testTimer_runOk (countTenths_runOk (hafter dt))
  case settleDeadline dt => cases he; exact settleRunsOut_runOk (hafter dt)
  case senseTimerExpiry dt => cases he; exact withConv_runOk (hafter dt) _
  case senseConversionEnd dt code => cases he; exact endSense_runOk (hafter dt) code
  case freeTrigger dt => cases he; exact hquiet (expireFree_touches _) (by decide) (by decide) (by decide)
  case weighGroupEnd dt a b c d => cases he; exact endWeigh_runOk (hafter dt) a b c d
  case tareDeadline dt => cases he; exact hquiet (endTare_touches _ _) (by decide) (by decide) (by decide)
  case captureDeadline dt => cases he; exact hquiet (endCapture_touches _ _) (by decide) (by decide) (by decide)
  case tachEdge dt => cases he; exact hquiet (tachEdge_touches _) (by decide) (by decide) (by decide)
  case noEdgeTimeout dt => cases he; exact hquiet (noEdgeTimeout_touches _) (by decide) (by decide) (by decide)
  case controlUpdate dt => cases he; exact controlUpdate_runOk (hafter dt)
  case lidSample dt a b => cases he; exact lidSample_runOk (hafter dt) a b
  case plateauTimer dt => cases he; exact detectorInput_runOk (withHeat_runOk (hafter dt) _) _ _
  case frameEnd dt => cases he; exact withHeat_runOk (hafter dt) _
  case slotBoundary dt => cases he; exact withHeat_runOk (hafter dt) _
  case rampRise dt => cases he; exact withHeat_runOk (hafter dt) _
  case permitExpiry dt => cases he; exact expirePermit_runOk (hafter dt)
  case permitDueTimer dt => cases he; exact comeDue_runOk (hafter dt)
  case uptimeTick dt => cases he; exact h
  case scanEnd dt => cases he; exact endScan_runOk (hafter dt)
  case wordWriteEnd dt a b => cases he; exact endWordWrite_runOk (hafter dt) a b
  case loadReadEnd dt => cases he; exact endLoad_runOk (hafter dt)
  all_goals cases hu

/-- Every command keeps the run safe. -/
theorem exec_runOk {c : Instr} {s t : State} (h : s.runOk) (he : exec c s = .next t) : t.runOk := by
  by_cases hc : c = .reset
  · subst hc
    cases he
    exact (State.runSafe_iff _).mp rfl
  · exact runOk_portFree.exec (W := fun _ => True) (fun _ _ => trivial) (fun p r u _ hu => serveRequest_runOk hu p r)
      (fun _ _ _ => unitEvent_runOk) hc (fun _ _ => trivial) h he

/-- Settles O20: each owner and each unit event keeps the run safe, by the operations of the Step Engine it is made of. -/
theorem everyStepKeepsTheRunSafe : Obligations.EveryStepKeepsTheRunSafe := by
  intro s t h hstep
  rw [State.runSafe_iff] at h ⊢
  unfold step at hstep
  split at hstep
  · cases hstep
    exact h
  · rename_i c rest _
    exact exec_runOk (s := { s with pending := rest }) h hstep

end Sys2Proof.Machine
end

section
/-! PROOFS. The past zone of a run: no command but a reset changes a step below the live index. Bytes on the Link Port may
complete more than one frame, but once the port has taken one it discards the others. -/

namespace Sys2Proof.Machine

/-! ### One request -/

/-- R187, R189, R192: the ways a request can go. -/
theorem takeRequest_cases (p : Port) (k t : Byte) (n : Nat) (owner : State → Served) (s : State) :
    (s.port p).state = .outstanding ∧ takeRequest p k t n owner s = discardFrame p s
      ∨ (∃ r, takeRequest p k t n owner s = formReply p k t (refuse r) s)
      ∨ portCheck p k n s = none ∧ takeRequest p k t n owner s = conclude p k t (owner (heldState p k t s)) := by
  by_cases h : (s.port p).state = .outstanding
  · exact .inl ⟨h, takeRequest_outstanding h⟩
  · cases hc : portCheck p k n s with
    | some r => exact .inr (.inl ⟨r, takeRequest_refused h hc⟩)
    | none => exact .inr (.inr ⟨rfl, takeRequest_passed h hc⟩)

@[simp] theorem discardFrame_plan (p : Port) (s : State) : (discardFrame p s).plan = s.plan := by cases p <;> rfl
@[simp] theorem formReply_plan (p : Port) (k t : Byte) (a : Answer) (s : State) :
    (formReply p k t a s).plan = s.plan := by cases p <;> rfl
@[simp] theorem conclude_plan (p : Port) (k t : Byte) (v : Served) : (conclude p k t v).plan = v.1.plan := by
  obtain ⟨u, _ | a⟩ := v
  · rfl
  · exact formReply_plan p k t a u

/-- A request leaves the plan, or leaves it as its owner does. -/
theorem takeRequest_plan (p : Port) (k t : Byte) (n : Nat) (owner : State → Served) (s : State) :
    (takeRequest p k t n owner s).plan = s.plan
      ∨ (∃ row, kindRow k = some row ∧ row.length = n)
        ∧ (takeRequest p k t n owner s).plan = (owner (heldState p k t s)).1.plan := by
  obtain ⟨_, h⟩ | ⟨r, h⟩ | ⟨hc, h⟩ := takeRequest_cases p k t n owner s
  · exact .inl (by rw [h, discardFrame_plan])
  · exact .inl (by rw [h, formReply_plan])
  · exact .inr ⟨row_of_portCheck_none hc, by rw [h, conclude_plan]⟩

/-- R90, R100: an owner that answers later leaves the Link Port as it finds it. -/
theorem serveRequest_waiting {p : Port} {r : Request} {s : State} (h : (serveRequest p r s).2 = none) :
    (serveRequest p r s).1.link = s.link := by
  cases r
  case tarePush =>
    simp only [serveRequest, serveTarePush]
    split_ifs <;> rfl
  case calZero =>
    simp only [serveRequest, serveCalZero, beginCapture]
    split_ifs <;> rfl
  case calSpan =>
    simp only [serveRequest, serveCalSpan, beginCapture]
    split_ifs <;> rfl
  all_goals
    simp only [serveRequest, serveReadStatus, serveTakeNotice, serveSetNoticeMask, serveReadPlanHeader, serveReadStep,
      serveInsertStep, serveReplaceStep, serveRemoveStep, serveClearPlan, serveSetPlanId, serveStartRun, servePause,
      serveResume, serveAbort, serveSkipStep, serveConfirm, serveClearTrip, serveReadRunLog, serveTarePop,
      serveTareClear, serveRestartScale, serveReadCal, servePermit, serveRenewal, serveArming, serveClearLatched,
      serveLibSave, serveLibLoad, serveLibErase, serveLibInfo, serveLibWriteCal, planRefused, refused, accepted] at h
    repeat' split at h
  all_goals cases h

/-- R190: the Link Port is OUTSTANDING once it has taken a request, until the reply has been sent. -/
theorem takeRequest_link_outstanding {k t : Byte} {n : Nat} {owner : State → Served} {s : State}
    (ho : ∀ u, (owner u).2 = none → (owner u).1.link = u.link) :
    (takeRequest .link k t n owner s).link.state = .outstanding := by
  obtain ⟨h, he⟩ | ⟨r, he⟩ | ⟨_, he⟩ := takeRequest_cases .link k t n owner s
  · rw [he]; exact h
  · rw [he]; rfl
  · rw [he]
    have hwait := ho (heldState .link k t s)
    generalize owner (heldState .link k t s) = v at hwait
    obtain ⟨u, _ | a⟩ := v
    · have hheld : (heldState .link k t s).link.state = .outstanding :=
        congrArg PortState.state (held_own_port .link k t s)
      exact (congrArg PortState.state (hwait rfl)).trans hheld
    · rfl

theorem serveFrame_waiting {p : Port} {k : Byte} {body : List Byte} {s : State}
    (h : (serveFrame p k body s).2 = none) : (serveFrame p k body s).1.link = s.link := by
  unfold serveFrame at h ⊢
  split at h
  · exact serveRequest_waiting h
  · cases h

/-! ### The past zone -/

/-- R11: a run whose live step is `l`, above index `i`, where the plan holds `v`. -/
structure PastZone (l : Live) (i : Nat) (v : Option StepRecord) (s : State) : Prop where
  ok : s.runOk
  live : s.engine.live = some l
  below : i < l.index
  step : s.plan.steps[i]? = v

theorem pastZone_portFree (l : Live) (i : Nat) (v : Option StepRecord) : PortFree (PastZone l i v) where
  port p x h := by
    cases p
    · exact ⟨h.ok, h.live, h.below, h.step⟩
    · exact ⟨h.ok, h.live, h.below, h.step⟩
  rx x h := ⟨h.ok, h.live, h.below, h.step⟩
  psdo x h := ⟨h.ok, h.live, h.below, h.step⟩
  after dt h := ⟨h.ok, h.live, h.below, h.step⟩

section
variable {l : Live} {i : Nat} {v : Option StepRecord} {s : State} (h : PastZone l i v s)
include h

/-- R11, R15 to R20: no plan edit reaches below the live index. -/
theorem PastZone.serveEdit (p : Port) {r : Request} (hr : editsPlan r = true) :
    (serveRequest p r s).1.plan.steps[i]? = v := by
  obtain ⟨hok, hlive, hbelow, hstep⟩ := h
  cases r
  case insertStep rev j raw =>
    obtain he | ⟨q, _, _, hj, _, hf, he⟩ := serveInsertStep_cases p rev j raw s
    all_goals rw [serveRequest, he]
    · exact hstep
    · have hlt := index_lt_of_not_atOrBelow hok hf hlive
      rw [acceptEdit_plan, insertAt_getElem?_lt _ (by omega) hj, hstep]
  case replaceStep rev j raw =>
    obtain he | ⟨old, q, _, _, _, hf, _, he⟩ := serveReplaceStep_cases p rev j raw s
    all_goals rw [serveRequest, he]
    · exact hstep
    · have hle := index_le_of_not_below hok hf hlive
      rw [replaceAt_plan, acceptEdit_plan, List.getElem?_set_ne (by omega), hstep]
  case removeStep rev j =>
    obtain he | ⟨_, hj, hf, he⟩ := serveRemoveStep_cases p rev j s
    all_goals rw [serveRequest, he]
    · exact hstep
    · have hlt := index_lt_of_not_atOrBelow hok hf hlive
      rw [acceptEdit_plan, removeAt_getElem?_lt (by omega) hj, hstep]
  case clearPlan rev =>
    obtain he | ⟨_, hrun, he⟩ := serveClearPlan_cases p rev s
    all_goals rw [serveRequest, he]
    · exact hstep
    · rw [State.inRun, RunOk.inRun_of_live hok hlive] at hrun
      cases hrun
  case setPlanId rev j =>
    obtain he | ⟨_, he⟩ := serveSetPlanId_cases p rev j s
    all_goals rw [serveRequest, he]
    · exact hstep
    · exact hstep
  all_goals cases hr

theorem PastZone.serveRequest (p : Port) (r : Request) : (serveRequest p r s).1.plan.steps[i]? = v := by
  cases he : editsPlan r
  · have hplan : (Machine.serveRequest p r s).1.plan = s.plan := by
      cases hs : startsStore r
      · exact serveRequest_touches p he hs s .plan (by decide)
      · exact serveRequest_store_touches p hs s .plan (by decide)
    rw [hplan, h.step]
  · exact h.serveEdit p he

theorem PastZone.takeFrame (p : Port) (frame : List Byte) : (takeFrame p frame s).plan.steps[i]? = v := by
  obtain he | ⟨_, he⟩ := takeRequest_plan p (frame.getD 1 0) (frame.getD 2 0) (frameBody frame).length
    (serveFrame p (frame.getD 1 0) (frameBody frame)) s
  · rw [Machine.takeFrame, he, h.step]
  · have hheld : PastZone l i v (heldState p (frame.getD 1 0) (frame.getD 2 0) s) := by
      rw [heldState_eq]
      exact (pastZone_portFree l i v).port p _ h
    rw [Machine.takeFrame, he, serveFrame]
    split
    · exact hheld.serveRequest p _
    · exact hheld.step

end

/-! ### Bytes on the Link Port -/

/-- R189, R193: while a request is OUTSTANDING, a byte changes neither the plan nor the Link Port's state. -/
theorem linkByte_outstanding {s : State} (h : s.link.state = .outstanding) (b : Byte) :
    (linkByte b s).link.state = .outstanding ∧ (linkByte b s).plan = s.plan := by
  unfold linkByte linkComplete
  split
  · rename_i rx frame _
    split
    · have htake : takeFrame .link frame (s.withRx rx) = discardFrame .link (s.withRx rx) := takeRequest_outstanding h
      rw [htake]
      exact ⟨h, rfl⟩
    · exact ⟨h, rfl⟩
  · exact ⟨h, rfl⟩

theorem linkBytes_outstanding_plan (bytes : List Byte) {s : State} (h : s.link.state = .outstanding) :
    (linkBytes bytes s).plan = s.plan := by
  induction bytes generalizing s with
  | nil => rfl
  | cons b bs ih =>
    obtain ⟨hout, hplan⟩ := linkByte_outstanding h b
    exact (ih hout).trans hplan

/-- R11, R189: of the frames that bytes complete, the first to be taken leaves the past zone, and the port discards the
others. -/
theorem PastZone.linkBytes {l : Live} {i : Nat} {v : Option StepRecord} (bytes : List Byte) {s : State}
    (h : PastZone l i v s) : (linkBytes bytes s).plan.steps[i]? = v := by
  induction bytes generalizing s with
  | nil => exact h.step
  | cons b bs ih =>
    have hrx := fun rx => (pastZone_portFree l i v).rx rx h
    have hstep : linkByte b s = s.withRx (s.rx.take b).1
        ∨ ∃ frame, linkByte b s = Machine.takeFrame .link frame (s.withRx (s.rx.take b).1) := by
      unfold linkByte linkComplete
      split
      · rename_i rx frame heq
        rw [heq]
        split
        · exact .inr ⟨frame, rfl⟩
        · exact .inl rfl
      · rename_i rx heq
        rw [heq]
        exact .inl rfl
    have hcons : Machine.linkBytes (b :: bs) s = Machine.linkBytes bs (linkByte b s) := rfl
    rw [hcons]
    obtain he | ⟨frame, he⟩ := hstep
    all_goals rw [he]
    · exact ih (hrx _)
    · have hout : (Machine.takeFrame .link frame (s.withRx (s.rx.take b).1)).link.state = .outstanding :=
        takeRequest_link_outstanding fun _ => serveFrame_waiting
      rw [linkBytes_outstanding_plan bs hout]
      exact (hrx _).takeFrame .link frame

/-- R187: a select period takes at most one frame. -/
theorem PastZone.panelRequest {l : Live} {i : Nat} {v : Option StepRecord} (bytes : List Byte) {s : State}
    (h : PastZone l i v s) : (panelRequest bytes s).plan.steps[i]? = v := by
  have hpsdo := (pastZone_portFree l i v).psdo (List.replicate bytes.length 0) h
  unfold Machine.panelRequest
  dsimp only
  split
  · exact hpsdo.takeFrame .panel _
  · have hplan : (takeDamaged bytes (s.withPsdo (List.replicate bytes.length 0))).plan = s.plan := by
      unfold takeDamaged
      split <;> rfl
    rw [hplan, h.step]

/-! ### Unit events, and every command (O10) -/

theorem PastZone.unitEvent {l : Live} {i : Nat} {v : Option StepRecord} {c : Instr} {s t : State}
    (h : PastZone l i v s) (hu : unitEvent c = true) (he : exec c s = .next t) : t.plan.steps[i]? = v := by
  suffices hplan : t.plan = s.plan by rw [hplan, h.step]
  cases hs : storeEvent c
  · exact unitEvent_touches hu hs he .plan (by decide)
  · cases c
    case scanEnd dt => cases he; exact endScan_touches (s.after dt) .plan (by decide)
    case wordWriteEnd dt a b => cases he; exact endWordWrite_touches a b (s.after dt) .plan (by decide)
    case loadReadEnd dt =>
      cases he
      obtain ⟨_, he⟩ | ⟨slot, hop, _⟩ := endLoad_cases (s.after dt)
      · rw [he]; rfl
      · have hidle : s.engine.state.inRun = false := h.ok.load (by
          rw [State.loadInFlight, show s.store.op = .load slot from hop]; rfl)
        rw [RunOk.inRun_of_live h.ok h.live] at hidle
        cases hidle
    all_goals cases hs

/-- R11: the past zone under every command but a reset. -/
theorem PastZone.exec {l : Live} {i : Nat} {v : Option StepRecord} {c : Instr} {s t : State}
    (h : PastZone l i v s) (hc : c ≠ .reset) (he : exec c s = .next t) : t.plan.steps[i]? = v := by
  have hafter := fun dt => (pastZone_portFree l i v).after dt h
  cases hreq : c.request with
  | some r =>
    obtain ⟨dt, p, tag, rfl⟩ := command_of_request hreq
    rw [exec_command] at he
    cases he
    obtain he | ⟨_, he⟩ := takeRequest_plan p r.kind tag r.body.length (Machine.serveRequest p r) (s.after dt)
    · rw [he]; exact h.step
    · have hheld : PastZone l i v (heldState p r.kind tag (s.after dt)) := by
        rw [heldState_eq]
        exact (pastZone_portFree l i v).port p _ (hafter dt)
      rw [he]
      exact hheld.serveRequest p r
  | none =>
    by_cases hu : Machine.unitEvent c = true
    · exact h.unitEvent hu he
    cases c
    case reset => exact absurd rfl hc
    case panelRequestFrame dt bytes => cases he; exact (hafter dt).panelRequest bytes
    case panelReplyRead dt n => cases he; exact ((pastZone_portFree l i v).panelRead n (hafter dt)).step
    case linkFrameComplete dt bytes => cases he; exact (hafter dt).linkBytes bytes
    case linkByteReceived dt b => cases he; exact (hafter dt).linkBytes [b]
    case linkByteGapTimeout dt => cases he; exact h.step
    case linkStopBitMissing dt => cases he; exact h.step
    case linkReplySent dt => cases he; exact ((pastZone_portFree l i v).linkSent (hafter dt)).step
    all_goals simp [Machine.unitEvent, Instr.request] at hu hreq

/-- Settles O10: a run that is safe is a past zone at each index below the live one. -/
theorem pastZoneNeverChanges : Obligations.PastZoneNeverChanges :=
  fun _ s _ _ _ hsafe _ hl hi hc he => PastZone.exec ⟨(State.runSafe_iff s).mp hsafe, hl, hi, rfl⟩ hc he

end Sys2Proof.Machine
end

section
/-! PROOFS. The end of the start-up scan and of a load (O56): what a change of calibration leaves of the Scale Unit, and what
the words of a slot say to the tests of a load. -/

namespace Sys2Proof.Machine

/-! ### A change of the working calibration -/

theorem post_notices_congr (n : Notice) {s t : State} (h : s.notices = t.notices) :
    (post n s).notices = (post n t).notices := by
  simp only [post, State.withNotices_notices, h]

theorem endTare_reach (r : Result) (s : State) : Touches [.scale, .panel, .link] s (endTare r s) := by
  unfold endTare
  split
  · exact ((withScale_touches _ s).mono (by decide)).trans ((answerPending_touches _ _ _).mono (by decide))
  · exact Touches.refl _ s

@[simp] theorem endTare_notices (r : Result) (s : State) : (endTare r s).notices = s.notices :=
  endTare_reach r s .notices (by decide)

/-- R92, R101: a pending tare answered is absent, and the rest of the scale stays. -/
@[simp] theorem endTare_scale (r : Result) (s : State) : (endTare r s).scale = { s.scale with pendingTare := none } := by
  unfold endTare
  split
  · exact answerPending_touches _ _ _ .scale (by decide)
  · rename_i h
    rw [← h]

@[simp] theorem clearTare_scale (s : State) : (clearTareForCalibration s).scale = { s.scale with tare := [] } := by
  unfold clearTareForCalibration
  split
  · rename_i h
    rw [← h]
  · rfl

/-- R98, R105: the notice of a tare stack that is emptied, after any state with the same notices and stack. -/
theorem clearTare_notices {s t : State} (hn : s.notices = t.notices) (ht : s.scale.tare = t.scale.tare) :
    (clearTareForCalibration s).notices
      = (if t.scale.tare = [] then t else post (.tareChanged 0 none .calibration none) t).notices := by
  unfold clearTareForCalibration
  split
  · next h => rw [if_pos (ht ▸ h), hn]
  · next h =>
    rw [if_neg (fun hnil => h (ht.trans hnil))]
    exact post_notices_congr _ hn

/-- R80, R98: the Scale Unit restarted under a new calibration, F and the net held but where G is 0. -/
def recalibrated (cal : Calibration) (sc : Scale) : Scale :=
  { sc with
    cal := cal, pendingTare := none, tare := [], window := [], stable := false, status := restartStatus cal
    gross := if cal.span = 0 then 0 else sc.gross
    net := if cal.span = 0 then 0 else sc.net }

/-- R98: what a change of calibration leaves of the Scale Unit. -/
theorem changeCalibration_scale (cal : Calibration) (s : State) :
    (changeCalibration cal s).scale = recalibrated cal s.scale := by
  simp only [changeCalibration, postScaleEvent, post_scale, State.withScale_scale, clearTare_scale, endTare_scale,
    restartScale, recalibrated]
  split <;> rfl

/-- R95, R98, R105: the notices of a change of calibration. -/
theorem changeCalibration_notices (cal : Calibration) (s : State) :
    (changeCalibration cal s).notices
      = (post (.scaleEvent (restartStatus cal) cal.calId s.scale.lastSeq)
          (if s.scale.tare = [] then s else post (.tareChanged 0 none .calibration none) s)).notices := by
  have hscale := changeCalibration_scale cal s
  unfold changeCalibration postScaleEvent at hscale ⊢
  dsimp only at hscale ⊢
  rw [post_scale] at hscale
  rw [hscale]
  refine post_notices_congr _ (clearTare_notices ?_ ?_)
  · rw [endTare_notices, State.withScale_notices]
  · rw [endTare_scale]
    rfl

/-! ### The end of a load -/

/-- R181: a load that fails a test ends with its result and leaves the plan. -/
theorem endLoad_failed {s : State} {slot : Nat} {r : Result} (hop : s.store.op = .load slot)
    (hr : (judgeImage s.store.array slot).1 = r) (hok : r ≠ .ok) :
    endLoad s = endOperation .load (some slot) r none s := by
  unfold endLoad
  rw [hop]
  dsimp only
  generalize judgeImage s.store.array slot = j at hr
  obtain ⟨r', planId, steps⟩ := j
  cases hr
  cases r'
  case ok => exact absurd rfl hok
  all_goals rfl

/-- R22, R181: a load that passes every test replaces the plan and ends with OK. -/
theorem endLoad_passed {s : State} {slot planId : Nat} {steps : List StepRecord} (hop : s.store.op = .load slot)
    (hj : judgeImage s.store.array slot = (.ok, planId, steps)) :
    endLoad s = endOperation .load (some slot) .ok (some (nextRevision s.plan.revision))
      (replacePlan slot planId steps s) := by
  unfold endLoad
  rw [hop]
  dsimp only
  rw [hj]
  rfl

/-- R181, R185: the event of a load that passes every test. -/
theorem exec_loadReadEnd_passed {s : State} {slot planId : Nat} {steps : List StepRecord} (dt : Nat)
    (hop : s.store.op = .load slot) (hj : judgeImage s.store.array slot = (.ok, planId, steps)) :
    ∃ t : State, exec (.loadReadEnd dt) s = .next t
      ∧ t.plan = { planId := planId, steps := steps, origin := .store, slot := some slot,
                   revision := if s.plan.revision = 65535 then 1 else s.plan.revision + 1 }
      ∧ t.store = { s.store with op := .idle }
      ∧ t.notices = (post (.libraryDone .load (some slot) .ok (some t.plan.revision))
          (post (.planChanged t.plan.revision .store steps.length) s)).notices
      ∧ t.engine = s.engine ∧ t.scale = s.scale := by
  have hend := endLoad_passed (s := s.after dt) hop hj
  exact ⟨_, congrArg Host.Outcome.next hend, rfl, rfl, rfl, rfl, rfl⟩

/-! ### The words of a slot -/

theorem slotValid_iff (m : Memory) (slot : Nat) : slotValid m slot = true ↔
    slotWord m slot 0 = slotMarker ∧ (slotWord m slot 2).toNat ≤ 48 ∧ slotWord m slot 5 = formedCheck m slot := by
  simp [slotValid, and_assoc]

/-- R171: a slot is marked when its marker is set and its step count is one a plan can have. -/
theorem marked_iff (m : Memory) (slot : Nat) :
    (decide ((Memory.read m (512 * slot)).toNat = 0x3C96) && decide ((Memory.read m (512 * slot + 2)).toNat ≤ 48)) = true
      ↔ slotWord m slot 0 = slotMarker ∧ (slotWord m slot 2).toNat ≤ 48 := by
  have hmark : (Memory.read m (512 * slot)).toNat = 0x3C96 ↔ slotWord m slot 0 = slotMarker :=
    BitVec.toNat_inj (y := slotMarker)
  rw [Bool.and_eq_true, decide_eq_true_eq, decide_eq_true_eq, hmark]
  rfl

theorem judgeImage_unmarked {m : Memory} {slot : Nat}
    (h : ¬ (slotWord m slot 0 = slotMarker ∧ (slotWord m slot 2).toNat ≤ 48)) :
    (judgeImage m slot).1 = .emptySlot := by
  unfold judgeImage
  rw [if_pos (by rwa [← not_le, ne_eq, ← not_and_or])]

theorem judgeImage_unchecked {m : Memory} {slot : Nat} (hm : slotWord m slot 0 = slotMarker)
    (hc : (slotWord m slot 2).toNat ≤ 48)
    (h : slotWord m slot 5 ≠ formedCheck m slot ∨ 2 < (slotWord m slot 4).toNat) :
    (judgeImage m slot).1 = .corrupt := by
  unfold judgeImage
  rw [if_neg (by simp [hm, hc]), if_pos h]

/-- R181, test 3: an image with a record that Plan Memory would not store. -/
theorem judgeImage_unreadable {m : Memory} {slot : Nat} (hm : slotWord m slot 0 = slotMarker)
    (hc : (slotWord m slot 2).toNat ≤ 48)
    (h : imageRecords m (slotBase slot + 8) (slotWord m slot 2).toNat = none) :
    (judgeImage m slot).1 = .corrupt := by
  unfold judgeImage
  rw [if_neg (by simp [hm, hc]), h]
  split <;> rfl

/-! ### The records of an image -/

theorem readRange_length (m : Memory) (a n : Nat) : (Memory.readRange m a n).length = n := by
  induction n generalizing a with
  | zero => rfl
  | succ n ih => simp [Memory.readRange, ih]

/-- R171: the bytes of successive words, word by word. -/
theorem unpairWords_readRange (m : Memory) (a n : Nat) :
    unpairWords (Memory.readRange m a n)
      = ((List.range n).map (fun j => le16 (Memory.read m (a + j)).toNat)).flatten := by
  induction n generalizing a with
  | zero => rfl
  | succ n ih =>
    rw [Memory.readRange, unpairWords, ih, List.range_succ_eq_map, List.map_cons, List.flatten_cons, List.map_map]
    congr 3
    funext j
    simp only [Function.comp_apply, Nat.succ_eq_add_one]
    congr 3
    omega

/-- R181, test 3: the record that ten words give is one that Plan Memory would store as it is. -/
theorem recordOfWords_eq_some {ws : List Word16} {r : StepRecord} :
    recordOfWords ws = some r ↔ r.stored = r ∧ (rawOfBytes (unpairWords ws)).bind acceptRaw = some r := by
  unfold recordOfWords
  cases rawOfBytes (unpairWords ws) with
  | none => simp
  | some raw =>
    cases hq : acceptRaw raw with
    | none => simp [hq]
    | some q =>
      by_cases hst : q.stored = q
      · simp only [hq, hst, if_true, Option.some_inj, Option.bind_some]
        exact ⟨fun h => ⟨h ▸ hst, h⟩, fun h => h.2⟩
      · simp only [hq, hst, if_false, Option.bind_some, Option.some_inj, reduceCtorEq, false_iff, not_and]
        rintro h rfl
        exact hst h

/-- R181: an image's records are those its ten-word groups give, one after another. -/
theorem imageRecords_eq_some {m : Memory} : ∀ {n a : Nat} {rs : List StepRecord}, imageRecords m a n = some rs ↔
    rs.length = n ∧ ∀ i r, rs[i]? = some r → recordOfWords (Memory.readRange m (a + 10 * i) 10) = some r
  | 0, a, rs => by
    simp only [imageRecords, Option.some_inj, List.length_eq_zero_iff]
    constructor
    · rintro rfl
      simp
    · rintro ⟨rfl, _⟩
      rfl
  | n + 1, a, rs => by
    rw [imageRecords_succ_eq_some]
    constructor
    · rintro ⟨r, rest, hr, hrest, rfl⟩
      obtain ⟨hlen, hall⟩ := imageRecords_eq_some.mp hrest
      refine ⟨by simp [hlen], fun i q hq => ?_⟩
      cases i with
      | zero => cases hq; exact hr
      | succ i =>
        rw [show a + 10 * (i + 1) = a + 10 + 10 * i by omega]
        exact hall i q hq
    · rintro ⟨hlen, hall⟩
      obtain _ | ⟨r, rest⟩ := rs
      · cases hlen
      refine ⟨r, rest, hall 0 r rfl, imageRecords_eq_some.mpr ⟨by simpa using hlen, fun i q hq => ?_⟩, rfl⟩
      rw [show a + 10 + 10 * i = a + 10 * (i + 1) by omega]
      exact hall (i + 1) q hq

theorem imageRecords_eq_none {m : Memory} {n a i : Nat} (hi : i < n)
    (h : recordOfWords (Memory.readRange m (a + 10 * i) 10) = none) : imageRecords m a n = none := by
  by_contra hne
  obtain ⟨rs, hrs⟩ := Option.ne_none_iff_exists'.mp hne
  obtain ⟨hlen, hall⟩ := imageRecords_eq_some.mp hrs
  have hsome := hall i rs[i] (List.getElem?_eq_getElem (by omega))
  rw [h] at hsome
  cases hsome

/-! ### The end of the scan -/

/-- R172: the stored calibration record's validity, word by word. -/
theorem calRecordValid_eq (m : Memory) : calRecordValid m
    = (decide ((Memory.read m 4096).toNat = 0xC35A)
      && decide (Memory.read m 4105 = wordSum (Memory.readRange m 4097 8))) := by
  have hmark : Memory.read m 4096 = calMarker ↔ (Memory.read m 4096).toNat = 0xC35A :=
    (BitVec.toNat_inj (y := calMarker)).symm
  simp only [calRecordValid, calBase, hmark]
  rfl

theorem Calibration.inRange_iff (c : Calibration) : c.inRange = true ↔
    (-2097152 ≤ c.zero ∧ c.zero ≤ 2097151) ∧ c.span ≤ 65535 ∧ (-500 ≤ c.drift ∧ c.drift ≤ 500)
      ∧ (0 ≤ c.tcal ∧ c.tcal ≤ 600) ∧ (-50 ≤ c.offB ∧ c.offB ≤ 50) ∧ (-50 ≤ c.offC ∧ c.offC ≤ 50)
      ∧ c.calId ≤ 65535 := by
  simp only [Calibration.inRange, Bool.and_eq_true, decide_eq_true_eq, and_assoc]

/-- R176: the Plan Library at the end of the scan. -/
def Store.scanned (st : Store) : Store :=
  { st with directory := (List.range 8).map (scanEntry st.array), calValid := calRecordValid st.array
            op := .idle, starting := false }

/-- R176: the event that ends the scan. -/
theorem endScan_scan {s : State} (hop : s.store.op = .scan) :
    endScan s = changeCalibration (offeredCalibration s.store.array) (s.withStore s.store.scanned) := by
  unfold endScan
  rw [hop]
  rfl

/-- R176: the scan's end reaches the Plan Library, the Scale Unit and what a change of calibration reaches. -/
theorem endScan_reach {s : State} (hop : s.store.op = .scan) : Touches (.store :: scaleReach) s (endScan s) := by
  rw [endScan_scan hop]
  exact ((withStore_touches _ s).mono (by decide)).trans ((changeCalibration_touches _ _).mono (by decide))

theorem endScan_store {s : State} (hop : s.store.op = .scan) : (endScan s).store = s.store.scanned := by
  rw [endScan_scan hop]
  exact changeCalibration_touches _ _ .store (by decide)

theorem endScan_scale {s : State} (hop : s.store.op = .scan) :
    (endScan s).scale = recalibrated (offeredCalibration s.store.array) s.scale := by
  rw [endScan_scan hop, changeCalibration_scale, State.withStore_scale]

theorem endScan_notices {s : State} (hop : s.store.op = .scan) :
    (endScan s).notices = (post (.scaleEvent (endScan s).scale.status (endScan s).scale.cal.calId s.scale.lastSeq)
      (if s.scale.tare = [] then s else post (.tareChanged 0 none .calibration none) s)).notices := by
  rw [endScan_scale hop, endScan_scan hop, changeCalibration_notices, State.withStore_scale]
  refine post_notices_congr _ ?_
  split <;> rfl

theorem endScan_other {s : State} (hop : s.store.op ≠ .scan) : endScan s = s := by
  unfold endScan
  split
  case h_1 h => exact absurd h hop
  all_goals rfl

theorem endLoad_other {s : State} (hop : ∀ k, s.store.op ≠ .load k) : endLoad s = s := by
  unfold endLoad
  split
  case h_1 k h => exact absurd h (hop k)
  all_goals rfl

/-- R171: the mark and the check of a slot, put together. -/
theorem slotValid_eq (m : Memory) (slot : Nat) : slotValid m slot
    = ((decide ((Memory.read m (512 * slot)).toNat = 0x3C96) && decide ((Memory.read m (512 * slot + 2)).toNat ≤ 48))
      && decide (slotWord m slot 5 = formedCheck m slot)) := by
  rw [Bool.eq_iff_iff, slotValid_iff, Bool.and_eq_true, marked_iff, decide_eq_true_eq, and_assoc]

theorem scanEntry_eq (m : Memory) (slot : Nat) : scanEntry m slot
    = { valid := slotValid m slot, planId := if slotValid m slot then (slotWord m slot 1).toNat else 0
        count := if slotValid m slot then (slotWord m slot 2).toNat else 0
        saves := (Memory.read m (counterAddr slot)).toNat } := by
  unfold scanEntry
  cases slotValid m slot <;> rfl

/-- R97: the calibration offered by the scan, by the validity and the ranges of the stored record. -/
theorem offeredCalibration_eq (m : Memory) : offeredCalibration m
    = if calRecordValid m = true ∧ (storedCalibration m).inRange = true then storedCalibration m
      else { zero := 0, span := 0, drift := 0, tcal := 250, offB := 0, offC := 0, calId := 0 } := rfl

/-- Settles O56: the scan's end through the change of calibration, the load's end through the tests in their order. -/
theorem scansAndLoadsEnd : Obligations.ScansAndLoadsEnd := by
  unfold Obligations.ScansAndLoadsEnd
  intro dt slot s m cell count marked checked calHolds stored ends bytesOf
  have hmarked : ∀ k, marked k = true ↔ slotWord m k 0 = slotMarker ∧ (slotWord m k 2).toNat ≤ 48 := marked_iff m
  have hvalid : ∀ k, slotValid m k = (marked k && checked k) := slotValid_eq m
  have hchecked : checked slot = true ↔ slotWord m slot 5 = formedCheck m slot := decide_eq_true_iff
  have hbytes : ∀ i, unpairWords (Memory.readRange m (slotBase slot + 8 + 10 * i) 10) = bytesOf i :=
    fun i => unpairWords_readRange m _ 10
  have hrecord : ∀ i r, recordOfWords (Memory.readRange m (slotBase slot + 8 + 10 * i) 10) = some r ↔
      r.stored = r ∧ (rawOfBytes (bytesOf i)).bind acceptRaw = some r := fun i r => by
    rw [recordOfWords_eq_some, hbytes]
  refine ⟨fun hop => congrArg Host.Outcome.next (endScan_other hop), fun hop => ?_, Calibration.inRange_iff,
    fun hop => congrArg Host.Outcome.next (endLoad_other hop), fun hop hm => ?_, fun hop hm hc => ?_,
    fun hop hm i hi hr => ?_, fun hop hm hc ho steps hlen hsteps => ?_⟩
  · have hcal : calRecordValid m = calHolds := calRecordValid_eq m
    have hdir : (List.range 8).map (scanEntry m) = (List.range 8).map (fun k =>
        let valid := marked k && checked k
        { valid := valid, planId := if valid then cell (512 * k + 1) else 0
          count := if valid then cell (512 * k + 2) else 0, saves := cell (4106 + k) }) :=
      List.map_congr_left fun k _ => by rw [scanEntry_eq, hvalid]; rfl
    have hkeep := endScan_reach (s := s.after dt) hop
    have hscale : (endScan (s.after dt)).scale = recalibrated (offeredCalibration m) s.scale :=
      endScan_scale (s := s.after dt) hop
    refine ⟨endScan (s.after dt), rfl, ?_, ?_, ?_, ?_, ?_, ?_, ?_, ?_, ?_, ?_, hkeep .plan (by decide),
      hkeep .engine (by decide), hkeep .conv (by decide), hkeep .mon (by decide)⟩
    · rw [← hcal, ← hdir]
      exact endScan_store (s := s.after dt) hop
    · rw [hscale, ← hcal]
      rfl
    case refine_10 =>
      refine (endScan_notices (s := s.after dt) hop).trans (post_notices_congr _ ?_)
      by_cases ht : s.scale.tare = []
      · rw [if_pos ht, if_pos (by exact ht)]
        rfl
      · rw [if_neg ht, if_neg (by exact ht)]
        rfl
    all_goals rw [hscale]; rfl
  · refine congrArg Host.Outcome.next (endLoad_failed (s := s.after dt) hop (judgeImage_unmarked ?_) (by decide))
    exact fun h => Bool.false_ne_true (hm.symm.trans ((hmarked slot).mpr h))
  · obtain ⟨hmark, hcount⟩ := (hmarked slot).mp hm
    refine congrArg Host.Outcome.next
      (endLoad_failed (s := s.after dt) hop (judgeImage_unchecked hmark hcount (hc.imp_left fun h => ?_)) (by decide))
    exact fun heq => Bool.false_ne_true (h.symm.trans (hchecked.mpr heq))
  · obtain ⟨hmark, hcount⟩ := (hmarked slot).mp hm
    have hnone : recordOfWords (Memory.readRange m (slotBase slot + 8 + 10 * i) 10) = none :=
      Option.eq_none_iff_forall_ne_some.mpr fun r hsome =>
        hr r ((hrecord i r).mp hsome).1 ((hrecord i r).mp hsome).2
    exact congrArg Host.Outcome.next (endLoad_failed (s := s.after dt) hop
      (judgeImage_unreadable hmark hcount (imageRecords_eq_none hi hnone)) (by decide))
  · obtain ⟨hmark, hcount⟩ := (hmarked slot).mp hm
    have himage : imageRecords m (slotBase slot + 8) count = some steps :=
      imageRecords_eq_some.mpr ⟨hlen, fun i r h => (hrecord i r).mpr (hsteps i r h)⟩
    rw [← hlen]
    exact exec_loadReadEnd_passed dt hop
      (judgeImage_eq_ok.mpr ⟨hmark, hcount, hchecked.mp hc, ho, himage, rfl⟩)

end Sys2Proof.Machine
end

section
/-! PROOFS. A SAVE and the LOAD that follows it (O57): what a list of word writes leaves of the array, what a snapshot's words
say to the tests of a load, and what a SAVE leaves alone. -/

namespace Sys2Proof.Machine

/-! ### A list of word writes -/

/-- R178: the array after the word writes of a list, each made in full. -/
def Memory.writeAll (m : Memory) (ws : List WordWrite) : Memory :=
  ws.foldl (fun m w => Memory.write m w.addr w.value) m

theorem writeAll_append (m : Memory) (as bs : List WordWrite) :
    m.writeAll (as ++ bs) = (m.writeAll as).writeAll bs := List.foldl_append

theorem writeAll_wf : ∀ (ws : List WordWrite) {m : Memory}, m.wf = true → (m.writeAll ws).wf = true
  | [], _, h => h
  | w :: ws, m, h => writeAll_wf ws (Memory.write_wf m w.addr w.value h)

/-- A word that no write of the list names reads as before. -/
theorem read_writeAll_other {a : Nat} : ∀ {ws : List WordWrite} (m : Memory), (∀ w ∈ ws, w.addr ≠ a) →
    Memory.read (m.writeAll ws) a = Memory.read m a
  | [], _, _ => rfl
  | w :: ws, m, h => by
    obtain ⟨hw, hws⟩ := List.forall_mem_cons.mp h
    exact (read_writeAll_other (Memory.write m w.addr w.value) hws).trans (Memory.read_write_other m w.value hw)

theorem readRange_congr {m m' : Memory} : ∀ {n a : Nat}, (∀ b, a ≤ b → b < a + n → Memory.read m b = Memory.read m' b) →
    Memory.readRange m a n = Memory.readRange m' a n
  | 0, _, _ => rfl
  | n + 1, a, h => by
    rw [Memory.readRange, Memory.readRange, h a le_rfl (by omega),
      readRange_congr fun b hab hb => h b (by omega) (by omega)]

theorem readRange_append (m : Memory) (a p q : Nat) :
    Memory.readRange m a (p + q) = Memory.readRange m a p ++ Memory.readRange m (a + p) q := by
  induction p generalizing a with
  | zero => simp [Memory.readRange]
  | succ p ih =>
    rw [show p + 1 + q = p + q + 1 by omega, Memory.readRange, Memory.readRange, ih, List.cons_append,
      show a + 1 + p = a + (p + 1) by omega]

theorem readRange_writeAll_other {a n : Nat} {ws : List WordWrite} (m : Memory)
    (h : ∀ w ∈ ws, w.addr < a ∨ a + n ≤ w.addr) :
    Memory.readRange (m.writeAll ws) a n = Memory.readRange m a n :=
  readRange_congr fun b hab hb => read_writeAll_other m fun w hw => by
    have := h w hw
    omega

theorem addr_of_mem_writesFrom {w : WordWrite} : ∀ {ws : List Word16} {a : Nat}, w ∈ writesFrom a ws →
    a ≤ w.addr ∧ w.addr < a + ws.length
  | v :: ws, a, h => by
    obtain rfl | h := List.mem_cons.mp h
    · simp
    · have := addr_of_mem_writesFrom h
      rw [List.length_cons]
      omega

/-- Words written from an address on are read back from it. -/
theorem readRange_writesFrom : ∀ (ws : List Word16) {a : Nat} {m : Memory}, m.wf = true → a + ws.length ≤ arrayWords →
    Memory.readRange (m.writeAll (writesFrom a ws)) a ws.length = ws
  | [], _, _, _, _ => rfl
  | w :: ws, a, m, hm, ha => by
    rw [List.length_cons] at ha
    have hfirst : Memory.read ((Memory.write m a w).writeAll (writesFrom (a + 1) ws)) a = w :=
      (read_writeAll_other _ fun v hv => by
        have := addr_of_mem_writesFrom hv
        omega).trans (Memory.read_write_same m a w hm (by omega))
    have hrest := readRange_writesFrom ws (a := a + 1) (Memory.write_wf m a w hm) (by omega)
    exact congrArg₂ List.cons hfirst hrest

/-! ### The words of a plan -/

theorem unpairWords_pairWords : ∀ {bytes : List Byte}, bytes.length % 2 = 0 → unpairWords (pairWords bytes) = bytes
  | [], _ => rfl
  | [_], h => absurd h (by simp)
  | a :: b :: rest, h => by
    have hrest : unpairWords (pairWords rest) = rest := unpairWords_pairWords (by simp only [List.length_cons] at h; omega)
    rw [pairWords, unpairWords, hrest]
    have hword : (word (num16 a b)).toNat = num16 a b := Nat.mod_eq_of_lt (num16_lt a b)
    rw [hword]
    simp only [le16, num16, List.cons_append, List.nil_append, List.cons.injEq, and_true]
    constructor <;> apply BitVec.eq_of_toNat_eq <;> simp <;> omega

theorem pairWords_length : ∀ bytes : List Byte, (pairWords bytes).length = (bytes.length + 1) / 2
  | [] => rfl
  | [_] => by simp [pairWords]
  | _ :: _ :: rest => by
    rw [pairWords, List.length_cons, pairWords_length rest]
    simp only [List.length_cons]
    omega

theorem bytes_length (r : StepRecord) : r.bytes.length = 20 := rawBytes_length r.raw

theorem stepWords_length (r : StepRecord) : (stepWords r).length = 10 := by
  rw [stepWords, pairWords_length, bytes_length]

theorem planWords_cons (r : StepRecord) (rs : List StepRecord) : planWords (r :: rs) = stepWords r ++ planWords rs := rfl

theorem planWords_length (rs : List StepRecord) : (planWords rs).length = 10 * rs.length := by
  induction rs with
  | nil => rfl
  | cons r rs ih => rw [planWords_cons, List.length_append, stepWords_length, ih, List.length_cons]; omega

theorem StepRecord.legal_iff (r : StepRecord) :
    r.legal = true ↔ r.raw.wf = true ∧ acceptRaw r.raw = some r ∧ r.stored = r := by
  simp only [StepRecord.legal, Bool.and_eq_true, decide_eq_true_eq, and_assoc]

/-- R171, R181: a record that Plan Memory can hold is read back from its ten words. -/
theorem recordOfWords_stepWords {r : StepRecord} (h : r.legal = true) : recordOfWords (stepWords r) = some r := by
  obtain ⟨hwf, haccept, hstored⟩ := (StepRecord.legal_iff r).mp h
  rw [recordOfWords_eq_some, stepWords, unpairWords_pairWords (by rw [bytes_length]), StepRecord.bytes, rawOfBytes_rawBytes _ hwf]
  exact ⟨hstored, haccept⟩

theorem imageRecords_planWords {m : Memory} : ∀ {rs : List StepRecord} {a : Nat},
    Memory.readRange m a (10 * rs.length) = planWords rs → (∀ r ∈ rs, r.legal = true) →
    imageRecords m a rs.length = some rs
  | [], _, _, _ => rfl
  | r :: rs, a, h, hl => by
    obtain ⟨hr, hrs⟩ := List.forall_mem_cons.mp hl
    rw [planWords_cons, List.length_cons, show 10 * (rs.length + 1) = 10 + 10 * rs.length by omega,
      readRange_append] at h
    obtain ⟨hfirst, hrest⟩ := List.append_inj h (by rw [readRange_length, stepWords_length])
    exact imageRecords_succ_eq_some.mpr
      ⟨r, rs, by rw [hfirst, recordOfWords_stepWords hr], imageRecords_planWords hrest hrs, rfl⟩

/-! ### A slot that holds a snapshot -/

/-- R171: a slot holds a snapshot when its marker is set and its words are the snapshot's. -/
structure HoldsSnapshot (m : Memory) (slot : Nat) (x : Snapshot) : Prop where
  marker : slotWord m slot 0 = slotMarker
  header : Memory.readRange m (slotBase slot + 1) 7 = snapshotHeader x
  steps : Memory.readRange m (slotBase slot + 8) (10 * x.steps.length) = planWords x.steps

namespace HoldsSnapshot
variable {m : Memory} {slot : Nat} {x : Snapshot}

/-- R171: the header of a slot that holds a snapshot, word by word. -/
theorem header_words (h : HoldsSnapshot m slot x) :
    slotWord m slot 1 = word x.planId ∧ slotWord m slot 2 = word x.steps.length ∧ slotWord m slot 3 = word x.revision
      ∧ slotWord m slot 4 = word x.origin.code
      ∧ slotWord m slot 5 = slotCheck (snapshotHead x) ([0, 0] ++ planWords x.steps)
      ∧ slotWord m slot 6 = 0 ∧ slotWord m slot 7 = 0 := by
  have hh := h.header
  simp only [Memory.readRange, snapshotHeader, snapshotHead, List.cons_append, List.nil_append, List.cons.injEq,
    and_true, Nat.add_assoc, Nat.reduceAdd] at hh
  exact hh

theorem count (h : HoldsSnapshot m slot x) (hlen : x.steps.length ≤ 48) : (slotWord m slot 2).toNat = x.steps.length := by
  obtain ⟨_, hcount, _⟩ := h.header_words
  rw [hcount]
  exact Nat.mod_eq_of_lt (by omega)

/-- R171: the check formed from the words is the one stored. -/
theorem check (h : HoldsSnapshot m slot x) (hlen : x.steps.length ≤ 48) : slotWord m slot 5 = formedCheck m slot := by
  have hcount := h.count hlen
  obtain ⟨h1, h2, h3, h4, h5, h6, h7⟩ := h.header_words
  have hhead : Memory.readRange m (slotBase slot + 1) 4 = snapshotHead x := by
    change [slotWord m slot 1, slotWord m slot 2, slotWord m slot 3, slotWord m slot 4] = _
    rw [h1, h2, h3, h4]
    rfl
  have htail : Memory.readRange m (slotBase slot + 6) (2 + 10 * x.steps.length) = [0, 0] ++ planWords x.steps := by
    rw [readRange_append, ← h.steps]
    change [slotWord m slot 6, slotWord m slot 7] ++ _ = _
    rw [h6, h7]
  rw [h5, formedCheck, hcount, hhead, htail]

theorem valid (h : HoldsSnapshot m slot x) (hlen : x.steps.length ≤ 48) : slotValid m slot = true :=
  (slotValid_iff m slot).mpr ⟨h.marker, (h.count hlen).trans_le hlen, h.check hlen⟩

/-- R181: the tests of a load pass on a slot that holds a snapshot, and stage it. -/
theorem judged (h : HoldsSnapshot m slot x) (hlen : x.steps.length ≤ 48) (hlegal : ∀ r ∈ x.steps, r.legal = true)
    (hid : x.planId < 65536) : judgeImage m slot = (.ok, x.planId, x.steps) := by
  have hcount := h.count hlen
  obtain ⟨hplan, _, _, horigin, _⟩ := h.header_words
  refine judgeImage_eq_ok.mpr ⟨h.marker, hcount.trans_le hlen, h.check hlen, ?_, ?_, ?_⟩
  · rw [horigin]
    cases x.origin <;> decide
  · rw [hcount]
    exact imageRecords_planWords h.steps hlegal
  · rw [hplan]
    exact Nat.mod_eq_of_lt hid

end HoldsSnapshot

/-! ### The word writes of a SAVE -/

/-- R178: the writes of a SAVE between the marker's clearing and its setting. -/
def bodyWrites (slot : Nat) (x : Snapshot) : List WordWrite :=
  writesFrom (slotBase slot + 8) (planWords x.steps) ++ writesFrom (slotBase slot + 1) (snapshotHeader x)

/-- R178: the first two writes of a SAVE. -/
def openingWrites (slot saves : Nat) : List WordWrite :=
  [{ addr := counterAddr slot, value := word (saves + 1), role := .counter },
   { addr := slotBase slot, value := 0, role := .clearMarker }]

/-- R178: the last write of a SAVE. -/
def closingWrite (slot : Nat) : WordWrite := { addr := slotBase slot, value := slotMarker, role := .setMarker }

theorem saveWrites_eq (slot saves : Nat) (x : Snapshot) :
    saveWrites slot saves x = openingWrites slot saves ++ bodyWrites slot x ++ [closingWrite slot] := by
  simp only [saveWrites, openingWrites, bodyWrites, closingWrite, List.append_assoc]

theorem addr_of_mem_bodyWrites {slot : Nat} {x : Snapshot} (hlen : x.steps.length ≤ 48) {w : WordWrite}
    (h : w ∈ bodyWrites slot x) : 512 * slot < w.addr ∧ w.addr < 512 * slot + 488 := by
  obtain h | h := List.mem_append.mp h
  all_goals
    have hw := addr_of_mem_writesFrom h
    simp only [planWords_length, slotBase, snapshotHeader, snapshotHead, List.length_append, List.length_cons,
      List.length_nil] at hw
    omega

/-- R171, R178: where the writes of a SAVE stand: in the slot's own words, or at its counter. -/
theorem addr_of_mem_saveWrites {slot saves : Nat} {x : Snapshot} (hlen : x.steps.length ≤ 48) {w : WordWrite}
    (h : w ∈ saveWrites slot saves x) : 512 * slot ≤ w.addr ∧ w.addr < 512 * slot + 488 ∨ 4106 ≤ w.addr := by
  simp only [saveWrites_eq, openingWrites, List.mem_append, List.mem_cons, List.not_mem_nil, or_false] at h
  obtain ((rfl | rfl) | h) | rfl := h
  · exact .inr (Nat.le_add_right _ _)
  · exact .inl (by simp [slotBase])
  · have := addr_of_mem_bodyWrites hlen h
    omega
  · exact .inl (by simp [closingWrite, slotBase])

/-- R178: a SAVE made in full leaves the snapshot in its slot. -/
theorem holdsSnapshot_saveWrites {m : Memory} {slot saves : Nat} {x : Snapshot} (hslot : slot < 8) (hm : m.wf = true)
    (hlen : x.steps.length ≤ 48) : HoldsSnapshot (m.writeAll (saveWrites slot saves x)) slot x := by
  have hwf := writeAll_wf (openingWrites slot saves ++ writesFrom (slotBase slot + 8) (planWords x.steps)) hm
  have hsplit : m.writeAll (saveWrites slot saves x)
      = ((m.writeAll (openingWrites slot saves ++ writesFrom (slotBase slot + 8) (planWords x.steps))).writeAll
          (writesFrom (slotBase slot + 1) (snapshotHeader x))).writeAll [closingWrite slot] := by
    rw [← writeAll_append, ← writeAll_append, saveWrites_eq, bodyWrites, List.append_assoc, List.append_assoc,
      List.append_assoc]
  have hplan := planWords_length x.steps
  have hclosing : ∀ a n, slotBase slot < a → ∀ w ∈ [closingWrite slot], w.addr < a ∨ a + n ≤ w.addr :=
    fun a n ha w hw => .inl (by rw [List.mem_singleton.mp hw]; exact ha)
  have hbase : slotBase slot + 488 ≤ arrayWords := by unfold slotBase arrayWords; omega
  refine ⟨?_, ?_, ?_⟩
  · rw [hsplit]
    exact Memory.read_write_same _ (slotBase slot) _ (writeAll_wf _ hwf) (by omega)
  · rw [hsplit, readRange_writeAll_other _ (hclosing _ _ (by omega))]
    exact readRange_writesFrom (snapshotHeader x) hwf (by simp [snapshotHeader, snapshotHead]; omega)
  · rw [hsplit, readRange_writeAll_other _ (hclosing _ _ (by omega)), readRange_writeAll_other, writeAll_append, ← hplan]
    · exact readRange_writesFrom (planWords x.steps) (writeAll_wf _ hm) (by omega)
    · intro w hw
      have := addr_of_mem_writesFrom hw
      simp only [snapshotHeader, snapshotHead, List.length_append, List.length_cons, List.length_nil] at this
      omega

/-- R178: a SAVE cut after its marker was cleared and before it was set leaves the marker clear. -/
theorem slotValid_cut {m : Memory} {slot saves k : Nat} {x : Snapshot} (hslot : slot < 8) (hm : m.wf = true)
    (hlen : x.steps.length ≤ 48) (hk : 2 ≤ k) (hcut : k < (saveWrites slot saves x).length) :
    slotValid (m.writeAll ((saveWrites slot saves x).take k)) slot = false := by
  obtain ⟨j, rfl⟩ := Nat.exists_eq_add_of_le hk
  have hj : j ≤ (bodyWrites slot x).length := by
    simp only [saveWrites_eq, openingWrites, List.length_append, List.length_cons, List.length_nil] at hcut
    omega
  have htake : (saveWrites slot saves x).take (2 + j) = openingWrites slot saves ++ (bodyWrites slot x).take j := by
    rw [saveWrites_eq, List.append_assoc, show 2 + j = (openingWrites slot saves).length + j from rfl,
      List.take_length_add_append, List.take_append_of_le_length hj]
  have hzero : slotWord (m.writeAll ((saveWrites slot saves x).take (2 + j))) slot 0 = 0 := by
    rw [htake, writeAll_append]
    refine (read_writeAll_other _ fun w hw => ?_).trans
      (Memory.read_write_same _ (slotBase slot) 0 (Memory.write_wf _ _ _ hm) ?_)
    · have := addr_of_mem_bodyWrites hlen (List.mem_of_mem_take hw)
      unfold slotBase
      omega
    · unfold slotBase arrayWords
      omega
  rw [Bool.eq_false_iff, ne_eq, slotValid_iff, hzero]
  exact fun h => absurd h.1 (by decide)

/-! ### What another slot holds -/

/-- R171: two arrays that agree on the words of a slot. -/
def SlotAgrees (m m' : Memory) (slot : Nat) : Prop :=
  ∀ a, slotBase slot ≤ a → a < slotBase slot + 488 → Memory.read m a = Memory.read m' a

namespace SlotAgrees
variable {m m' : Memory} {slot : Nat}

theorem word (h : SlotAgrees m m' slot) {i : Nat} (hi : i < 488) : slotWord m slot i = slotWord m' slot i :=
  h _ (by omega) (by omega)

theorem range (h : SlotAgrees m m' slot) {i n : Nat} (hi : i + n ≤ 488) :
    Memory.readRange m (slotBase slot + i) n = Memory.readRange m' (slotBase slot + i) n :=
  readRange_congr fun b hab hb => h b (by omega) (by omega)

theorem check (h : SlotAgrees m m' slot) (hc : (slotWord m slot 2).toNat ≤ 48) :
    formedCheck m slot = formedCheck m' slot := by
  rw [formedCheck, formedCheck, h.range (by omega), h.range (by omega), h.word (by omega)]

theorem records (h : SlotAgrees m m' slot) : ∀ {n i : Nat}, i + 10 * n ≤ 488 →
    imageRecords m (slotBase slot + i) n = imageRecords m' (slotBase slot + i) n
  | 0, _, _ => rfl
  | n + 1, i, hi => by
    rw [imageRecords, imageRecords, h.range (by omega), Nat.add_assoc, h.records (by omega)]

theorem judge (h : SlotAgrees m m' slot) : judgeImage m slot = judgeImage m' slot := by
  have h0 := h.word (i := 0) (by omega)
  have h2 := h.word (i := 2) (by omega)
  by_cases hm : slotWord m slot 0 ≠ slotMarker ∨ 48 < (slotWord m slot 2).toNat
  · rw [judgeImage, judgeImage, if_pos hm, if_pos (by rwa [← h0, ← h2])]
  · have hc : (slotWord m' slot 2).toNat ≤ 48 := by rw [← h2]; omega
    rw [judgeImage, judgeImage, h.check (by omega), h0, h2, h.word (i := 1) (by omega), h.word (i := 4) (by omega),
      h.word (i := 5) (by omega), h.records (by omega)]

theorem valid (h : SlotAgrees m m' slot) : slotValid m slot = slotValid m' slot := by
  by_cases hc : (slotWord m slot 2).toNat ≤ 48
  · rw [slotValid, slotValid, h.check hc, h.word (i := 0) (by omega), h.word (i := 2) (by omega),
      h.word (i := 5) (by omega)]
  · have hc' := h.word (i := 2) (by omega) ▸ hc
    rw [slotValid, slotValid, decide_eq_false hc, decide_eq_false hc']
    simp

end SlotAgrees

/-- R171, R178: no write of a SAVE stands in another slot. -/
theorem slotAgrees_saveWrites (m : Memory) {slot saves other : Nat} {x : Snapshot} (hlen : x.steps.length ≤ 48)
    (hother : other < 8) (hne : other ≠ slot) (k : Nat) :
    SlotAgrees (m.writeAll ((saveWrites slot saves x).take k)) m other := fun a hlo hhi =>
  read_writeAll_other m fun w hw => by
    have := addr_of_mem_saveWrites hlen (List.mem_of_mem_take hw)
    unfold slotBase at hlo hhi
    omega

/-- Settles O57: a SAVE made in full leaves its snapshot in the slot, which the tests of a load pass. -/
theorem saveThenLoadRestoresThePlan : Obligations.SaveThenLoadRestoresThePlan := by
  unfold Obligations.SaveThenLoadRestoresThePlan
  rintro dt slot saves x m _ made hslot hm hlen hlegal hid rfl
  have hholds : HoldsSnapshot (made (saveWrites slot saves x)) slot x := holdsSnapshot_saveWrites hslot hm hlen
  refine ⟨fun s hop harray => ?_, hholds.valid hlen, fun k hk hcut => slotValid_cut hslot hm hlen hk hcut,
    fun k other hother hne => ?_⟩
  · exact exec_loadReadEnd_passed dt hop
      (harray ▸ hholds.judged hlen (List.all_eq_true.mp hlegal) hid)
  · have hagree := slotAgrees_saveWrites m (saves := saves) hlen hother hne k
    exact ⟨hagree.judge, hagree.valid⟩

end Sys2Proof.Machine
end

section
/-! PROOFS. The handover of an adopted record to the Heat Unit and the Stir Unit (R54, R108, R122, R130). -/

namespace Sys2Proof.Machine

/-! ### The loop run -/

/-- R112 to R115: a loop run sets the integral and the pending pair alone. -/
theorem loopRun_eq (b : Bool) (h : Heat) :
    ∃ (i : Int) (x : _), loopRun b h = { h with integral := i, next := x } := by
  unfold loopRun
  split
  · split <;> exact ⟨_, _, rfl⟩
  · exact ⟨_, _, rfl⟩

theorem loopRun_not_running (h : Heat) : loopRun false h = zeroRun h := rfl

theorem loopRun_temp {h : Heat} {sp : Int} (hm : h.mode = .temp) (hs : h.sp = some sp) :
    loopRun true h = tempRun sp h := by
  simp [loopRun, hm, hs]

theorem loopRun_power {h : Heat} (hm : h.mode = .power) : loopRun true h = powerRun h := by
  simp [loopRun, hm]

theorem loopRun_off {h : Heat} (hm : h.mode = .off) : loopRun true h = zeroRun h := by
  simp [loopRun, hm]

/-- R112, R113: the integral is held by a driven TEMP step, and 0 otherwise. -/
theorem loopRun_integral {b : Bool} {h : Heat} (hs : h.mode = .temp → h.sp.isSome = true) :
    (loopRun b h).integral = if b = true ∧ h.mode = .temp then h.integral else 0 := by
  cases b with
  | false => simp [loopRun_not_running, zeroRun]
  | true =>
    cases hm : h.mode with
    | temp =>
      obtain ⟨sp, hsp⟩ := Option.isSome_iff_exists.mp (hs hm)
      simp [loopRun_temp hm hsp, tempRun]
    | power => simp [loopRun_power hm, powerRun]
    | off => simp [loopRun_off hm, zeroRun]

/-- A second loop run changes nothing, whatever the reached flag has become. -/
theorem loopRun_again (b x : Bool) (h : Heat) :
    loopRun b { loopRun b h with reached := x } = { loopRun b h with reached := x } := by
  cases b with
  | false => rfl
  | true =>
    cases hm : h.mode with
    | temp =>
      cases hs : h.sp with
      | none => simp [loopRun, hm, hs, zeroRun]
      | some sp =>
        rw [loopRun_temp hm hs]
        exact loopRun_temp hm hs
    | power =>
      rw [loopRun_power hm]
      exact loopRun_power hm
    | off =>
      rw [loopRun_off hm]
      exact loopRun_off hm

/-! ### The heat fields of an adopted record (R108) -/

section
variable (b : Bool) (now : Nat) (r : StepRecord) (h : Heat)

/-- R108: no target where the record is not a TEMP one. -/
theorem adoptHeatFields_plain (hr : r.heatMode ≠ .temp) :
    adoptHeatFields b now r h
      = beginPlain r.heatMode (if r.heatMode = .power then some r.heatValue else none) r.ramp h := by
  unfold adoptHeatFields
  cases hm : r.heatMode with
  | temp => exact absurd hm hr
  | power => cases h.mode <;> rfl
  | off => cases h.mode <;> rfl

theorem adoptHeatFields_begin (hr : r.heatMode = .temp) (hm : h.mode ≠ .temp) :
    adoptHeatFields b now r h = beginTemp b now (10 * (r.heatValue : Int)) r.ramp h := by
  unfold adoptHeatFields
  rw [hr]
  cases hh : h.mode with
  | temp => exact absurd hh hm
  | power => rfl
  | off => rfl

theorem adoptHeatFields_keep (hk : keepsTarget r h = true) :
    adoptHeatFields b now r h = keepTarget (10 * (r.heatValue : Int)) r.ramp h := by
  obtain ⟨hr, hm, ht⟩ := of_decide_eq_true hk
  simp only [adoptHeatFields, hr, hm, ht, if_true]

theorem adoptHeatFields_change (hr : r.heatMode = .temp) (hm : h.mode = .temp) (hk : keepsTarget r h = false) :
    adoptHeatFields b now r h = changeTarget b now (10 * (r.heatValue : Int)) r.ramp h := by
  have ht : h.target ≠ some (10 * (r.heatValue : Int)) := fun ht => of_decide_eq_false hk ⟨hr, hm, ht⟩
  simp only [adoptHeatFields, hr, hm, ht, if_false]

end

section
variable {b : Bool} {now : Nat} {target : Int} {ramp : Option Nat} {h : Heat}

/-- R110: the setpoint starts at TB10 and rises with the ramp. -/
theorem beginTemp_ramping (hr : ramp.isSome = true) (ht : h.tb < target) :
    beginTemp b now target ramp h
      = { h with mode := .temp, target := some target, power := none, ramp := ramp, reached := false
                 dir := some (heatDirection h.tb target), sp := some h.tb, countdown := startCountdown b now } := by
  simp [beginTemp, hr, ht]

/-- R110: the setpoint starts at the target. -/
theorem beginTemp_level (hr : ¬ (ramp.isSome = true ∧ h.tb < target)) :
    beginTemp b now target ramp h
      = { h with mode := .temp, target := some target, power := none, ramp := ramp, reached := false
                 dir := some (heatDirection h.tb target), sp := some target, countdown := .stopped } := by
  simp only [beginTemp, hr, if_false]

/-- R108: a kept target below which the setpoint waits without a ramp: the setpoint goes to the target. -/
theorem keepTarget_raise {sp : Int} (hsp : h.sp = some sp) (hr : ramp = none ∧ sp < target) :
    keepTarget target ramp h = { h with ramp := ramp, sp := some target, countdown := .stopped } := by
  rw [keepTarget, hsp]
  simp [hr]

theorem keepTarget_hold {sp : Int} (hsp : h.sp = some sp) (hr : ¬ (ramp = none ∧ sp < target)) :
    keepTarget target ramp h = { h with ramp := ramp } := by
  rw [keepTarget, hsp]
  simp only [hr, if_false]

/-- R108: a changed target that the setpoint goes on rising to. -/
theorem changeTarget_ramping {sp : Int} (hsp : h.sp = some sp) (hr : ramp.isSome = true ∧ sp < target) :
    changeTarget b now target ramp h
      = { h with reached := false, dir := some (heatDirection h.tb target), target := some target, ramp := ramp
                 countdown := if h.countdown = .stopped then startCountdown b now else h.countdown } := by
  simp [changeTarget, hsp, hr]

theorem changeTarget_level {sp : Int} (hsp : h.sp = some sp) (hr : ¬ (ramp.isSome = true ∧ sp < target)) :
    changeTarget b now target ramp h
      = { h with reached := false, dir := some (heatDirection h.tb target), target := some target, ramp := ramp
                 sp := some target, countdown := .stopped } := by
  simp only [changeTarget, hsp, hr, if_false]

end

/-- R106: in TEMP mode a setpoint and no power. -/
theorem Heat.modeSafe_temp {h : Heat} (hs : h.modeSafe = true) (hm : h.mode = .temp) :
    h.power = none ∧ ∃ sp, h.sp = some sp := by
  simp only [Heat.modeSafe, hm, Bool.and_eq_true, beq_iff_eq, decide_true] at hs
  obtain ⟨⟨⟨⟨_, hsp⟩, _⟩, hpower⟩, _⟩ := hs
  exact ⟨by simpa using hpower, Option.isSome_iff_exists.mp hsp⟩

/-- The Heat Unit after the handover of an adopted record and its judgement. -/
def adoptedHeat (b : Bool) (now : Nat) (r : StepRecord) (h : Heat) : Heat :=
  { heatAdopt b now r h with reached := metAtAdoption r h || (keepsTarget r h && h.reached) }

section
variable {b : Bool} {now : Nat} {r : StepRecord} {h : Heat}

theorem keepsTarget_of_not_temp (hr : r.heatMode ≠ .temp) : keepsTarget r h = false :=
  decide_eq_false fun hk => hr hk.1

theorem keepsTarget_of_mode (hm : h.mode ≠ .temp) : keepsTarget r h = false :=
  decide_eq_false fun hk => hm hk.2.1

/-- A loop run after the heat fields `h1`, put together: what the loop run does not touch is left to show. -/
theorem heatAdopted_of_fields {h1 : Heat} (x : Bool)
    (hf : ∀ i nx, heatAdopted b now r h { h1 with integral := i, next := nx, reached := x }
      ↔ i = (if b = true ∧ r.heatMode = .temp then h.integral else 0)
        ∧ loopRun b { h1 with integral := i, next := nx, reached := x } = { h1 with integral := i, next := nx, reached := x })
    (hs : h1.mode = .temp → h1.sp.isSome = true) (hm : h1.mode = r.heatMode) (hi : h1.integral = h.integral) :
    heatAdopted b now r h { loopRun b h1 with reached := x } := by
  obtain ⟨i, nx, hrun⟩ := loopRun_eq b h1
  have hint := loopRun_integral (b := b) hs
  have hagain := loopRun_again b x h1
  rw [hrun] at hint hagain ⊢
  refine (hf i nx).mpr ⟨?_, hagain⟩
  rw [← hi, ← hm]
  exact hint

/-- R108: OFF and POWER take no target. -/
theorem heatAdopted_plain (hr : r.heatMode ≠ .temp) : heatAdopted b now r h (adoptedHeat b now r h) := by
  have hkeep := keepsTarget_of_not_temp (h := h) hr
  rw [adoptedHeat, heatAdopt, adoptHeatFields_plain _ _ _ _ hr]
  refine heatAdopted_of_fields _ (fun i nx => ?_) (fun hm => absurd hm hr) rfl rfl
  simp [heatAdopted, beginPlain, hr, hkeep, frameKept]

/-- R108, R110, R121: a TEMP record after OFF or POWER begins as at a step's entry. -/
theorem heatAdopted_begin (hr : r.heatMode = .temp) (hm : h.mode ≠ .temp) :
    heatAdopted b now r h (adoptedHeat b now r h) := by
  have hkeep : keepsTarget r h = false := keepsTarget_of_mode hm
  rw [adoptedHeat, heatAdopt, adoptHeatFields_begin _ _ _ _ hr hm]
  by_cases hramp : r.ramp.isSome = true ∧ h.tb < 10 * (r.heatValue : Int)
  · have hbegin := beginTemp_ramping (b := b) (now := now) hramp.1 hramp.2
    rw [hbegin]
    refine heatAdopted_of_fields _ (fun i nx => ?_) (fun _ => rfl) hr.symm rfl
    simp [heatAdopted, hr, hm, hkeep, hramp, rampsAtEntry, frameKept, heatDirection, startCountdown, sixSeconds, rampPeriod]
  · have hbegin := beginTemp_level (b := b) (now := now) hramp
    rw [hbegin]
    refine heatAdopted_of_fields _ (fun i nx => ?_) (fun _ => rfl) hr.symm rfl
    simp [heatAdopted, hr, hm, hkeep, hramp, rampsAtEntry, frameKept, heatDirection]

/-- The setpoint that a TEMP unit holds is the one it speaks of. -/
theorem forall_and_eq_setpoint {A B : Prop} {sp : Int} {C : Int → Prop} :
    (∀ x, A ∧ B ∧ sp = x → C x) ↔ (A ∧ B → C sp) :=
  ⟨fun hall hab => hall sp ⟨hab.1, hab.2, rfl⟩, fun hab _ ⟨ha, hb, hx⟩ => hx ▸ hab ⟨ha, hb⟩⟩

/-- R108: a TEMP record that keeps the target of a TEMP one. -/
theorem heatAdopted_keep (hs : h.modeSafe = true) (hk : keepsTarget r h = true) :
    heatAdopted b now r h (adoptedHeat b now r h) := by
  obtain ⟨hr, hm, ht⟩ := of_decide_eq_true hk
  obtain ⟨hpower, sp, hsp⟩ := Heat.modeSafe_temp hs hm
  rw [adoptedHeat, heatAdopt, adoptHeatFields_keep _ _ _ _ hk]
  by_cases hramp : r.ramp = none ∧ sp < 10 * (r.heatValue : Int)
  · rw [keepTarget_raise hsp hramp]
    refine heatAdopted_of_fields _ (fun i nx => ?_) (fun _ => rfl) (hm.trans hr.symm) rfl
    simp [heatAdopted, hr, hm, hk, ht, hsp, hramp, hpower, frameKept]
  · rw [keepTarget_hold hsp hramp]
    refine heatAdopted_of_fields _ (fun i nx => ?_) (fun _ => by simp [hsp]) (hm.trans hr.symm) rfl
    simp only [heatAdopted, hsp, Option.some_inj, forall_and_eq_setpoint, if_neg hramp]
    simp [hr, hm, hk, ht, hpower, frameKept]

/-- R108: a TEMP record that changes the target of a TEMP one. -/
theorem heatAdopted_change (hs : h.modeSafe = true) (hr : r.heatMode = .temp) (hm : h.mode = .temp)
    (hk : keepsTarget r h = false) : heatAdopted b now r h (adoptedHeat b now r h) := by
  obtain ⟨hpower, sp, hsp⟩ := Heat.modeSafe_temp hs hm
  rw [adoptedHeat, heatAdopt, adoptHeatFields_change _ _ _ _ hr hm hk]
  by_cases hramp : r.ramp.isSome = true ∧ sp < 10 * (r.heatValue : Int)
  · rw [changeTarget_ramping hsp hramp]
    refine heatAdopted_of_fields _ (fun i nx => ?_) (fun _ => by simp [hsp]) (hm.trans hr.symm) rfl
    simp [heatAdopted, hr, hm, hk, hsp, hramp, hpower, frameKept, heatDirection, startCountdown, sixSeconds, rampPeriod]
  · rw [changeTarget_level hsp hramp]
    refine heatAdopted_of_fields _ (fun i nx => ?_) (fun _ => rfl) (hm.trans hr.symm) rfl
    simp only [heatAdopted, hsp, Option.some_inj, forall_and_eq_setpoint, if_neg hramp]
    simp [hr, hm, hk, hpower, frameKept, heatDirection]

/-- R108: the Heat Unit takes the heat fields of an adopted record as the table of R108 says. -/
theorem heatAdopted_adoptedHeat (hs : h.modeSafe = true) : heatAdopted b now r h (adoptedHeat b now r h) := by
  by_cases hr : r.heatMode = .temp
  · by_cases hm : h.mode = .temp
    · cases hk : keepsTarget r h
      · exact heatAdopted_change hs hr hm hk
      · exact heatAdopted_keep hs hk
    · exact heatAdopted_begin hr hm
  · exact heatAdopted_plain hr

/-! ### The judgement of R122 at an adoption -/

theorem meetsTarget_loopRun (b : Bool) (h : Heat) : meetsTarget (loopRun b h) = meetsTarget h := by
  obtain ⟨i, nx, hrun⟩ := loopRun_eq b h
  rw [hrun]
  rfl

theorem reached_loopRun (b : Bool) (h : Heat) : (loopRun b h).reached = h.reached := by
  obtain ⟨i, nx, hrun⟩ := loopRun_eq b h
  rw [hrun]

/-- R121, R122: a target just taken is met exactly when TB10 lies within 1 °C of it. -/
theorem meetsTarget_fresh {h1 : Heat} {target : Int} (hm : h1.mode = .temp) (hr : h1.reached = false)
    (ht : h1.target = some target) (hd : h1.dir = some (heatDirection h1.tb target)) :
    meetsTarget h1 = decide (target - 10 ≤ h1.tb ∧ h1.tb ≤ target + 10) := by
  unfold heatDirection at hd
  by_cases hlt : h1.tb < target
  · simp [meetsTarget, hm, hr, ht, hd, hlt, show h1.tb ≤ target + 10 by omega]
  · simp [meetsTarget, hm, hr, ht, hd, hlt, show target ≤ h1.tb + 10 by omega]

theorem metAtEntry_temp (hr : r.heatMode = .temp) (tb : Int) :
    metAtEntry r tb = decide (10 * (r.heatValue : Int) - 10 ≤ tb ∧ tb ≤ 10 * (r.heatValue : Int) + 10) := by
  simp [metAtEntry, hr]

/-- R108, R121: a target newly taken is held with its direction and the reached flag clear. -/
theorem adoptHeatFields_fresh (hr : r.heatMode = .temp) (hk : keepsTarget r h = false) :
    (adoptHeatFields b now r h).mode = .temp ∧ (adoptHeatFields b now r h).reached = false
      ∧ (adoptHeatFields b now r h).target = some (10 * (r.heatValue : Int))
      ∧ (adoptHeatFields b now r h).dir = some (heatDirection h.tb (10 * (r.heatValue : Int)))
      ∧ (adoptHeatFields b now r h).tb = h.tb := by
  by_cases hm : h.mode = .temp
  · rw [adoptHeatFields_change _ _ _ _ hr hm hk]
    unfold changeTarget
    dsimp only
    split
    · split <;> exact ⟨hm, rfl, rfl, rfl, rfl⟩
    · exact ⟨hm, rfl, rfl, rfl, rfl⟩
  · rw [adoptHeatFields_begin _ _ _ _ hr hm]
    unfold beginTemp
    dsimp only
    split <;> exact ⟨rfl, rfl, rfl, rfl, rfl⟩

/-- R108: a kept target keeps all that R122 judges by. -/
theorem adoptHeatFields_kept (hk : keepsTarget r h = true) :
    meetsTarget (adoptHeatFields b now r h) = meetsTarget h ∧ (adoptHeatFields b now r h).reached = h.reached := by
  rw [adoptHeatFields_keep _ _ _ _ hk]
  unfold keepTarget
  split
  · split <;> exact ⟨rfl, rfl⟩
  · exact ⟨rfl, rfl⟩

/-- R108: a TEMP record that does not keep the target differs from what the unit holds. -/
theorem heatDiffers_of_fresh (hr : r.heatMode = .temp) (hk : keepsTarget r h = false) : heatDiffers r h = true := by
  have hne : h.mode ≠ .temp ∨ h.target ≠ some (10 * (r.heatValue : Int)) := by
    by_contra hboth
    rw [not_or, not_not, not_not] at hboth
    exact of_decide_eq_false hk ⟨hr, hboth⟩
  simp only [heatDiffers, hr, decide_eq_true_eq]
  exact hne.elim .inl fun ht => .inr (.inl ht)

/-- R108, R122: what the judgement finds as a record is adopted, where a heat field differs. -/
theorem heatAdopt_judged :
    (heatDiffers r h && meetsTarget (heatAdopt b now r h)) = metAtAdoption r h
      ∧ (heatAdopt b now r h).reached = (keepsTarget r h && h.reached) := by
  rw [heatAdopt, meetsTarget_loopRun, reached_loopRun]
  cases hk : keepsTarget r h
  · by_cases hr : r.heatMode = .temp
    · obtain ⟨hmode, hreached, htarget, hdir, htb⟩ := adoptHeatFields_fresh (b := b) (now := now) hr hk
      rw [meetsTarget_fresh hmode hreached htarget (htb ▸ hdir), htb, hreached, heatDiffers_of_fresh hr hk,
        metAtAdoption, hk, metAtEntry_temp hr]
      exact ⟨rfl, rfl⟩
    · rw [adoptHeatFields_plain _ _ _ _ hr]
      simp [beginPlain, meetsTarget, hr, metAtAdoption, hk, metAtEntry]
  · obtain ⟨hmeets, hreached⟩ := adoptHeatFields_kept (b := b) (now := now) hk
    obtain ⟨hr, hm, ht⟩ := of_decide_eq_true hk
    rw [hmeets, hreached]
    refine ⟨?_, rfl⟩
    simp only [heatDiffers, metAtAdoption, hk, hr, hm, ht, meetsTarget]
    cases h.dir with
    | none => simp
    | some d => cases d <;> cases h.reached <;> simp

theorem adoptedHeat_of_met (hmet : metAtAdoption r h = true) :
    adoptedHeat b now r h = judgeTarget (heatAdopt b now r h) := by
  have hmeets : meetsTarget (heatAdopt b now r h) = true :=
    (Bool.and_eq_true_iff.mp (heatAdopt_judged.1.trans hmet)).2
  rw [judgeTarget, if_pos hmeets, adoptedHeat, hmet, Bool.true_or]

theorem adoptedHeat_of_not_met (hmet : metAtAdoption r h = false) : adoptedHeat b now r h = heatAdopt b now r h := by
  rw [adoptedHeat, hmet, Bool.false_or, ← (heatAdopt_judged (b := b) (now := now)).2]

/-- R108: the fields that the table of R108 speaks of; the rest of the unit stays. -/
theorem adoptHeatFields_eq (b : Bool) (now : Nat) (r : StepRecord) (h : Heat) :
    ∃ mode target power ramp sp countdown dir reached, adoptHeatFields b now r h
      = { h with mode := mode, target := target, power := power, ramp := ramp, sp := sp, countdown := countdown
                 dir := dir, reached := reached } := by
  by_cases hr : r.heatMode = .temp
  · cases hk : keepsTarget r h
    · by_cases hm : h.mode = .temp
      · rw [adoptHeatFields_change _ _ _ _ hr hm hk]
        unfold changeTarget
        dsimp only
        split
        · split <;> exact ⟨_, _, _, _, _, _, _, _, rfl⟩
        · exact ⟨_, _, _, _, _, _, _, _, rfl⟩
      · rw [adoptHeatFields_begin _ _ _ _ hr hm]
        unfold beginTemp
        dsimp only
        split <;> exact ⟨_, _, _, _, _, _, _, _, rfl⟩
    · rw [adoptHeatFields_keep _ _ _ _ hk]
      unfold keepTarget
      split
      · split <;> exact ⟨_, _, _, _, _, _, _, _, rfl⟩
      · exact ⟨_, _, _, _, _, _, _, _, rfl⟩
  · rw [adoptHeatFields_plain _ _ _ _ hr]
    exact ⟨_, _, _, _, _, _, _, _, rfl⟩

theorem heatAdopt_kept (b : Bool) (now : Nat) (r : StepRecord) (h : Heat) :
    (heatAdopt b now r h).tb = h.tb ∧ (heatAdopt b now r h).boilHold = h.boilHold := by
  obtain ⟨i, nx, hrun⟩ := loopRun_eq b (adoptHeatFields b now r h)
  obtain ⟨_, _, _, _, _, _, _, _, hfields⟩ := adoptHeatFields_eq b now r h
  rw [heatAdopt, hrun, hfields]
  exact ⟨rfl, rfl⟩

@[simp] theorem adoptedHeat_boilHold : (adoptedHeat b now r h).boilHold = h.boilHold := (heatAdopt_kept b now r h).2

/-- R54, R108, R122: the handover to the Heat Unit at an adoption, with TEMP_REACHED where the target is newly met. -/
theorem adoptHeat_eq (r : StepRecord) (s : State) :
    adoptHeat r s = (if metAtAdoption r s.heat = true
      then post (.tempReached s.liveIndex s.heat.tb) (s.withHeat (adoptedHeat s.isRunning s.now r s.heat))
      else s.withHeat (adoptedHeat s.isRunning s.now r s.heat)) := by
  have hjudged := (heatAdopt_judged (b := s.isRunning) (now := s.now) (r := r) (h := s.heat)).1
  unfold adoptHeat
  dsimp only
  cases hmet : metAtAdoption r s.heat
  · rw [adoptedHeat_of_not_met hmet]
    rw [hmet, Bool.and_eq_false_iff] at hjudged
    obtain hdiffers | hmeets := hjudged
    · simp [hdiffers]
    · simp [judgeAndPost, hmeets]
  · rw [hmet, Bool.and_eq_true_iff] at hjudged
    obtain ⟨hdiffers, hmeets⟩ := hjudged
    simp [judgeAndPost, hdiffers, hmeets, adoptedHeat_of_met hmet, heatAdopt_kept]
    rfl

end

/-! ### The stirring fields of an adopted record (R130) -/

theorem segmentTurns_eq (d : Direction) (x : Pattern) (seg : Nat) : segmentTurns d x seg = segmentDirection d x seg := by
  cases x
  case knead => cases d <;> simp [segmentTurns, segmentDirection, Direction.opposite]
  all_goals rfl

theorem segmentOn_eq (seg : Nat) : segmentOn seg = decide (seg % 2 = 0) := rfl

/-- R130: the Stir Unit takes the stirring fields of an adopted record. -/
theorem stirAdopted_stirAdopt (r : StepRecord) (st : Stir) : stirAdopted r st (stirAdopt r st) := by
  unfold stirAdopted stirAdopt
  dsimp only
  by_cases hp : st.pattern = r.pattern
  · by_cases hd : st.dir = r.direction
    · simp [hp, hd]
    · simp [hp, hd, checkReversal, segmentOn_eq, segmentTurns_eq]
  · simp [hp, checkReversal, segmentOn_eq, segmentTurns_eq]

end Sys2Proof.Machine
end

section
/-! PROOFS. The adoption of a replaced live step by the Step Engine (R17, R54 to R56): the handover, the phase and end
consequences, and the trip of a step that takes heat while PROBE_FAULT_B is asserted. -/

namespace Sys2Proof.Machine

/-! ### The handover, before PROBE_FAULT_B is looked at -/

/-- R54: the handover of record `r` in place of `old`, all but its trip. -/
def takenOver (old r : StepRecord) (s : State) : State :=
  let s := adoptHeat r (syncHold s)
  adoptTarget old r (adoptPrompt old r (s.withStir (stirAdopt r s.stir)))

theorem adoptHandOver_eq (old r : StepRecord) (s : State) :
    adoptHandOver old r s = adoptProbe old r (takenOver old r s) := rfl

/-- R54: a changed weight target clears near posted. -/
def Live.retargeted (old r : StepRecord) (l : Live) : Live :=
  { l with nearPosted := if r.kind = .dose ∧ r.target ≠ old.target then false else l.nearPosted }

/-- R54, R108, R130: what a handover of `r` to `s`, whose live step is `l`, leaves in `v`. -/
structure HandedOver (old r : StepRecord) (l : Live) (s v : State) : Prop where
  engine : v.engine = { s.engine with live := some (l.retargeted old r) }
  plan : v.plan = s.plan
  mon : v.mon = s.mon
  now : v.now = s.now
  lid : v.lid = s.lid
  heat : heatAdopted s.isRunning s.now r s.heat v.heat
  hold : v.heat.boilHold = (s.isRunning && s.asserts .boil && decide (r.boil = .hold))
  stir : stirAdopted r s.stir v.stir
  notices : v.notices = (adoptionNotices old r l s.heat s).notices

@[simp] theorem adoptHeat_heat (r : StepRecord) (s : State) :
    (adoptHeat r s).heat = adoptedHeat s.isRunning s.now r s.heat := by
  rw [adoptHeat_eq]
  split <;> rfl

theorem adoptHeat_notices (r : StepRecord) (s : State) : (adoptHeat r s).notices
    = (if metAtAdoption r s.heat = true then post (.tempReached s.liveIndex s.heat.tb) s else s).notices := by
  rw [adoptHeat_eq]
  split <;> rfl

@[simp] theorem adoptHeat_engine (r : StepRecord) (s : State) : (adoptHeat r s).engine = s.engine := by
  rw [adoptHeat_eq]
  split <;> rfl

theorem adoptHeat_reach (r : StepRecord) (s : State) : Touches [.heat, .notices] s (adoptHeat r s) := by
  rw [adoptHeat_eq]
  exact Touches.ite _ (((withHeat_touches _ s).mono (by decide)).trans ((post_touches _ _).mono (by decide)))
    ((withHeat_touches _ s).mono (by decide))

theorem takenOver_reach (old r : StepRecord) (s : State) :
    Touches [.engine, .heat, .stir, .notices] s (takenOver old r s) :=
  (((((syncHold_touches s).mono (by decide)).trans ((adoptHeat_reach r _).mono (by decide))).trans
    ((withStir_touches _ _).mono (by decide))).trans ((adoptPrompt_touches old r _).mono (by decide))).trans
      ((adoptTarget_touches old r _).mono (by decide))

theorem adoptTarget_engine {old r : StepRecord} {l : Live} {s : State} (hl : s.engine.live = some l) :
    (adoptTarget old r s).engine = { s.engine with live := some (l.retargeted old r) } := by
  unfold adoptTarget Live.retargeted
  split
  · rw [mapLive_engine, hl]
    rfl
  · rw [← hl]

theorem adoptPrompt_notices {old r : StepRecord} {l : Live} {s : State} (hl : s.engine.live = some l) :
    (adoptPrompt old r s).notices
      = (if l.phase = .waitConfirm ∧ (l.kind = .prompt ∨ l.fallenBack = true) ∧ r.prompt ≠ old.prompt then
          post (.prompt l.index l.fallenBack r.prompt r.tag) s else s).notices := by
  unfold adoptPrompt
  rw [hl]

/-- R37: the boil hold under the record of the live step. -/
theorem boilHolds_of_live {s : State} {l : Live} {r : StepRecord} (hl : s.engine.live = some l)
    (hr : s.plan.steps[l.index]? = some r) :
    boilHolds s = (s.isRunning && s.asserts .boil && decide (r.boil = .hold)) := by
  simp only [boilHolds, State.liveRecord, hl, hr]

section
variable {old r : StepRecord} {l : Live} {s : State}

theorem takenOver_notices (hl : s.engine.live = some l) :
    (takenOver old r s).notices = (adoptionNotices old r l s.heat s).notices := by
  have htarget : (takenOver old r s).notices = _ := adoptTarget_touches old r _ .notices (by decide)
  have hlive : (adoptHeat r (syncHold s)).engine.live = some l := by rw [adoptHeat_engine]; exact hl
  have hindex : s.liveIndex = some l.index := by rw [State.liveIndex, hl]; rfl
  have hheat : (adoptHeat r (syncHold s)).notices
      = (if metAtAdoption r s.heat then post (.tempReached (some l.index) s.heat.tb) s else s).notices := by
    rw [adoptHeat_notices, ← hindex]
    split
    next h => rw [if_pos (by exact h)]; rfl
    next h => rw [if_neg (by exact h)]; rfl
  rw [htarget, adoptPrompt_notices (by exact hlive), adoptionNotices]
  split
  · exact post_notices_congr _ hheat
  · exact hheat

theorem takenOver_heat : (takenOver old r s).heat = adoptedHeat s.isRunning s.now r (syncHold s).heat := by
  have htarget : (takenOver old r s).heat = _ := adoptTarget_touches old r _ .heat (by decide)
  have hprompt := adoptPrompt_touches old r
    ((adoptHeat r (syncHold s)).withStir (stirAdopt r (adoptHeat r (syncHold s)).stir)) .heat (by decide)
  exact htarget.trans (hprompt.trans (adoptHeat_heat r (syncHold s)))

theorem takenOver_stir : (takenOver old r s).stir = stirAdopt r s.stir := by
  have htarget : (takenOver old r s).stir = _ := adoptTarget_touches old r _ .stir (by decide)
  have hprompt := adoptPrompt_touches old r
    ((adoptHeat r (syncHold s)).withStir (stirAdopt r (adoptHeat r (syncHold s)).stir)) .stir (by decide)
  have hheat : (adoptHeat r (syncHold s)).stir = s.stir := adoptHeat_reach r (syncHold s) .stir (by decide)
  exact htarget.trans (hprompt.trans (congrArg (stirAdopt r) hheat))

/-- R54: what the handover leaves. -/
theorem handedOver_takenOver (hl : s.engine.live = some l) (hr : s.plan.steps[l.index]? = some r)
    (hs : s.heat.modeSafe = true) : HandedOver old r l s (takenOver old r s) where
  engine := by
    have hprompt := adoptPrompt_touches old r
      ((adoptHeat r (syncHold s)).withStir (stirAdopt r (adoptHeat r (syncHold s)).stir)) .engine (by decide)
    have hengine : (adoptPrompt old r
        ((adoptHeat r (syncHold s)).withStir (stirAdopt r (adoptHeat r (syncHold s)).stir))).engine = s.engine :=
      hprompt.trans (adoptHeat_engine r (syncHold s))
    exact (adoptTarget_engine (hengine ▸ hl)).trans (by rw [hengine])
  plan := takenOver_reach old r s .plan (by decide)
  mon := takenOver_reach old r s .mon (by decide)
  now := takenOver_reach old r s .now (by decide)
  lid := takenOver_reach old r s .lid (by decide)
  heat := by
    rw [takenOver_heat]
    exact heatAdopted_adoptedHeat (h := (syncHold s).heat) hs
  hold := by
    rw [takenOver_heat, adoptedHeat_boilHold]
    exact boilHolds_of_live hl hr
  stir := by
    rw [takenOver_stir]
    exact stirAdopted_stirAdopt r s.stir
  notices := takenOver_notices hl

end

/-! ### Phase checks -/

/-- R30: the end event that a phase entry check finds, by the record of the live step. -/
theorem endFound_of_live {s : State} {l : Live} {r : StepRecord} (hl : s.engine.live = some l)
    (hr : s.plan.steps[l.index]? = some r) :
    endFound s = endInPhase r l.phase l.active s.heat.reached (s.asserts .boil) := by
  have htimer : timerMet l r = (r.exits.timer && decide (l.phase ∈ [Phase.dwell, .dosing, .waitConfirm])
      && (r.duration.map (fun d => decide (10 * d ≤ l.active))).getD false) := by
    unfold timerMet
    cases l.phase <;> cases r.duration <;> simp
  have hheats : inHeatPhase l = decide (l.phase ∈ [Phase.approach, .dwell]) := by
    unfold inHeatPhase
    cases l.phase <;> rfl
  simp only [endFound, State.liveRecord, hl, hr, endInPhase, htimer, hheats, Bool.and_eq_true, and_assoc]

/-- R30: the phase entry checks, by the record of the live step. -/
theorem phaseChecks_of_live {s : State} {l : Live} {r : StepRecord} (hl : s.engine.live = some l)
    (hr : s.plan.steps[l.index]? = some r) :
    (phaseChecks s).2 = (checkedPhase r l.phase l.active s.heat.reached (s.asserts .boil)).2
      ∧ (phaseChecks s).1.engine = { s.engine with live := some { l with
          phase := (checkedPhase r l.phase l.active s.heat.reached (s.asserts .boil)).1 } } := by
  have hself : s.engine = { s.engine with live := some l } := by rw [← hl]
  have hphase : s.phase = some l.phase := by rw [State.phase, hl]; rfl
  unfold phaseChecks checkedPhase
  rw [endFound_of_live hl hr, hphase]
  cases endInPhase r l.phase l.active s.heat.reached (s.asserts .boil) with
  | some e => exact ⟨rfl, hself⟩
  | none =>
    by_cases hdwell : l.phase = .approach ∧ s.heat.reached = true
    · have hlive : (toPhase .dwell s).engine.live = some { l with phase := .dwell } := by
        rw [toPhase, mapLive_engine, hl]
        rfl
      dsimp only
      rw [if_pos ⟨congrArg some hdwell.1, hdwell.2⟩, if_pos hdwell]
      refine ⟨endFound_of_live hlive hr, ?_⟩
      rw [toPhase, mapLive_engine, hl]
      rfl
    · simp only [Option.some_inj, hdwell, if_false]
      exact ⟨trivial, hself⟩

/-! ### The run log -/

theorem closeStep_log_prefix (e : StepEnd) (s : State) : s.engine.log <+: (closeStep e s).engine.log := by
  unfold closeStep
  split
  · exact List.prefix_append _ _
  · exact List.prefix_refl _

theorem closeStep_log {e : StepEnd} {s : State} {l : Live} {r : StepRecord} (hl : s.engine.live = some l)
    (hr : s.plan.steps[l.index]? = some r) :
    (closeStep e s).engine.log = s.engine.log ++ [logEntryOf l r e] := by
  simp [closeStep, State.liveRecord, hl, hr]

theorem enterStep_log (i : Nat) (r : StepRecord) (s : State) : (enterStep i r s).engine.log = s.engine.log := by
  unfold enterStep
  dsimp only
  split
  · rw [enterTripped_engine, announceStep_engine, handOver_engine]
    rfl
  · rw [announceStep_engine, handOver_engine]
    rfl

theorem phaseChecks_log (s : State) : (phaseChecks s).1.engine.log = s.engine.log := by
  unfold phaseChecks
  split
  · rfl
  · dsimp only
    split <;> rfl

theorem comeIntoPhase_log (s : State) : (comeIntoPhase s).1.engine.log = s.engine.log := by
  unfold comeIntoPhase
  split
  · rfl
  · rfl
  · exact phaseChecks_log s
  · exact phaseChecks_log s
  · exact phaseChecks_log s
  · exact phaseChecks_log s
  · rfl

theorem comeIn_log (s : State) : (comeIn s).1.engine.log = s.engine.log := by
  unfold comeIn comeIntoLocking
  split
  · split
    · exact comeIntoPhase_log (passLocking s)
    · rfl
  · exact comeIntoPhase_log s

/-- R35: what follows the end of a step leaves the log entries in place. -/
theorem endStepAt_log_prefix : ∀ (rest : List StepRecord) (i : Nat) (e : StepEnd) (s : State),
    (closeStep e s).engine.log <+: (endStepAt rest i e s).engine.log
  | [], _, e, s => by
    rw [endStepAt, enterEnded_engine]
  | r :: rest, i, e, s => by
    have hentered := enterStep_log (i + 1) r (closeStep e s)
    have hcome := comeIn_log (enterStep (i + 1) r (closeStep e s))
    unfold endStepAt
    dsimp only
    split
    · split
      · rename_i heq
        rw [heq] at hcome
        rw [hcome, hentered]
      · rename_i s' e' heq
        rw [heq] at hcome
        rw [← hentered, ← hcome]
        exact (closeStep_log_prefix e' s').trans (endStepAt_log_prefix rest (i + 1) e' s')
    · rw [hentered]

/-- R35, R58: the end of the live step puts its entry after those of the run log. -/
theorem endStep_log {e : StepEnd} {s : State} {l : Live} {r : StepRecord} (hl : s.engine.live = some l)
    (hr : s.plan.steps[l.index]? = some r) :
    ∃ more, (endStep e s).engine.log = s.engine.log ++ logEntryOf l r e :: more := by
  obtain ⟨more, hmore⟩ := endStepAt_log_prefix (s.plan.steps.drop (l.index + 1)) l.index e s
  refine ⟨more, ?_⟩
  rw [endStep, hl]
  rw [closeStep_log hl hr] at hmore
  rw [← hmore, List.append_assoc, List.singleton_append]

/-! ### The adoption -/

/-- R55: whether the phase and end consequences follow: the engine is RUNNING and the phase is not LOCKING. -/
def adoptionMoves (l : Live) (s : State) : Bool := decide (s.engine.state = .running) && decide (l.phase ≠ .locking)

/-- R55, R56: the phase that an adoption leaves and the end event it finds. -/
def adoptionFinds (old r : StepRecord) (l : Live) (s : State) : Phase × Option StepEnd :=
  if adoptionMoves l s = true then
    checkedPhase r (adoptedLive old r l).phase l.active
      (metAtAdoption r s.heat || (keepsTarget r s.heat && s.heat.reached)) (s.asserts .boil)
  else ((adoptedLive old r l).phase, none)

/-- R54: whether the adoption takes heat from OFF while PROBE_FAULT_B is asserted. -/
def adoptionTrips (old r : StepRecord) (s : State) : Bool :=
  s.asserts .probeB && decide (r.heatMode ≠ .off ∧ old.heatMode = .off)

section
variable {old r : StepRecord} {l : Live} {s v : State}

theorem HandedOver.live (h : HandedOver old r l s v) : v.engine.live = some (l.retargeted old r) := by rw [h.engine]

theorem HandedOver.record (h : HandedOver old r l s v) (hr : s.plan.steps[l.index]? = some r) :
    v.plan.steps[(l.retargeted old r).index]? = some r := by rw [h.plan]; exact hr

theorem HandedOver.asserts (h : HandedOver old r l s v) (d : Detector) : v.asserts d = s.asserts d := by
  rw [State.asserts, State.asserts, h.mon]

theorem HandedOver.moves_iff (h : HandedOver old r l s v) :
    (v.isRunning = true ∧ v.phase ≠ some .locking) ↔ adoptionMoves l s = true := by
  simp [adoptionMoves, State.isRunning, State.phase, h.engine, Live.retargeted]

theorem HandedOver.reached (h : HandedOver old r l s v) :
    v.heat.reached = (metAtAdoption r s.heat || (keepsTarget r s.heat && s.heat.reached)) := by
  obtain ⟨_, _, _, _, _, hreached, _⟩ := h.heat
  exact hreached

/-- R54: an adoption that does not trip is the handover and what follows from it. -/
theorem adoptStep_calm (h : HandedOver old r l s (takenOver old r s)) (hf : adoptionTrips old r s = false) :
    adoptStep old r s
      = if adoptionMoves l s = true then adoptConsequences r (takenOver old r s) else keepAdopted r (takenOver old r s) := by
  have hprobe : adoptProbe old r (takenOver old r s) = takenOver old r s := by
    refine if_neg fun ⟨hheat, hoff, hasserts⟩ => ?_
    rw [h.asserts] at hasserts
    simp [adoptionTrips, hasserts, hheat, hoff] at hf
  unfold adoptStep
  dsimp only
  rw [adoptHandOver_eq, hprobe]
  simp only [h.moves_iff]

/-- R56: what the kept phases leave of a live step handed over. -/
theorem keepAdopted_of_live {v : State} {q : Live} (hl : v.engine.live = some q) :
    (keepAdopted r v).engine = { v.engine with live := some { q with
      phase := if r.start = .atEntry ∧ q.phase = .approach then .dwell else q.phase
      returnPhase := if r.start = .atEntry ∧ q.returnPhase = some .approach then some .dwell else q.returnPhase } } := by
  unfold keepAdopted
  by_cases hs : r.start = .atEntry
  · rw [if_pos hs, mapLive_engine, hl]
    simp [hs]
  · rw [if_neg hs]
    simp [hs, ← hl]

theorem keepAdopted_touches (r : StepRecord) (v : State) : Touches [.engine] v (keepAdopted r v) :=
  Touches.ite _ (mapLive_touches _ _) (Touches.refl _ _)

/-- R56: the kept phase and return phase of a step that goes on. -/
theorem keepAdopted_engine (h : HandedOver old r l s v) :
    (keepAdopted r v).engine = { s.engine with live := some (adoptedLive old r l) } := by
  rw [keepAdopted_of_live h.live, h.engine]
  rfl

/-- R55, R56: the live step that the phase checks of an adoption look at. -/
theorem adoptConsequences_eq (h : HandedOver old r l s v) :
    ∃ u : State, adoptConsequences r v = settleOutcome (phaseChecks u) ∧ Touches [.engine] v u
      ∧ u.engine = { s.engine with live := some { adoptedLive old r l with returnPhase := l.returnPhase } } := by
  have hphase : v.phase = some l.phase := by rw [State.phase, h.live]; rfl
  unfold adoptConsequences
  simp only [hphase, Option.some_inj]
  by_cases hs : l.phase = .approach ∧ r.start = .atEntry
  · rw [if_pos hs]
    refine ⟨_, rfl, toPhase_touches _ v, ?_⟩
    rw [toPhase, mapLive_engine, h.engine]
    simp [Live.retargeted, adoptedLive, hs]
  · rw [if_neg hs]
    refine ⟨v, rfl, Touches.refl _ v, ?_⟩
    rw [h.engine]
    have hs' : ¬ (r.start = .atEntry ∧ l.phase = .approach) := fun hc => hs hc.symm
    simp [Live.retargeted, adoptedLive, hs']

/-- R55: the phase checks of an adoption find what `adoptionFinds` says. -/
theorem adoptConsequences_checks (h : HandedOver old r l s v) (hr : s.plan.steps[l.index]? = some r)
    (hm : adoptionMoves l s = true) :
    ∃ u : State, adoptConsequences r v = settleOutcome (u, (adoptionFinds old r l s).2) ∧ Touches [.engine] v u
      ∧ u.engine = { s.engine with live := some { adoptedLive old r l with
          phase := (adoptionFinds old r l s).1, returnPhase := l.returnPhase } } := by
  obtain ⟨u, hu, htouch, hengine⟩ := adoptConsequences_eq h
  have hlive : u.engine.live = some { adoptedLive old r l with returnPhase := l.returnPhase } := by rw [hengine]
  have hplan : u.plan = s.plan := (htouch .plan (by decide)).trans h.plan
  have hreached : u.heat.reached = (metAtAdoption r s.heat || (keepsTarget r s.heat && s.heat.reached)) := by
    have hheat : u.heat = v.heat := htouch .heat (by decide)
    rw [hheat, h.reached]
  have hboil : u.asserts .boil = s.asserts .boil := by
    have hmon : u.mon = v.mon := htouch .mon (by decide)
    rw [State.asserts, hmon]
    exact h.asserts .boil
  obtain ⟨hfound, hphase⟩ := phaseChecks_of_live hlive (hplan ▸ hr)
  have hfinds : adoptionFinds old r l s
      = checkedPhase r (adoptedLive old r l).phase l.active u.heat.reached (u.asserts .boil) := by
    rw [adoptionFinds, if_pos hm, hreached, hboil]
  refine ⟨(phaseChecks u).1, ?_, htouch.trans (phaseChecks_touches u), ?_⟩
  · rw [hu]
    exact congrArg (fun o => settleOutcome ((phaseChecks u).1, o)) (hfound.trans (congrArg Prod.snd hfinds).symm)
  · rw [hphase, hfinds, hengine]
    rfl

/-- R55, R56: an adoption that takes no end event leaves the handover and the phase it finds. -/
theorem adoptStep_goes_on (h : HandedOver old r l s (takenOver old r s)) (hr : s.plan.steps[l.index]? = some r)
    (hf : adoptionTrips old r s = false) (hn : (adoptionFinds old r l s).2 = none) :
    Touches [.engine] (takenOver old r s) (adoptStep old r s)
      ∧ (adoptStep old r s).engine = { s.engine with live := some { adoptedLive old r l with
          phase := (adoptionFinds old r l s).1
          returnPhase := if adoptionMoves l s = true then l.returnPhase else (adoptedLive old r l).returnPhase } } := by
  rw [adoptStep_calm h hf]
  by_cases hm : adoptionMoves l s = true
  · obtain ⟨u, hu, htouch, hengine⟩ := adoptConsequences_checks h hr hm
    rw [if_pos hm, if_pos hm, hu, hn]
    exact ⟨htouch, hengine⟩
  · rw [if_neg hm, if_neg hm, keepAdopted_engine h, adoptionFinds, if_neg hm]
    exact ⟨Touches.ite _ (mapLive_touches _ _) (Touches.refl _ _), rfl⟩

/-- R55, R58: an adoption that takes an end event puts the step's entry in the run log. -/
theorem adoptStep_ends (h : HandedOver old r l s (takenOver old r s)) (hr : s.plan.steps[l.index]? = some r)
    (hf : adoptionTrips old r s = false) {e : StepEnd} (hn : (adoptionFinds old r l s).2 = some e) :
    ∃ more, (adoptStep old r s).engine.log = s.engine.log ++ logEntryOf l r e :: more := by
  have hm : adoptionMoves l s = true := by
    by_contra hm
    rw [adoptionFinds, if_neg hm] at hn
    cases hn
  obtain ⟨u, hu, htouch, hengine⟩ := adoptConsequences_checks h hr hm
  have hplan : u.plan = s.plan := (htouch .plan (by decide)).trans h.plan
  have hlive : u.engine.live = some { adoptedLive old r l with
      phase := (adoptionFinds old r l s).1, returnPhase := l.returnPhase } := by rw [hengine]
  obtain ⟨more, hmore⟩ := endStep_log (e := e) hlive (hplan ▸ hr)
  refine ⟨more, ?_⟩
  rw [adoptStep_calm h hf, if_pos hm, hu, hn]
  exact hmore.trans (by rw [hengine]; rfl)

/-! ### The trip of an adopted step (R54, R51, R52) -/

theorem adoptProbe_trips (h : HandedOver old r l s v) (hf : adoptionTrips old r s = true) :
    adoptProbe old r v = takeTrip .probeB v := by
  obtain ⟨hasserts, hoff⟩ := Bool.and_eq_true_iff.mp hf
  obtain ⟨hheat, hold⟩ := of_decide_eq_true hoff
  exact if_pos ⟨hheat, hold, (h.asserts .probeB).trans hasserts⟩

/-- R51, R163: PROBE_FAULT_B is trip-class for a step that takes heat. -/
theorem takeTrip_probeB (h : HandedOver old r l s v) (hr : s.plan.steps[l.index]? = some r) (hheat : r.heatMode ≠ .off)
    (hrun : s.inRun = true) :
    takeTrip .probeB v = if s.engine.state = .tripped then joinTrip .probeB v else enterTripped .probeB v := by
  have hheated : v.liveHeated = true := by
    simp only [State.liveHeated, State.liveRecord, h.live, h.record hr]
    exact decide_eq_true hheat
  have hstate : v.engine.state = s.engine.state := by rw [h.engine]
  unfold takeTrip
  rw [hheated, hstate]
  obtain hs | hs | hs := EngineState.inRun_iff.mp hrun
  all_goals
    rw [hs]
    rfl

theorem adoptionTrips_heat (hf : adoptionTrips old r s = true) : r.heatMode ≠ .off :=
  (of_decide_eq_true (Bool.and_eq_true_iff.mp hf).2).1

end

/-- R26, R27: outside RUNNING neither the boil hold nor the lock is wanted. -/
theorem boilHolds_not_running {s : State} (h : s.engine.state ≠ .running) : boilHolds s = false := by
  simp [boilHolds, State.isRunning, h]

theorem wantsLock_not_running {s : State} (h : s.engine.state ≠ .running) : wantsLock s = false := by
  simp [wantsLock, State.isRunning, h]

theorem decideDemand_wish (now : Nat) (l : Lid) : (decideDemand now l).wish = l.wish := by
  unfold decideDemand
  split <;> rfl

theorem tellWish_wish (w : Bool) (s : State) : (tellWish w s).lid.wish = w := by
  unfold tellWish
  split
  · assumption
  · exact decideDemand_wish _ _

/-- R109: the force-off with the boil hold out. -/
theorem forceOff_eq (now : Nat) (h : Heat) : { forceOff now h with boilHold := false } = heatForcedOff now h := by
  unfold forceOff heatForcedOff
  cases h.countdown <;> rfl

/-- R27, R109: what the entry actions leave outside RUNNING, besides the engine. -/
theorem entryActions_rest {s : State} (h : s.engine.state ≠ .running) :
    (entryActions s).heat = heatForcedOff s.now s.heat ∧ (entryActions s).stir = { s.stir with applied := 0 }
      ∧ (entryActions s).lid.wish = false ∧ (entryActions s).notices = s.notices := by
  unfold entryActions
  dsimp only
  refine ⟨?_, ?_, ?_, ?_⟩
  · refine (syncWish_touches _ .heat (by decide)).trans ?_
    rw [syncHold, boilHolds_not_running (by exact h)]
    exact forceOff_eq s.now s.heat
  · exact syncWish_touches _ .stir (by decide)
  · rw [syncWish, tellWish_wish]
    exact wantsLock_not_running h
  · exact syncWish_touches _ .notices (by decide)

/-- R27, R51: what entering TRIPPED leaves, besides the engine. -/
theorem enterTripped_rest (d : Detector) (v : State) :
    (enterTripped d v).heat = heatForcedOff v.now v.heat ∧ (enterTripped d v).stir = { v.stir with applied := 0 }
      ∧ (enterTripped d v).lid.wish = false
      ∧ (enterTripped d v).notices
        = (post (.engineState .tripped (v.engine.live.map (·.index)) d.id) (post (.trip d.set d) v)).notices := by
  obtain ⟨hheat, hstir, hwish, hnotices⟩ := entryActions_rest (s := v.withEngine { v.engine with
    state := .tripped, causes := CauseSet.none, trips := d.set, firstTrip := some d }) (by simp)
  refine ⟨hheat, hstir, hwish, ?_⟩
  have hindex : (v.engine.live.map Live.cancelSettle).map (·.index) = v.engine.live.map (·.index) := by
    cases v.engine.live <;> rfl
  unfold enterTripped postEngineState State.inRun State.liveIndex
  dsimp only
  rw [post_engine, entryActions_engine, ← hindex]
  exact post_notices_congr _ (post_notices_congr _ hnotices)

section
variable {old r : StepRecord} {l : Live} {s : State}

/-- R54: an adoption that trips, from the engine's state. -/
theorem adoptStep_tripping (h : HandedOver old r l s (takenOver old r s)) (hr : s.plan.steps[l.index]? = some r)
    (hrun : s.inRun = true) (hf : adoptionTrips old r s = true) :
    adoptStep old r s = keepAdopted r (if s.engine.state = .tripped then joinTrip .probeB (takenOver old r s)
      else enterTripped .probeB (takenOver old r s)) := by
  unfold adoptStep
  dsimp only
  rw [adoptHandOver_eq, adoptProbe_trips h hf, takeTrip_probeB h hr (adoptionTrips_heat hf) hrun]
  refine if_neg fun ⟨hrunning, _⟩ => ?_
  have hstate := of_decide_eq_true hrunning
  split at hstate
  · rename_i hs
    rw [joinTrip_engine] at hstate
    split at hstate
    all_goals
      rw [h.engine] at hstate
      rw [hs] at hstate
      cases hstate
  · rw [enterTripped_engine] at hstate
    cases hstate

/-- R51, R54: an adoption that trips a RUNNING or PAUSED run. -/
theorem adoptStep_trips (h : HandedOver old r l s (takenOver old r s)) (hr : s.plan.steps[l.index]? = some r)
    (hrun : s.inRun = true) (hf : adoptionTrips old r s = true) (hs : s.engine.state ≠ .tripped) :
    Touches [.engine] (enterTripped .probeB (takenOver old r s)) (adoptStep old r s)
      ∧ (adoptStep old r s).engine = { s.engine with
          state := .tripped, causes := CauseSet.none, trips := Detector.probeB.set, firstTrip := some .probeB
          live := some { adoptedLive old r l with settleBy := none } } := by
  rw [adoptStep_tripping h hr hrun hf, if_neg hs]
  refine ⟨keepAdopted_touches _ _, ?_⟩
  rw [keepAdopted_of_live (q := (l.retargeted old r).cancelSettle) (by rw [enterTripped_engine, h.engine]; rfl),
    enterTripped_engine, h.engine]
  rfl

theorem or_set_of_has {x : DetSet} {d : Detector} (h : DetSet.has x d = true) : x ||| d.set = x := by
  refine BitVec.eq_of_getLsbD_eq fun i hi => ?_
  rw [BitVec.getLsbD_or, Detector.set, BitVec.getLsbD_ofNat, Nat.testBit_two_pow]
  by_cases hid : d.id = i
  · have hx : x.getLsbD i = true := hid ▸ h
    rw [hx, Bool.true_or]
  · simp [hid]

/-- R52: a joining detector is a member of the trip set afterwards, whether or not it was one before. -/
theorem joinTrip_engine_or (d : Detector) (s : State) :
    (joinTrip d s).engine = { s.engine with trips := s.engine.trips ||| d.set } := by
  rw [joinTrip_engine]
  split
  next h => rw [or_set_of_has h]
  next => rfl

theorem joinTrip_reach (d : Detector) (s : State) : Touches [.engine, .notices] s (joinTrip d s) :=
  Touches.ite _ (Touches.refl _ s)
    (((withEngine_touches _ s).mono (by decide)).trans
      (((post_touches _ _).mono (by decide)).trans ((postEngineState_touches _).mono (by decide))))

/-- R52, R54: an adoption that joins the trip set of a TRIPPED run. -/
theorem adoptStep_joins (h : HandedOver old r l s (takenOver old r s)) (hr : s.plan.steps[l.index]? = some r)
    (hrun : s.inRun = true) (hf : adoptionTrips old r s = true) (hs : s.engine.state = .tripped) :
    (adoptStep old r s).heat = (takenOver old r s).heat ∧ (adoptStep old r s).stir = (takenOver old r s).stir
      ∧ (adoptStep old r s).engine = { s.engine with
          trips := s.engine.trips ||| Detector.probeB.set, live := some (adoptedLive old r l) } := by
  rw [adoptStep_tripping h hr hrun hf, if_pos hs]
  have hreach := (joinTrip_reach .probeB (takenOver old r s)).trans ((keepAdopted_touches r _).mono (by decide))
  refine ⟨hreach .heat (by decide), hreach .stir (by decide), ?_⟩
  rw [keepAdopted_of_live (q := l.retargeted old r) (by rw [joinTrip_engine_or, h.engine]), joinTrip_engine_or, h.engine]
  rfl

end

/-! ### REPLACE_STEP of the live step -/

/-- R16, R17: the state in which a replaced live step is adopted: the record stored and PLAN_CHANGED posted. -/
def replacedPlan (p : Port) (tag : Byte) (dt idx : Nat) (r : StepRecord) (s : State) : State :=
  acceptEdit p s.plan.planId (s.plan.steps.set idx r) (heldState p 0x13 tag (s.after dt))

theorem heldState_touches (p : Port) (k t : Byte) (s : State) : Touches [portBlock p] s (heldState p k t s) := by
  rw [heldState_eq]
  exact setPort_touches p _ s

section
variable (p : Port) (tag : Byte) (dt idx : Nat) (r : StepRecord) (s : State)

theorem replacedPlan_touches :
    Touches [.now, .plan, .notices, .panel, .link] s (replacedPlan p tag dt idx r s) := by
  have hheld : Touches [.now, .plan, .notices, .panel, .link] s (heldState p 0x13 tag (s.after dt)) :=
    ((after_touches dt s).mono (by decide)).trans ((heldState_touches p _ tag _).mono (by cases p <;> decide))
  rw [replacedPlan, acceptEdit_eq]
  exact hheld.trans (((withPlan_touches _ _).mono (by decide)).trans ((post_touches _ _).mono (by decide)))

theorem replacedPlan_plan : (replacedPlan p tag dt idx r s).plan
    = { planId := s.plan.planId, revision := nextRevision s.plan.revision, steps := s.plan.steps.set idx r,
        origin := portOrigin p, slot := none } := by
  rw [replacedPlan, acceptEdit_plan, held_plan, State.after_plan]

theorem replacedPlan_now : (replacedPlan p tag dt idx r s).now = s.now + dt := by
  rw [replacedPlan, acceptEdit_eq, post_now, State.withPlan_now, held_now, State.after_now]

theorem replacedPlan_overrun : ((replacedPlan p tag dt idx r s).port p).overrun = (s.port p).overrun := by
  have hport : (replacedPlan p tag dt idx r s).port p = (heldState p 0x13 tag (s.after dt)).port p := by cases p <;> rfl
  rw [hport, held_own_port, after_port]

theorem replacedPlan_notices : (replacedPlan p tag dt idx r s).notices
    = (post (.planChanged (nextRevision s.plan.revision) (portOrigin p) s.plan.steps.length) s).notices := by
  rw [replacedPlan, acceptEdit_eq, held_plan, State.after_plan, List.length_set]
  exact post_notices_congr _ (held_notices p 0x13 tag (s.after dt))

end

/-- A reply's port, by the OVERRUN flag that its port holds. -/
theorem formReply_own_port {p : Port} {k t : Byte} {a : Answer} {s u : State}
    (h : (u.port p).overrun = (s.port p).overrun) : (formReply p k t a u).port p = (formReply p k t a s).port p := by
  unfold formReply
  rw [h]
  cases p <;> rfl

/-- R10, R16, R17: an accepted REPLACE_STEP of the live step: the edited plan adopted, and the reply on its port. -/
theorem exec_replaceLive {p : Port} {idx : Nat} {raw : RawStep} {old got : StepRecord} {l : Live} {s : State}
    (dt : Nat) (tag : Byte) (h : s.admits p = true) (hload : s.loadInFlight = false) (hrun : s.inRun = true)
    (hl : s.engine.live = some l) (hidx : l.index = idx) (hold : s.plan.steps[idx]? = some old)
    (hr : acceptRaw raw = some got) (hk : got.kind = old.kind) :
    ∃ t : State, exec (.replaceStep dt p tag s.plan.revision idx raw) s = .next t
      ∧ Touches [.panel, .link] (adoptStep old got.stored (replacedPlan p tag dt idx got.stored s)) t
      ∧ t.port p = (formReply p 0x13 tag
          { result := .ok, clamped := decide (got.stored ≠ got)
            body := le16 (nextRevision s.plan.revision) ++ byte s.plan.steps.length ++ got.stored.bytes } s).port p := by
  have hexec := exec_admitted (r := .replaceStep s.plan.revision idx raw) h rfl dt tag
  have hlive : isLiveIndex idx (heldState p 0x13 tag (s.after dt)) = true := by
    rw [isLiveIndex_held, isLiveIndex_after]
    simp [isLiveIndex, hrun, State.liveIndex, hl, hidx]
  have hbelow : belowLive idx (heldState p 0x13 tag (s.after dt)) = false := by
    rw [belowLive_held, belowLive_after]
    simp [belowLive, hrun, State.liveIndex, hl, hidx]
  have hserve := serveReplaceStep_accepted (p := p) (rev := s.plan.revision) (raw := raw)
    (s := heldState p 0x13 tag (s.after dt)) (by rw [held_loadInFlight]; exact hload) (by rw [held_plan]; rfl)
    (by rw [held_plan]; exact hold) hbelow hr fun _ => hk
  have hplace : replaceAt p idx old got.stored (heldState p 0x13 tag (s.after dt))
      = adoptStep old got.stored (replacedPlan p tag dt idx got.stored s) := by
    unfold replaceAt
    dsimp only
    rw [if_pos hlive, held_plan]
    rfl
  have htouch := adoptStep_touches old got.stored (replacedPlan p tag dt idx got.stored s)
  have hplan : (adoptStep old got.stored (replacedPlan p tag dt idx got.stored s)).plan = _ := htouch .plan (by decide)
  have hport : (adoptStep old got.stored (replacedPlan p tag dt idx got.stored s)).port p
      = (replacedPlan p tag dt idx got.stored s).port p := by
    cases p
    · exact htouch .panel (by decide)
    · exact htouch .link (by decide)
  rw [hplace] at hserve
  refine ⟨_, hexec.trans (congrArg (Host.Outcome.next ∘ conclude p 0x13 tag) hserve), ?_, ?_⟩
  · exact (formReply_touches p 0x13 tag _ _).mono (by cases p <;> decide)
  · rw [conclude_answered, stepAccepted, stepBody, planBody, hplan, replacedPlan_plan, List.length_set]
    exact formReply_own_port (hport ▸ replacedPlan_overrun p tag dt idx got.stored s)

theorem adoptionNotices_congr {old r : StepRecord} {l : Live} {h : Heat} {s t : State} (hn : s.notices = t.notices) :
    (adoptionNotices old r l h s).notices = (adoptionNotices old r l h t).notices := by
  unfold adoptionNotices
  dsimp only
  have hreached : (if metAtAdoption r h then post (.tempReached (some l.index) h.tb) s else s).notices
      = (if metAtAdoption r h then post (.tempReached (some l.index) h.tb) t else t).notices := by
    split
    · exact post_notices_congr _ hn
    · exact hn
  split
  · exact post_notices_congr _ hreached
  · exact hreached

/-- Settles O7: the edited plan is adopted in one event, by the handover and what it finds or trips. -/
theorem replaceLiveStepOfPausedRunIsAdopted : Obligations.ReplaceLiveStepOfPausedRunIsAdopted := by
  unfold Obligations.ReplaceLiveStepOfPausedRunIsAdopted
  rintro dt p tag rev rev' idx raw old got r l s hadm hload rfl hrun hl hidx hold hacc hkind rfl rfl hsafe now running
    faulted kept adopted reached moves found
  obtain ⟨t, hexec, hreply, hport⟩ := exec_replaceLive dt tag hadm hload hrun hl hidx hold hacc hkind
  have hbase := replacedPlan_touches p tag dt idx got.stored s
  have hbasePlan := replacedPlan_plan p tag dt idx got.stored s
  have hbaseNow := replacedPlan_now p tag dt idx got.stored s
  have hbaseNotices := replacedPlan_notices p tag dt idx got.stored s
  generalize replacedPlan p tag dt idx got.stored s = base at hreply hbase hbasePlan hbaseNow hbaseNotices
  have hengine : base.engine = s.engine := hbase .engine (by decide)
  have hheat : base.heat = s.heat := hbase .heat (by decide)
  have hstir : base.stir = s.stir := hbase .stir (by decide)
  have hlid : base.lid = s.lid := hbase .lid (by decide)
  have hmon : base.mon = s.mon := hbase .mon (by decide)
  have hrecord : base.plan.steps[l.index]? = some got.stored := by
    rw [hbasePlan, hidx]
    exact List.getElem?_set_self (List.getElem?_eq_some_iff.mp hold).1
  have hover := handedOver_takenOver (old := old) (hengine ▸ hl) hrecord (hheat ▸ hsafe)
  have hfound : adoptionFinds old got.stored l base = found := by
    simp only [adoptionFinds, adoptionMoves, State.asserts, hengine, hheat, hmon]
    rfl
  have hmoves : adoptionMoves l base = moves := by
    rw [adoptionMoves, hengine]
  have hfaulted : adoptionTrips old got.stored base = faulted := by
    rw [adoptionTrips, State.asserts, hmon]
    rfl
  have hrunning : base.inRun = true := by rw [State.inRun, hengine]; exact hrun
  have htakenHeat : heatAdopted running now got.stored s.heat (takenOver old got.stored base).heat := by
    have h := hover.heat
    rw [State.isRunning, hengine, hheat, hbaseNow] at h
    exact h
  have htakenStir : stirAdopted got.stored s.stir (takenOver old got.stored base).stir := hstir ▸ hover.stir
  have htakenNotices : (takenOver old got.stored base).notices = adopted.notices := by
    rw [hover.notices, hheat]
    exact adoptionNotices_congr hbaseNotices
  have htouch := adoptStep_touches old got.stored base
  have hall : Touches [.now, .plan, .notices, .panel, .link, .engine, .heat, .stir, .lid] s t :=
    ((hbase.mono (by decide)).trans (htouch.mono (by decide))).trans (hreply.mono (by decide))
  have hafter : t.engine = (adoptStep old got.stored base).engine := hreply .engine (by decide)
  refine ⟨t, hexec, ?_, hport, hall .conv (by decide), hall .scale (by decide), hall .mon (by decide),
    hall .permit (by decide), hall .store (by decide), hall .free (by decide), hall .pending (by decide), ?_,
    fun hf hn => ?_, fun e hf hn => ?_, fun hf hs => ?_, fun hf hs => ?_⟩
  · exact (hreply .plan (by decide)).trans ((htouch .plan (by decide)).trans hbasePlan)
  · exact (hreply .now (by decide)).trans ((htouch .now (by decide)).trans hbaseNow)
  · obtain ⟨hkeep, hgoes⟩ := adoptStep_goes_on hover hrecord (hfaulted.trans hf) (hfound ▸ hn)
    rw [hfound, hmoves, hengine] at hgoes
    have hrest : Touches [.engine, .panel, .link] (takenOver old got.stored base) t :=
      (hkeep.mono (by decide)).trans (hreply.mono (by decide))
    have hheat' : t.heat = (takenOver old got.stored base).heat := hrest .heat (by decide)
    have hstir' : t.stir = (takenOver old got.stored base).stir := hrest .stir (by decide)
    refine ⟨hafter.trans hgoes, hheat' ▸ htakenHeat, ?_, hstir' ▸ htakenStir, ?_, ?_⟩
    · rw [hheat', hover.hold, State.isRunning, State.asserts, hengine, hmon]
      rfl
    · exact (hrest .lid (by decide)).trans (hover.lid.trans hlid)
    · exact (hrest .notices (by decide)).trans htakenNotices
  · obtain ⟨more, hmore⟩ := adoptStep_ends hover hrecord (hfaulted.trans hf) (hfound ▸ hn)
    exact ⟨more, by rw [hafter, hmore, hengine]⟩
  · obtain ⟨hkeep, htrips⟩ := adoptStep_trips hover hrecord hrunning (hfaulted.trans hf) (hengine ▸ hs)
    have hrest : Touches [.engine, .panel, .link] (enterTripped .probeB (takenOver old got.stored base)) t :=
      (hkeep.mono (by decide)).trans (hreply.mono (by decide))
    obtain ⟨hforced, hidle, hwish, hposted⟩ := enterTripped_rest .probeB (takenOver old got.stored base)
    have hnow : (takenOver old got.stored base).now = now := hover.now.trans hbaseNow
    rw [hengine] at htrips
    refine ⟨hafter.trans htrips, ⟨_, htakenHeat, ?_⟩, ⟨_, htakenStir, ?_⟩, ?_, ?_⟩
    · exact (hrest .heat (by decide)).trans (hnow ▸ hforced)
    · exact (hrest .stir (by decide)).trans hidle
    · exact (congrArg Lid.wish (hrest .lid (by decide))).trans hwish
    · refine (hrest .notices (by decide)).trans (hposted.trans ?_)
      rw [hover.live, ← hidx]
      exact post_notices_congr _ (post_notices_congr _ htakenNotices)
  · obtain ⟨hkeepHeat, hkeepStir, hjoins⟩ := adoptStep_joins hover hrecord hrunning (hfaulted.trans hf) (hengine ▸ hs)
    have hheat' : t.heat = (takenOver old got.stored base).heat := (hreply .heat (by decide)).trans hkeepHeat
    have hstir' : t.stir = (takenOver old got.stored base).stir := (hreply .stir (by decide)).trans hkeepStir
    have hstill : running = false := by simp only [running, hs]; rfl
    rw [hengine] at hjoins
    refine ⟨hafter.trans hjoins, ?_, hstir' ▸ htakenStir⟩
    rw [hheat', ← hstill]
    exact htakenHeat

end Sys2Proof.Machine
end

section
/-! PROOFS. The Heat Unit at rest (R106, R109, R116): its mode goes with its fields, its frames are whole, and outside RUNNING
nothing is driven. Each operation of the unit keeps this. -/

namespace Sys2Proof.Machine

/-! ### What a force-off leaves -/

/-- R109, R120: the coil is off, with no on-count and no integral to turn it on again. -/
structure Heat.CoilOff (h : Heat) : Prop where
  gate : h.gate = false
  frame : h.frameW = 0
  next : h.next.w = 0
  step : h.next.step = .none
  integral : h.integral = 0

/-- R27, R106, R116: what O21 says of the Heat Unit, while the engine is RUNNING or not. -/
structure HeatOk (running : Bool) (h : Heat) : Prop where
  mode : h.modeSafe = true
  frame : h.frameSafe = true
  idle : running = false → h.CoilOff

/-- R106, R116: another Heat Unit whose mode fields are safe and that agrees in frame, pending pair and integral. -/
theorem HeatOk.of_fields {b : Bool} {h h' : Heat} (hok : HeatOk b h) (hm : h'.modeSafe = true)
    (hn : h'.frameN = h.frameN) (hw : h'.frameW = h.frameW) (hs : h'.slot = h.slot) (hg : h'.gate = h.gate)
    (hx : h'.next = h.next) (hi : h'.integral = h.integral) : HeatOk b h' where
  mode := hm
  frame := by
    have := hok.frame
    rwa [Heat.frameSafe, hn, hw, hs, hx]
  idle hb := by
    obtain ⟨hgate, hframe, hnext, hstep, hint⟩ := hok.idle hb
    exact ⟨hg ▸ hgate, hw ▸ hframe, hx ▸ hnext, hx ▸ hstep, hi ▸ hint⟩

/-! ### The loop run (R112 to R115) -/

/-- R116: the pairs of R115, and those of a force-off. -/
theorem pairSafe_iff {n w : Nat} : pairSafe n w = true ↔ n = 100 ∧ w ≤ 100 ∨ n = 200 ∧ w ≤ 19 := by
  simp [pairSafe]

theorem pairSafe_pos {n w : Nat} (h : pairSafe n w = true) : 0 < n := by
  have := pairSafe_iff.mp h
  omega

/-- R116: both pairs whole and the slot inside the frame. -/
theorem frameSafe_iff {h : Heat} : h.frameSafe = true ↔
    pairSafe h.frameN h.frameW = true ∧ pairSafe h.next.n h.next.w = true ∧ h.slot < h.frameN := by
  simp [Heat.frameSafe, and_assoc]

/-- R115: a power of at most 200 gives a whole pair. -/
theorem pairSafe_powerPair {p2 : Nat} (h : p2 ≤ 200) : pairSafe (powerPair p2).1 (powerPair p2).2 = true := by
  unfold powerPair
  split_ifs with h0 h20
  · rfl
  · exact pairSafe_iff.mpr (.inr ⟨rfl, by omega⟩)
  · exact pairSafe_iff.mpr (.inl ⟨rfl, by omega⟩)

/-- R114: no loop run asks for more than 200. -/
theorem heatCap_range (h : Heat) : 0 ≤ heatCap h ∧ heatCap h ≤ 200 := by
  unfold heatCap
  split_ifs <;> omega

theorem tempRun_pairSafe (sp : Int) (h : Heat) : pairSafe (tempRun sp h).next.n (tempRun sp h).next.w = true := by
  have hcap := heatCap_range h
  refine pairSafe_powerPair ?_
  unfold clampInt
  split_ifs <;> omega

theorem powerRun_pairSafe (h : Heat) : pairSafe (powerRun h).next.n (powerRun h).next.w = true := by
  have hcap := heatCap_range h
  exact pairSafe_powerPair (by omega)

theorem loopRun_pairSafe (b : Bool) (h : Heat) : pairSafe (loopRun b h).next.n (loopRun b h).next.w = true := by
  unfold loopRun
  split
  · split
    · exact tempRun_pairSafe _ h
    · rfl
    · exact powerRun_pairSafe h
    · rfl
  · rfl

/-- R106: the mode and the fields it goes with are not the loop run's. -/
theorem loopRun_modeSafe (b : Bool) (h : Heat) : (loopRun b h).modeSafe = h.modeSafe := by
  obtain ⟨i, x, he⟩ := loopRun_eq b h
  rw [he]
  rfl

/-- R112, R113: a loop run keeps the unit whole, and outside RUNNING undriven. -/
theorem HeatOk.loopRun {b : Bool} {h h' : Heat} (hok : HeatOk b h) (hm : h'.modeSafe = true)
    (hn : h'.frameN = h.frameN) (hw : h'.frameW = h.frameW) (hs : h'.slot = h.slot) (hg : h'.gate = h.gate) :
    HeatOk b (loopRun b h') where
  mode := (loopRun_modeSafe b h').trans hm
  frame := by
    have hpair := loopRun_pairSafe b h'
    obtain ⟨i, x, he⟩ := loopRun_eq b h'
    rw [he] at hpair ⊢
    obtain ⟨hin, _, hslot⟩ := frameSafe_iff.mp hok.frame
    exact frameSafe_iff.mpr ⟨hn ▸ hw ▸ hin, hpair, hn ▸ hs ▸ hslot⟩
  idle hb := by
    obtain ⟨hgate, hframe, -, -, -⟩ := hok.idle hb
    subst hb
    exact ⟨hg.trans hgate, hw.trans hframe, rfl, rfl, rfl⟩

/-! ### The mode and its fields (R106 to R109) -/

/-- R106: a TEMP step has a target, a setpoint and a direction, and no power. -/
theorem modeSafe_of_temp {h : Heat} (hm : h.mode = .temp) (ht : h.target.isSome = true) (hs : h.sp.isSome = true)
    (hd : h.dir.isSome = true) (hp : h.power = none) : h.modeSafe = true := by
  simp [Heat.modeSafe, hm, ht, hs, hd, hp]

/-- R106: what a unit in TEMP mode holds. -/
theorem fields_of_modeSafe {h : Heat} (hs : h.modeSafe = true) (hm : h.mode = .temp) :
    h.target.isSome = true ∧ h.sp.isSome = true ∧ h.dir.isSome = true ∧ h.power = none := by
  simp only [Heat.modeSafe, hm, decide_true, Bool.and_eq_true, beq_iff_eq, reduceCtorEq, decide_false] at hs
  obtain ⟨⟨⟨⟨htarget, hsp⟩, hdir⟩, hpower⟩, _⟩ := hs
  exact ⟨htarget, hsp, hdir, by simpa using hpower⟩

theorem beginPlain_modeSafe {mode : HeatMode} (power ramp : Option Nat) (h : Heat) (hm : mode ≠ .temp)
    (hp : power.isSome = decide (mode = .power)) : (beginPlain mode power ramp h).modeSafe = true := by
  cases mode with
  | temp => exact absurd rfl hm
  | off => simp [beginPlain, Heat.modeSafe, hp]
  | power => simp [beginPlain, Heat.modeSafe, hp]

theorem beginTemp_modeSafe (b : Bool) (now : Nat) (target : Int) (ramp : Option Nat) (h : Heat) :
    (beginTemp b now target ramp h).modeSafe = true := by
  unfold beginTemp
  dsimp only
  split <;> exact modeSafe_of_temp rfl rfl rfl rfl rfl

theorem takeHeatFields_modeSafe (b : Bool) (now : Nat) (r : StepRecord) (h : Heat) :
    (takeHeatFields b now r h).modeSafe = true := by
  unfold takeHeatFields
  split
  · exact beginTemp_modeSafe b now _ _ h
  · exact beginPlain_modeSafe _ _ h (by decide) rfl
  · exact beginPlain_modeSafe _ _ h (by decide) rfl

theorem keepTarget_modeSafe {h : Heat} (hs : h.modeSafe = true) (hm : h.mode = .temp) (target : Int) (ramp : Option Nat) :
    (keepTarget target ramp h).modeSafe = true := by
  obtain ⟨htarget, hsp, hdir, hpower⟩ := fields_of_modeSafe hs hm
  unfold keepTarget
  split
  · split
    · exact modeSafe_of_temp hm htarget rfl hdir hpower
    · exact modeSafe_of_temp hm htarget hsp hdir hpower
  · exact modeSafe_of_temp hm htarget hsp hdir hpower

theorem changeTarget_modeSafe {h : Heat} (hs : h.modeSafe = true) (hm : h.mode = .temp) (b : Bool) (now : Nat)
    (target : Int) (ramp : Option Nat) : (changeTarget b now target ramp h).modeSafe = true := by
  obtain ⟨_, hsp, _, hpower⟩ := fields_of_modeSafe hs hm
  unfold changeTarget
  dsimp only
  split
  · split
    · exact modeSafe_of_temp hm rfl hsp rfl hpower
    · exact modeSafe_of_temp hm rfl rfl rfl hpower
  · exact modeSafe_of_temp hm rfl rfl rfl hpower

/-- R108: the table of adoptions keeps the mode with its fields. -/
theorem adoptHeatFields_modeSafe {h : Heat} (hs : h.modeSafe = true) (b : Bool) (now : Nat) (r : StepRecord) :
    (adoptHeatFields b now r h).modeSafe = true := by
  by_cases hr : r.heatMode = .temp
  · by_cases hm : h.mode = .temp
    · cases hk : keepsTarget r h
      · rw [adoptHeatFields_change b now r h hr hm hk]
        exact changeTarget_modeSafe hs hm _ _ _ _
      · rw [adoptHeatFields_keep b now r h hk]
        exact keepTarget_modeSafe hs hm _ _
    · rw [adoptHeatFields_begin b now r h hr hm]
      exact beginTemp_modeSafe b now _ _ h
  · rw [adoptHeatFields_plain b now r h hr]
    exact beginPlain_modeSafe _ _ h hr (by split <;> simp_all)

/-- R107: what the heat fields of a step entered leave of the frame in progress. -/
theorem takeHeatFields_frame (b : Bool) (now : Nat) (r : StepRecord) (h : Heat) :
    ∃ mode target power ramp sp countdown dir reached, takeHeatFields b now r h
      = { h with mode := mode, target := target, power := power, ramp := ramp, sp := sp, countdown := countdown
                 dir := dir, reached := reached } := by
  unfold takeHeatFields
  split
  · unfold beginTemp
    dsimp only
    split <;> exact ⟨_, _, _, _, _, _, _, _, rfl⟩
  · exact ⟨_, _, _, _, _, _, _, _, rfl⟩
  · exact ⟨_, _, _, _, _, _, _, _, rfl⟩

/-! ### The unit's operations -/

section
variable {b : Bool} {h : Heat} (hok : HeatOk b h)
include hok

theorem HeatOk.heatEntry (now : Nat) (r : StepRecord) : HeatOk b (heatEntry b now r h) := by
  have hmode := takeHeatFields_modeSafe b now r h
  obtain ⟨_, _, _, _, _, _, _, _, he⟩ := takeHeatFields_frame b now r h
  unfold Machine.heatEntry
  rw [he] at hmode ⊢
  exact hok.loopRun hmode rfl rfl rfl rfl

theorem HeatOk.heatAdopt (now : Nat) (r : StepRecord) : HeatOk b (heatAdopt b now r h) := by
  have hmode := adoptHeatFields_modeSafe hok.mode b now r
  obtain ⟨_, _, _, _, _, _, _, _, he⟩ := adoptHeatFields_eq b now r h
  unfold Machine.heatAdopt
  rw [he] at hmode ⊢
  exact hok.loopRun hmode rfl rfl rfl rfl

theorem HeatOk.takeTb (tb : Int) (held : Bool) : HeatOk b (takeTb b tb held h) :=
  hok.loopRun hok.mode rfl rfl rfl rfl

/-- R122: the reached flag is set in TEMP mode alone. -/
theorem HeatOk.judgeTarget : HeatOk b (judgeTarget h) := by
  unfold Machine.judgeTarget
  split
  · rename_i hmeets
    have hm : h.mode = .temp := by
      simp only [meetsTarget, Bool.and_eq_true, decide_eq_true_eq] at hmeets
      obtain ⟨⟨hm, _⟩, _⟩ := hmeets
      exact hm
    obtain ⟨htarget, hsp, hdir, hpower⟩ := fields_of_modeSafe hok.mode hm
    exact hok.of_fields (modeSafe_of_temp hm htarget hsp hdir hpower) rfl rfl rfl rfl rfl rfl
  · exact hok

/-- R111: a stopped countdown stays so, frozen or thawed. -/
theorem HeatOk.countdown {f : Countdown → Countdown} (hf : f .stopped = .stopped) :
    HeatOk b { h with countdown := f h.countdown } := by
  refine hok.of_fields ?_ rfl rfl rfl rfl rfl rfl
  have hmode := hok.mode
  simp only [Heat.modeSafe, Bool.and_eq_true, Bool.or_eq_true, decide_eq_true_eq] at hmode ⊢
  obtain ⟨hfields, htemp⟩ := hmode
  exact ⟨hfields, htemp.imp_right fun ⟨hc, hr⟩ => ⟨by rw [hc, hf], hr⟩⟩

/-- R109: the force-off. -/
theorem HeatOk.forceOff (now : Nat) : HeatOk false (forceOff now h) where
  mode := (hok.countdown (f := freezeCountdown now) rfl).mode
  frame := by
    obtain ⟨hin, _, hslot⟩ := frameSafe_iff.mp hok.frame
    refine frameSafe_iff.mpr ⟨pairSafe_iff.mpr ?_, rfl, hslot⟩
    exact (pairSafe_iff.mp hin).imp (fun hp => ⟨hp.1, Nat.zero_le _⟩) fun hp => ⟨hp.1, Nat.zero_le _⟩
  idle _ := ⟨rfl, rfl, rfl, rfl, rfl⟩

/-- R109: the rest condition at the end of a run. -/
theorem HeatOk.restHeat : HeatOk b (restHeat h) :=
  hok.of_fields (beginPlain_modeSafe _ _ h (by decide) rfl) rfl rfl rfl rfl rfl rfl

/-- R116, R117: a frame ends; a pending pair with no on-count leaves the coil off. -/
theorem HeatOk.endFrame : HeatOk b (endFrame h) where
  mode := hok.mode
  frame := by
    obtain ⟨-, hnext, -⟩ := frameSafe_iff.mp hok.frame
    exact frameSafe_iff.mpr ⟨hnext, hnext, pairSafe_pos hnext⟩
  idle hb := by
    obtain ⟨-, -, hnext, hstep, hint⟩ := hok.idle hb
    obtain ⟨-, hpair, -⟩ := frameSafe_iff.mp hok.frame
    have hpos := pairSafe_pos hpair
    refine ⟨?_, hnext, hnext, ?_, ?_⟩
    · simp only [Machine.endFrame, gateIn, Bool.or_eq_false_iff, decide_eq_false_iff_not]
      omega
    · simp only [Machine.endFrame, hstep, spendStep]
    · simp only [Machine.endFrame, hstep, gatherIntegral, hint]

/-- R119: a slot boundary within the frame; with no on-count the gate stays off. -/
theorem HeatOk.nextSlot : HeatOk b (nextSlot h) := by
  unfold Machine.nextSlot
  split
  · rename_i hslot
    refine ⟨hok.mode, ?_, fun hb => ?_⟩
    · obtain ⟨hin, hnext, -⟩ := frameSafe_iff.mp hok.frame
      exact frameSafe_iff.mpr ⟨hin, hnext, hslot⟩
    · obtain ⟨-, hframe, hnext, hstep, hint⟩ := hok.idle hb
      refine ⟨?_, hframe, hnext, hstep, hint⟩
      simp only [gateIn, hframe, Bool.or_eq_false_iff, decide_eq_false_iff_not]
      omega
  · exact hok

/-- R111: a rise moves the setpoint of a TEMP step. -/
theorem HeatOk.riseSetpoint (now : Nat) : HeatOk b (riseSetpoint now h) := by
  unfold Machine.riseSetpoint
  split
  · rename_i sp target _ _ hsp htarget _
    have hm : h.mode = .temp := by
      by_contra hm
      have hmode := hok.mode
      simp [Heat.modeSafe, hm, hsp] at hmode
    obtain ⟨_, _, hdir, hpower⟩ := fields_of_modeSafe hok.mode hm
    have htarget' : h.target.isSome = true := by rw [htarget]; rfl
    split
    · exact hok.of_fields (modeSafe_of_temp hm htarget' rfl hdir hpower) rfl rfl rfl rfl rfl rfl
    · exact hok.of_fields (modeSafe_of_temp hm htarget' rfl hdir hpower) rfl rfl rfl rfl rfl rfl
  · exact hok

end

end Sys2Proof.Machine
end

section
/-! PROOFS. What the operations of the Step Engine are made of, for any property of the part: quiet changes, which leave engine
state, run log, drive and permit; changes of the Heat Unit; entries of the run log; and the entries into PAUSED, TRIPPED and
ENDED. A property closed under these is kept by every operation, so each invariant of a run is proved on these few alone. -/

namespace Sys2Proof.Machine

/-! ### Quiet changes -/

/-- R147: what the Lid Controller samples, which no operation of the Step Engine changes. -/
def Lid.samples (l : Lid) : Option Bool × Option Bool × Nat := (l.switch, l.feedback, l.sampleTimer)

/-- A change outside the engine state, the run log, the drive, the permit and the lid's samples; PERMIT may join the causes. -/
structure Quiet (s t : State) : Prop where
  state : t.engine.state = s.engine.state
  cause : s.engine.causes.permit = true → t.engine.causes.permit = true
  log : t.engine.log = s.engine.log
  heat : t.heat = s.heat
  applied : t.stir.applied = s.stir.applied
  permit : t.permit = s.permit
  samples : t.lid.samples = s.lid.samples

theorem Quiet.refl (s : State) : Quiet s s := ⟨rfl, id, rfl, rfl, rfl, rfl, rfl⟩

theorem Quiet.trans {s t u : State} (h : Quiet s t) (k : Quiet t u) : Quiet s u :=
  ⟨k.state.trans h.state, fun hc => k.cause (h.cause hc), k.log.trans h.log, k.heat.trans h.heat,
    k.applied.trans h.applied, k.permit.trans h.permit, k.samples.trans h.samples⟩

/-- A change that does not reach the blocks of the drive. -/
theorem Quiet.of_touches {ts : List Block} {s t : State} (k : Touches ts s t) (he : .engine ∉ ts) (hh : .heat ∉ ts)
    (hst : .stir ∉ ts) (hp : .permit ∉ ts) (hl : .lid ∉ ts) : Quiet s t where
  state := congrArg Engine.state (k .engine he)
  cause hc := (congrArg (·.causes.permit) (k .engine he)).trans hc
  log := congrArg Engine.log (k .engine he)
  heat := k .heat hh
  applied := congrArg Stir.applied (k .stir hst)
  permit := k .permit hp
  samples := congrArg Lid.samples (k .lid hl)

/-- A change of the engine alone that keeps its state, its run log and PERMIT among the causes. -/
theorem Quiet.of_engine {ts : List Block} {s t : State} (k : Touches ts s t) (hts : ts ⊆ [.engine, .notices])
    (hs : t.engine.state = s.engine.state) (hc : s.engine.causes.permit = true → t.engine.causes.permit = true)
    (hlog : t.engine.log = s.engine.log) : Quiet s t where
  state := hs
  cause := hc
  log := hlog
  heat := (k.mono hts) .heat (by decide)
  applied := congrArg Stir.applied ((k.mono hts) .stir (by decide))
  permit := (k.mono hts) .permit (by decide)
  samples := congrArg Lid.samples ((k.mono hts) .lid (by decide))

theorem mapLive_quiet (f : Live → Live) (s : State) : Quiet s (s.mapLive f) := ⟨rfl, id, rfl, rfl, rfl, rfl, rfl⟩
theorem post_quiet (n : Notice) (s : State) : Quiet s (post n s) := ⟨rfl, id, rfl, rfl, rfl, rfl, rfl⟩
theorem withConv_quiet (x : Converter) (s : State) : Quiet s (s.withConv x) := ⟨rfl, id, rfl, rfl, rfl, rfl, rfl⟩
theorem withMon_quiet (x : Monitor) (s : State) : Quiet s (s.withMon x) := ⟨rfl, id, rfl, rfl, rfl, rfl, rfl⟩
theorem withScale_quiet (x : Scale) (s : State) : Quiet s (s.withScale x) := ⟨rfl, id, rfl, rfl, rfl, rfl, rfl⟩
theorem postEngineState_quiet (s : State) : Quiet s (postEngineState s) := post_quiet _ s

theorem withStir_quiet {x : Stir} {s : State} (h : x.applied = s.stir.applied) : Quiet s (s.withStir x) :=
  ⟨rfl, id, rfl, rfl, h, rfl, rfl⟩

theorem withLid_quiet {x : Lid} {s : State} (h : x.samples = s.lid.samples) : Quiet s (s.withLid x) :=
  ⟨rfl, id, rfl, rfl, rfl, rfl, h⟩

theorem decideDemand_samples (now : Nat) (l : Lid) : (decideDemand now l).samples = l.samples := by
  unfold decideDemand
  split <;> rfl

theorem tellWish_quiet (w : Bool) (s : State) : Quiet s (tellWish w s) := by
  unfold tellWish
  split
  · exact Quiet.refl s
  · exact withLid_quiet (decideDemand_samples _ _)

theorem tellLidOpen_quiet (b : Bool) (s : State) : Quiet s (tellLidOpen b s) := by
  unfold tellLidOpen
  split
  · exact Quiet.refl s
  · exact withLid_quiet (decideDemand_samples _ _)

theorem tellStopped_quiet (b : Bool) (s : State) : Quiet s (tellStopped b s) := by
  unfold tellStopped
  split
  · exact Quiet.refl s
  · exact withLid_quiet (decideDemand_samples _ _)

theorem announceStep_quiet (i : Nat) (r : StepRecord) (f : Bool) (s : State) : Quiet s (announceStep i r f s) := by
  unfold announceStep
  dsimp only
  split
  · exact (post_quiet _ s).trans (post_quiet _ _)
  · exact post_quiet _ s

theorem mapLive_id (s : State) : s.mapLive id = s := by
  rw [State.mapLive, Option.map_id]
  rfl

/-- R29, R30: coming into a phase changes the live step alone. -/
theorem phaseChecks_mapLive (s : State) : ∃ f, (phaseChecks s).1 = s.mapLive f := by
  have hself := (mapLive_id s).symm
  unfold phaseChecks
  split
  · exact ⟨id, hself⟩
  · split
    · exact ⟨_, rfl⟩
    · exact ⟨id, hself⟩

theorem comeIntoPhase_mapLive (s : State) : ∃ f, (comeIntoPhase s).1 = s.mapLive f := by
  have hself := (mapLive_id s).symm
  unfold comeIntoPhase
  split
  · exact ⟨_, rfl⟩
  · exact ⟨id, hself⟩
  · exact phaseChecks_mapLive s
  · exact phaseChecks_mapLive s
  · exact phaseChecks_mapLive s
  · exact phaseChecks_mapLive s
  · exact ⟨id, hself⟩

theorem phaseChecks_quiet (s : State) : Quiet s (phaseChecks s).1 := by
  obtain ⟨f, h⟩ := phaseChecks_mapLive s
  exact h ▸ mapLive_quiet f s

theorem comeIntoPhase_quiet (s : State) : Quiet s (comeIntoPhase s).1 := by
  obtain ⟨f, h⟩ := comeIntoPhase_mapLive s
  exact h ▸ mapLive_quiet f s

theorem comeIn_quiet (s : State) : Quiet s (comeIn s).1 := by
  unfold comeIn comeIntoLocking
  split
  · split
    · exact (mapLive_quiet _ s).trans (comeIntoPhase_quiet _)
    · exact Quiet.refl s
  · exact comeIntoPhase_quiet s

theorem joinTrip_quiet (d : Detector) (s : State) : Quiet s (joinTrip d s) := by
  refine Quiet.of_engine (joinTrip_reach d s) (by decide) ?_ ?_ ?_
  all_goals rw [joinTrip_engine_or]
  exact id

theorem takeLidClosed_quiet (s : State) : Quiet s (takeLidClosed s) := by
  unfold takeLidClosed
  split
  · exact ⟨rfl, id, rfl, rfl, rfl, rfl, rfl⟩
  · exact Quiet.refl s

theorem noteAdded_quiet (a t : Int) (i : Nat) (l : Live) (s : State) : Quiet s (noteAdded a t i l s) := by
  unfold noteAdded
  split
  · exact (mapLive_quiet _ s).trans (post_quiet _ _)
  · exact mapLive_quiet _ s

theorem noteOverdose_quiet (a t : Int) (i : Nat) (s : State) : Quiet s (noteOverdose a t i s) := by
  unfold noteOverdose
  split
  · exact (mapLive_quiet _ s).trans (post_quiet _ _)
  · exact Quiet.refl s

theorem adoptPrompt_quiet (old r : StepRecord) (s : State) : Quiet s (adoptPrompt old r s) :=
  Quiet.of_touches (adoptPrompt_touches old r s) (by decide) (by decide) (by decide) (by decide) (by decide)

theorem adoptTarget_quiet (old r : StepRecord) (s : State) : Quiet s (adoptTarget old r s) := by
  unfold adoptTarget
  split
  · exact mapLive_quiet _ s
  · exact Quiet.refl s

theorem keepAdopted_quiet (r : StepRecord) (s : State) : Quiet s (keepAdopted r s) := by
  unfold keepAdopted
  split
  · exact mapLive_quiet _ s
  · exact Quiet.refl s

theorem stirEntry_applied (r : StepRecord) (st : Stir) : (stirEntry r st).applied = st.applied := rfl

theorem stirAdopt_applied (r : StepRecord) (st : Stir) : (stirAdopt r st).applied = st.applied := by
  unfold stirAdopt
  dsimp only
  split <;> rfl

theorem captureSample_quiet (x : Sample) (s : State) : Quiet s (captureSample x s) :=
  Quiet.of_touches (captureSample_touches x s) (by decide) (by decide) (by decide) (by decide) (by decide)

theorem tareSample_quiet (x : Sample) (s : State) : Quiet s (tareSample x s) :=
  Quiet.of_touches (tareSample_touches x s) (by decide) (by decide) (by decide) (by decide) (by decide)

theorem endCapture_quiet (r : Result) (s : State) : Quiet s (endCapture r s) :=
  Quiet.of_touches (endCapture_touches r s) (by decide) (by decide) (by decide) (by decide) (by decide)

/-! ### Entries into PAUSED, TRIPPED and ENDED -/

/-- R27: `t` is `s` after an entry into PAUSED, TRIPPED or ENDED: nothing is driven, and PAUSED from anything but RUNNING
without the permit ARMED holds PERMIT. -/
structure Forced (s t : State) : Prop where
  state : t.engine.state ≠ .running
  cause : t.engine.state = .paused → s.isRunning = true ∨ s.permit.state = .armed ∨ t.engine.causes.permit = true
  log : t.engine.log = s.engine.log
  heat : HeatOk s.isRunning s.heat → HeatOk false t.heat
  applied : t.stir.applied = 0
  permit : t.permit = s.permit
  samples : t.lid.samples = s.lid.samples

theorem Forced.quiet {s t u : State} (h : Forced s t) (k : Quiet t u) : Forced s u where
  state := k.state ▸ h.state
  cause hp := (h.cause (k.state ▸ hp)).imp_right (Or.imp_right k.cause)
  log := k.log.trans h.log
  heat hok := k.heat ▸ h.heat hok
  applied := k.applied.trans h.applied
  permit := k.permit.trans h.permit
  samples := k.samples.trans h.samples

/-- R109: the force-off with the boil hold out. -/
theorem HeatOk.forcedOff {b : Bool} {h : Heat} (hok : HeatOk b h) (now : Nat) : HeatOk false (heatForcedOff now h) := by
  rw [← forceOff_eq]
  exact (hok.forceOff now).of_fields (hok.forceOff now).mode rfl rfl rfl rfl rfl rfl

/-- R27: the entry actions, under an engine that has left RUNNING. -/
theorem entryActions_forced {s : State} {e : Engine} (he : e.state ≠ .running) (hlog : e.log = s.engine.log)
    (hc : e.state = .paused → s.isRunning = true ∨ s.permit.state = .armed ∨ e.causes.permit = true) :
    Forced s (entryActions (s.withEngine e)) := by
  obtain ⟨hheat, hstir, -, -⟩ := entryActions_rest (s := s.withEngine e) he
  refine ⟨?_, ?_, ?_, fun hok => hheat ▸ hok.forcedOff _, ?_, ?_, ?_⟩
  · rw [entryActions_engine]; exact he
  · rw [entryActions_engine]; exact hc
  · rw [entryActions_engine]; exact hlog
  · rw [hstir]
  · exact entryActions_touches _ .permit (by decide)
  · exact (tellWish_quiet _ _).samples

theorem enterPaused_forced {c : CauseSet} {s : State}
    (hc : s.isRunning = true ∨ s.permit.state = .armed ∨ c.permit = true) : Forced s (enterPaused c s) :=
  (entryActions_forced (e := { s.engine with state := .paused, causes := c, trips := 0, firstTrip := none })
    (by simp) rfl fun _ => hc).quiet (postEngineState_quiet _)

theorem enterTripped_forced (d : Detector) (s : State) : Forced s (enterTripped d s) :=
  (entryActions_forced (e := { s.engine with
      state := .tripped, causes := CauseSet.none, trips := d.set, firstTrip := some d })
    (by simp) rfl fun hp => by cases hp).quiet ((post_quiet _ _).trans (postEngineState_quiet _))

theorem enterEnded_forced (r : EndReason) (s : State) : Forced s (enterEnded r s) := by
  have hentry : Forced s (entryActions (s.withEngine { s.engine with
      state := .ended, live := none, causes := CauseSet.none, trips := 0, firstTrip := none, endReason := some r })) :=
    entryActions_forced (by simp) rfl fun hp => by cases hp
  obtain ⟨hstate, hcause, hlog, hheat, happlied, hpermit, hsamples⟩ := hentry
  exact ⟨hstate, hcause, hlog, fun hok => (hheat hok).restHeat, happlied, hpermit, hsamples⟩

/-! ### The properties that follow the operations -/

/-- A property of the part that is closed under what the Step Engine's operations are made of. -/
structure EngineFree (P : State → Prop) : Prop where
  quiet : ∀ {s t : State}, Quiet s t → P s → P t
  heat : ∀ {s : State} {h : Heat}, (HeatOk s.isRunning s.heat → HeatOk s.isRunning h) → P s → P (s.withHeat h)
  log : ∀ {s : State} (more : List LogEntry), P s → P (s.withEngine { s.engine with log := s.engine.log ++ more })
  forced : ∀ {s t : State}, Forced s t → P s → P t
  applied : ∀ {s : State} {st : Stir}, (s.isRunning = false → st.applied = 0) → P s → P (s.withStir st)
  resumed : ∀ {s : State} (live : Option Live), s.engine.state = .paused → s.engine.causes.permit = false → P s →
    P (s.withEngine { s.engine with state := .running, causes := CauseSet.none, live := live })

section
variable {P : State → Prop} (hP : EngineFree P)
include hP

/-- A change that does not reach the blocks of the drive. -/
theorem EngineFree.touches {ts : List Block} {s t : State} (h : P s) (k : Touches ts s t) (he : .engine ∉ ts)
    (hh : .heat ∉ ts) (hst : .stir ∉ ts) (hp : .permit ∉ ts) (hl : .lid ∉ ts) : P t :=
  hP.quiet (Quiet.of_touches k he hh hst hp hl) h

variable {s : State} (h : P s)
include h

/-! Step entry. -/

theorem EngineFree.syncHold : P (syncHold s) :=
  hP.heat (fun hok => hok.of_fields hok.mode rfl rfl rfl rfl rfl rfl) h

theorem EngineFree.judgeAndPost : P (judgeAndPost s) := by
  unfold Machine.judgeAndPost
  split
  · exact hP.quiet (post_quiet _ _) (hP.heat (fun hok => hok.judgeTarget) h)
  · exact h

theorem EngineFree.handOver (r : StepRecord) : P (handOver r s) := by
  have hheat := hP.heat (fun hok => hok.heatEntry (Machine.syncHold s).now r) (hP.syncHold h)
  exact hP.quiet (tellWish_quiet _ _) (hP.quiet (withStir_quiet (stirEntry_applied r _)) (hP.judgeAndPost hheat))

theorem EngineFree.enterStep (i : Nat) (r : StepRecord) : P (enterStep i r s) := by
  unfold Machine.enterStep
  dsimp only
  generalize (decide (r.kind = .dose) && decide (s.scale.status = .uncalibrated)) = f
  have hlive : P (s.withEngine { s.engine with live := some (newLive i r f s.conv.tb) }) :=
    hP.quiet (s := s) ⟨rfl, id, rfl, rfl, rfl, rfl, rfl⟩ h
  have hentered := hP.quiet (announceStep_quiet i r f _) (hP.handOver hlive r)
  split
  · exact hP.forced (enterTripped_forced _ _) hentered
  · exact hentered

/-! Step ends. -/

theorem EngineFree.closeStep (e : StepEnd) : P (closeStep e s) := by
  unfold Machine.closeStep
  split
  · exact hP.quiet (post_quiet _ _) (hP.log _ h)
  · exact h

omit h in
theorem EngineFree.endStepAt : ∀ (rest : List StepRecord) (i : Nat) (e : StepEnd) {s : State}, P s →
    P (endStepAt rest i e s)
  | [], _, e, _, h => hP.forced (enterEnded_forced _ _) (hP.closeStep h e)
  | r :: rest, i, e, s, h => by
    have hentered := hP.enterStep (hP.closeStep h e) (i + 1) r
    have hcome := hP.quiet (comeIn_quiet _) hentered
    unfold Machine.endStepAt
    dsimp only
    split
    · split
      · rename_i heq
        rwa [heq] at hcome
      · rename_i heq
        rw [heq] at hcome
        exact EngineFree.endStepAt rest (i + 1) _ hcome
    · exact hentered

theorem EngineFree.endStep (e : StepEnd) : P (endStep e s) := by
  unfold Machine.endStep
  split
  · exact hP.endStepAt _ _ e h
  · exact h

omit h in
theorem EngineFree.settleOutcome {o : State × Option StepEnd} (h : P o.1) : P (settleOutcome o) := by
  unfold Machine.settleOutcome
  split
  · exact hP.endStep h _
  · exact h

theorem EngineFree.phaseChecks : P (Machine.settleOutcome (Machine.phaseChecks s)) :=
  hP.settleOutcome (hP.quiet (phaseChecks_quiet s) h)

theorem EngineFree.comeIntoPhase : P (Machine.settleOutcome (Machine.comeIntoPhase s)) :=
  hP.settleOutcome (hP.quiet (comeIntoPhase_quiet s) h)

theorem EngineFree.comeIn : P (Machine.settleOutcome (Machine.comeIn s)) :=
  hP.settleOutcome (hP.quiet (comeIn_quiet s) h)

/-! Events that reach the engine. -/

theorem EngineFree.takeTrip (d : Detector) : P (takeTrip d s) := by
  unfold Machine.takeTrip
  split
  · split
    · exact hP.forced (enterTripped_forced d s) h
    · split
      · exact h
      · exact hP.forced (enterTripped_forced d s) h
    · split
      · exact h
      · exact hP.quiet (joinTrip_quiet d s) h
    · exact h
    · exact h
  · exact h

theorem EngineFree.takeLockConfirmation : P (takeLockConfirmation s) := by
  unfold Machine.takeLockConfirmation
  split
  · exact hP.comeIntoPhase (hP.quiet (mapLive_quiet _ s) h)
  · exact h

theorem EngineFree.takeTempReached : P (takeTempReached s) := by
  unfold Machine.takeTempReached
  split
  · split
    · split
      · exact hP.endStep h _
      · split
        · exact hP.phaseChecks (hP.quiet (mapLive_quiet _ s) h)
        · exact h
    · exact h
  · exact h

theorem EngineFree.takeBoil (b : Bool) : P (takeBoil b s) := by
  unfold Machine.takeBoil
  dsimp only
  split
  · split
    · exact hP.endStep (hP.syncHold h) _
    · exact hP.syncHold h
  · exact hP.syncHold h

theorem EngineFree.takeLidOpen : P (takeLidOpen s) := by
  unfold Machine.takeLidOpen
  split
  · rename_i hr
    exact hP.forced (enterPaused_forced (.inl hr.1)) h
  · exact h

theorem EngineFree.takeLapse : P (takeLapse s) := by
  unfold Machine.takeLapse
  split
  · exact hP.forced (enterPaused_forced (.inr (.inr rfl))) h
  · split
    · exact h
    · have hcause : Quiet s (s.withEngine { s.engine with causes := { s.engine.causes with permit := true } }) :=
        ⟨rfl, fun _ => rfl, rfl, rfl, rfl, rfl, rfl⟩
      exact hP.quiet (hcause.trans (postEngineState_quiet _)) h
  all_goals exact h

theorem EngineFree.takeReference (net : Int) (u : Bool) : P (takeReference net u s) :=
  hP.comeIntoPhase (hP.quiet (mapLive_quiet _ s) h)

theorem EngineFree.takeWeight (net : Int) (b : Bool) : P (takeWeight net b s) := by
  unfold Machine.takeWeight
  split
  · split
    · split
      · split
        · exact hP.takeReference h net false
        · exact h
      · split
        · unfold compareDose
          split
          · exact hP.endStep (hP.quiet ((noteAdded_quiet _ _ _ _ s).trans (noteOverdose_quiet _ _ _ _)) h) _
          · exact hP.quiet (noteAdded_quiet _ _ _ _ s) h
        · exact h
      all_goals exact h
    · exact h
  · exact h

/-! Adoption. -/

theorem EngineFree.adoptHandOver (old r : StepRecord) : P (adoptHandOver old r s) := by
  have hheat : P (adoptHeat r (Machine.syncHold s)) := by
    have hfields := hP.heat (fun hok => hok.heatAdopt (Machine.syncHold s).now r) (hP.syncHold h)
    unfold adoptHeat
    dsimp only
    split
    · exact hP.judgeAndPost hfields
    · exact hfields
  have htaken : P (takenOver old r s) :=
    hP.quiet (((withStir_quiet (stirAdopt_applied r _)).trans (adoptPrompt_quiet old r _)).trans
      (adoptTarget_quiet old r _)) hheat
  rw [adoptHandOver_eq]
  unfold adoptProbe
  split
  · exact hP.takeTrip htaken _
  · exact htaken

theorem EngineFree.adoptStep (old r : StepRecord) : P (adoptStep old r s) := by
  have hover := hP.adoptHandOver h old r
  unfold Machine.adoptStep adoptConsequences
  dsimp only
  split
  · split
    · exact hP.phaseChecks (hP.quiet (mapLive_quiet _ _) hover)
    · exact hP.phaseChecks hover
  · exact hP.quiet (keepAdopted_quiet r _) hover

/-! Detectors. -/

theorem EngineFree.reportChange (d : Detector) (b : Bool) : P (reportChange d b s) := by
  have htrip : ∀ d, P (if b = true then Machine.takeTrip d s else s) := fun d => by
    split
    · exact hP.takeTrip h d
    · exact h
  cases d
  case lidOpen =>
    refine hP.quiet (tellLidOpen_quiet b _) ?_
    split
    · exact hP.takeLidOpen h
    · exact hP.quiet (takeLidClosed_quiet s) h
  case boil => exact hP.takeBoil h b
  case overload => exact hP.quiet (withStir_quiet rfl) h
  case supplyLow => exact hP.heat (fun hok => hok.of_fields hok.mode rfl rfl rfl rfl rfl rfl) h
  all_goals exact htrip _

theorem EngineFree.changeDetector (d : Detector) (b : Bool) : P (changeDetector d b s) :=
  hP.reportChange (hP.quiet ((withMon_quiet _ s).trans (post_quiet _ _)) h) d b

theorem EngineFree.detectorInput (d : Detector) (q : Qualifies) : P (detectorInput d q s) := by
  unfold Machine.detectorInput
  dsimp only
  split
  · exact hP.changeDetector h d _
  · exact hP.quiet (withMon_quiet _ s) h

theorem EngineFree.stallCurrentInput (b : Band) : P (stallCurrentInput b s) := by
  unfold Machine.stallCurrentInput
  split_ifs
  · exact h
  · exact hP.changeDetector h _ _
  · exact hP.quiet (withMon_quiet _ s) h
  · exact hP.quiet (withMon_quiet _ s) h

/-! Deliveries and samples. -/

theorem EngineFree.judgeDelivered : P (judgeDelivered s) := by
  unfold Machine.judgeDelivered
  split
  · exact hP.quiet (post_quiet _ _) (hP.takeTempReached (hP.heat (fun hok => hok.judgeTarget) h))
  · exact h

theorem EngineFree.deliverTb (code : Nat) : P (deliverTb code s) := by
  unfold Machine.deliverTb probeInput
  dsimp only
  generalize hx : s.withConv _ = x
  have hconv : P x := hx ▸ hP.quiet (withConv_quiet _ s) h
  have hdet := hP.detectorInput (hP.detectorInput hconv .probeB (probeQualifies (x.asserts .probeB) (plausible code)
    (implausibleCount x.conv.tbHist))) .dryPan (aboveAsserts (bandTb x.conv.tb))
  have hpeak := hP.quiet (mapLive_quiet (fun l => { l with peak := max l.peak x.conv.tb }) _) hdet
  exact hP.quiet (withStir_quiet rfl) (hP.judgeDelivered (hP.heat (fun hok => hok.takeTb _ _) hpeak))

theorem EngineFree.deliverSense (ch : Channel) (code : Nat) : P (deliverSense ch code s) := by
  have hconv : ∀ x, P (s.withConv x) := fun x => hP.quiet (withConv_quiet x s) h
  unfold Machine.deliverSense
  split
  · exact h
  · split
    · exact hP.deliverTb h code
    · exact hP.detectorInput (hP.detectorInput (hconv _) _ _) _ _
    · exact hP.quiet (withStir_quiet rfl) (hP.stallCurrentInput (hconv _) _)
    · exact hP.detectorInput (hconv _) _ _

theorem EngineFree.bandInputs : P (bandInputs s) := by
  unfold Machine.bandInputs
  split
  · exact h
  · exact hP.detectorInput (hP.detectorInput h _ _) _ _

theorem EngineFree.takeSample (x : Sample) : P (takeSample x s) := by
  unfold Machine.takeSample
  dsimp only
  generalize hu : (if (s.withScale (weighChain s.conv.tc x s.scale)).scale.status = s.scale.status then
    s.withScale (weighChain s.conv.tc x s.scale) else postScaleEvent (s.withScale (weighChain s.conv.tc x s.scale))) = u
  have hchain : P u := by
    rw [← hu]
    split
    · exact hP.quiet (withScale_quiet _ s) h
    · exact hP.quiet ((withScale_quiet _ s).trans (post_quiet _ _)) h
  have hcap : P (captureSample x (Machine.bandInputs u)) :=
    hP.quiet (captureSample_quiet x _) (hP.bandInputs hchain)
  exact hP.quiet (tareSample_quiet x _) (hP.takeWeight hcap _ _)

end

end Sys2Proof.Machine
end

section
/-! PROOFS. The properties that follow the operations, under every command: every owner of a request and every unit event keeps
them. PERMIT, START_RUN and the lid's samples reach what such a property may speak of, and come in as hypotheses. -/

namespace Sys2Proof.Machine

/-! ### The requests' owners -/

/-- R50, R101: the state in which START_RUN enters its start step: a pending capture aborted, the run record fresh. -/
def freshRun (s : State) : State :=
  (endCapture .aborted s).withEngine { (endCapture .aborted s).engine with
    state := .running, live := none, causes := CauseSet.none, trips := 0, firstTrip := none, endReason := none,
    runClock := 0, log := [] }

theorem beginRun_eq (i : Nat) (r : StepRecord) (s : State) :
    beginRun i r s = (if (enterStep i r (post (.engineState .running (some i) 0) (freshRun s))).isRunning
      then settleOutcome (comeIn (enterStep i r (post (.engineState .running (some i) 0) (freshRun s))))
      else enterStep i r (post (.engineState .running (some i) 0) (freshRun s))) := rfl

section
variable {P : State → Prop} (hP : EngineFree P) {s : State} (h : P s)
include hP h

theorem EngineFree.serveEdit (p : Port) {r : Request} (hr : editsPlan r = true) : P (serveRequest p r s).1 := by
  have hedit : ∀ planId steps, P (acceptEdit p planId steps s) := fun planId steps =>
    hP.quiet (s := s) ⟨rfl, id, rfl, rfl, rfl, rfl, rfl⟩ h
  cases r
  case insertStep rev i raw =>
    obtain he | ⟨_, _, _, _, _, _, he⟩ := serveInsertStep_cases p rev i raw s
    all_goals rw [serveRequest, he]
    · exact h
    · exact hedit _ _
  case replaceStep rev i raw =>
    obtain he | ⟨old, q, _, _, _, _, _, he⟩ := serveReplaceStep_cases p rev i raw s
    all_goals rw [serveRequest, he]
    · exact h
    · unfold replaceAt
      dsimp only
      split
      · exact hP.adoptStep (hedit _ _) old q.stored
      · exact hedit _ _
  case removeStep rev i =>
    obtain he | ⟨_, _, _, he⟩ := serveRemoveStep_cases p rev i s
    all_goals rw [serveRequest, he]
    · exact h
    · exact hedit _ _
  case clearPlan rev =>
    obtain he | ⟨_, _, he⟩ := serveClearPlan_cases p rev s
    all_goals rw [serveRequest, he]
    · exact h
    · exact hedit _ _
  case setPlanId rev i =>
    obtain he | ⟨_, he⟩ := serveSetPlanId_cases p rev i s
    all_goals rw [serveRequest, he]
    · exact h
    · exact hedit _ _
  all_goals cases hr

omit h in
/-- R50: a run begun, from the state in which its record is fresh. -/
theorem EngineFree.beginRun (i : Nat) (r : StepRecord) (h : P (freshRun s)) : P (beginRun i r s) := by
  have hentered := hP.enterStep (hP.quiet (post_quiet (.engineState .running (some i) 0) _) h) i r
  rw [beginRun_eq]
  split
  · exact hP.comeIn hentered
  · exact hentered

/-- R47: an accepted RESUME. -/
theorem EngineFree.resumeRun (hs : s.engine.state = .paused) (hc : s.engine.causes.permit = false) : P (resumeRun s) := by
  have hrunning := hP.resumed (s.engine.live.map resumePhase) hs hc h
  have hthawed := hP.heat (fun hok => hok.countdown (f := thawCountdown s.now) rfl) hrunning
  exact hP.comeIn (hP.quiet ((tellWish_quiet _ _).trans (postEngineState_quiet _)) (hP.syncHold hthawed))

theorem EngineFree.serveResume : P (serveResume s).1 := by
  unfold Machine.serveResume
  split_ifs with hs hc
  case neg => exact hP.resumeRun h (not_not.mp hs) (congrArg CauseSet.permit (not_not.mp hc))
  all_goals exact h

theorem EngineFree.servePause : P (servePause s).1 := by
  unfold Machine.servePause
  split
  · rename_i hs
    exact hP.forced (enterPaused_forced (.inl (decide_eq_true hs))) h
  all_goals exact h

theorem EngineFree.serveAbort : P (serveAbort s).1 := by
  unfold Machine.serveAbort
  split
  · exact hP.forced (enterEnded_forced _ _) (hP.closeStep h _)
  · exact h

theorem EngineFree.serveSkipStep (i : Nat) : P (serveSkipStep i s).1 := by
  unfold Machine.serveSkipStep
  split_ifs
  case neg => exact hP.endStep h _
  all_goals exact h

theorem EngineFree.serveConfirm (i : Nat) : P (serveConfirm i s).1 := by
  unfold Machine.serveConfirm
  split_ifs
  · exact h
  · exact h
  · exact h
  · exact hP.endStep h _
  · exact h

/-- R53: CLEAR_TRIP leaves PERMIT among the causes where the permit is not ARMED. -/
theorem EngineFree.serveClearTrip : P (serveClearTrip s).1 := by
  unfold Machine.serveClearTrip
  split_ifs
  case neg =>
    refine hP.forced (enterPaused_forced (.inr ?_)) h
    by_cases ha : s.permit.state = .armed
    · exact .inl ha
    · exact .inr (decide_eq_true ha)
  all_goals exact h

/-- A request that is neither a plan edit nor a run request, nor PERMIT, reaches none of the drive. -/
theorem EngineFree.served {ts : List Block} {v : Served} (k : Touches ts s v.1)
    (hts : ts ⊆ [.scale, .notices, .panel, .link, .mon, .store]) : P v.1 :=
  hP.touches h (k.mono hts) (by decide) (by decide) (by decide) (by decide) (by decide)

/-- Every owner keeps such a property, where those of START_RUN and PERMIT do. -/
theorem EngineFree.serveRequest (p : Port) {r : Request} (hstart : ∀ rev i, r = .startRun rev i → P (serveStartRun rev i s).1)
    (hpermit : ∀ key, P (servePermit key s).1) : P (serveRequest p r s).1 := by
  cases r
  case readStatus => exact h
  case takeNotice => exact hP.served h (serveTakeNotice_touches p s) (by decide)
  case setNoticeMask m => exact hP.served h (v := serveSetNoticeMask p m s) (withNotices_touches _ s) (by decide)
  case readPlanHeader => exact h
  case readStep i => exact hP.served h (serveReadStep_touches i s) (by decide)
  case insertStep => exact hP.serveEdit h p rfl
  case replaceStep => exact hP.serveEdit h p rfl
  case removeStep => exact hP.serveEdit h p rfl
  case clearPlan => exact hP.serveEdit h p rfl
  case setPlanId => exact hP.serveEdit h p rfl
  case startRun rev i => exact hstart rev i rfl
  case pause => exact hP.servePause h
  case resume => exact hP.serveResume h
  case abort => exact hP.serveAbort h
  case skipStep i => exact hP.serveSkipStep h i
  case confirm i => exact hP.serveConfirm h i
  case clearTrip => exact hP.serveClearTrip h
  case readRunLog i => exact hP.served h (serveReadRunLog_touches i s) (by decide)
  case tarePush => exact hP.served h (serveTarePush_touches p s) (by decide)
  case tarePop => exact hP.served h (serveTarePop_touches p s) (by decide)
  case tareClear => exact hP.served h (serveTareClear_touches p s) (by decide)
  case restartScale => exact hP.served h (serveRestartScale_touches s) (by decide)
  case calZero => exact hP.served h (beginCapture_touches _ _ s) (by decide)
  case calSpan => exact hP.served h (beginCapture_touches _ _ s) (by decide)
  case readCal => exact h
  case permit key => exact hpermit key
  case clearLatched x => exact hP.served h (serveClearLatched_touches x s) (by decide)
  case libSave i => exact hP.served h (serveLibSave_touches i s) (by decide)
  case libLoad i => exact hP.served h (serveLibLoad_touches i s) (by decide)
  case libErase i => exact hP.served h (serveLibErase_touches i s) (by decide)
  case libInfo => exact h
  case libWriteCal => exact hP.served h (serveLibWriteCal_touches s) (by decide)

/-! ### The units' events -/

/-- R31: the clocks count. -/
theorem EngineFree.countTenths : P (countTenths s) := hP.quiet (s := s) ⟨rfl, id, rfl, rfl, rfl, rfl, rfl⟩ h

theorem EngineFree.testTimer : P (testTimer s) := by
  unfold Machine.testTimer
  split
  · split
    · exact hP.endStep h _
    · exact h
  · exact h

theorem EngineFree.settleRunsOut : P (settleRunsOut s) := by
  unfold Machine.settleRunsOut
  split
  · exact hP.takeReference h _ _
  · exact h

theorem EngineFree.endSense (code : Nat) : P (endSense code s) := by
  unfold Machine.endSense
  split
  · exact hP.quiet (withConv_quiet _ _) (hP.deliverSense h _ code)
  · exact h
  · exact h

theorem EngineFree.endWeigh (a b c d : Int) : P (endWeigh a b c d s) := by
  have hfinish : P (finishWeigh a b c d s) := by
    unfold finishWeigh
    dsimp only
    split
    · exact hP.quiet (withConv_quiet _ s) h
    · exact hP.takeSample (hP.quiet (withConv_quiet _ s) h) _
  unfold Machine.endWeigh
  split
  · exact hP.quiet (withConv_quiet _ _) hfinish
  · exact h
  · exact h

/-- R132: a tach edge measures the speed. -/
theorem EngineFree.tachEdge : P (tachEdge s) := by
  have hstir := hP.quiet (withStir_quiet (x := edgeStir s.now s.stir) rfl) h
  exact hP.quiet ((tellStopped_quiet false _).trans (withConv_quiet _ _)) hstir

theorem EngineFree.noEdgeTimeout : P (noEdgeTimeout s) := by
  unfold Machine.noEdgeTimeout
  split
  · have hstir := hP.quiet (withStir_quiet (x := standStir s.stir) rfl) h
    refine hP.quiet (tellStopped_quiet true _) ?_
    split
    · exact hstir
    · exact hP.quiet (withConv_quiet _ _) hstir
  · exact h

omit hP h in
theorem endWait_applied (st : Stir) : (endWait st).applied = st.applied := by
  unfold endWait
  split <;> rfl

omit hP h in
theorem patternClock_applied (w : Bool) (st : Stir) : (patternClock w st).applied = st.applied := by
  unfold patternClock countPattern
  split
  · split
    · split <;> rfl
    · rfl
  · rfl

omit hP h in
theorem formDrive_applied (st : Stir) : (formDrive st).applied = st.applied := by
  unfold formDrive
  split <;> rfl

omit hP h in
/-- R140: outside RUNNING nothing is applied. -/
theorem appliedSetpoint_idle {s : State} (hs : s.isRunning = false) (dose : Bool) (st : Stir) :
    appliedSetpoint (stirWorking s) dose st = 0 := by
  simp [appliedSetpoint, stirDriven, stirWorking, hs]

theorem EngineFree.updateApplied : P (updateApplied s) := by
  have happlied := hP.applied (st := { s.stir with
    applied := appliedSetpoint (stirWorking s) (liveIsDose s) s.stir }) (fun hs => appliedSetpoint_idle hs _ _) h
  unfold Machine.updateApplied
  dsimp only
  split
  · split
    · exact hP.quiet ((withStir_quiet (by exact rfl)).trans (post_quiet _ _)) happlied
    · exact happlied
  · exact happlied

theorem EngineFree.controlUpdate : P (controlUpdate s) := by
  have hpattern : P (updatePattern s) :=
    hP.quiet (withStir_quiet ((patternClock_applied _ _).trans (endWait_applied _))) h
  have happlied := hP.updateApplied hpattern
  have hdrive : P (updateDrive (Machine.updateApplied (updatePattern s))) :=
    hP.quiet (withStir_quiet (formDrive_applied _)) happlied
  unfold Machine.controlUpdate updateStall stallHandover
  exact hP.detectorInput (hP.quiet (withStir_quiet (by exact rfl)) hdrive) _ _

/-- R147: the sample taken, the detectors fed and the lock confirmed. -/
theorem EngineFree.lidSample (hlid : ∀ {u : State} (x : Lid), P u → P (u.withLid x)) (a b : Bool) :
    P (lidSample a b s) := by
  unfold Machine.lidSample
  dsimp only
  generalize hu : s.withLid _ = u
  have hsampled : P u := hu ▸ hlid _ h
  have hfed : P (lockFaultInput b (lidOpenInput a u)) := hP.detectorInput (hP.detectorInput hsampled _ _) _ _
  split
  · exact hP.takeLockConfirmation hfed
  · exact hfed

end

/-- R181: the end of a load replaces the plan, and reaches none of the drive. -/
theorem endLoad_quiet (s : State) : Quiet s (endLoad s) := by
  obtain ⟨_, he⟩ | ⟨slot, hop, ⟨r, rev, he⟩ | ⟨planId, steps, _, he⟩⟩ := endLoad_cases s
  all_goals rw [he]
  · exact Quiet.refl s
  all_goals exact ⟨rfl, id, rfl, rfl, rfl, rfl, rfl⟩

/-- R176: the end of the scan reaches the store and the Scale Unit. -/
theorem endScan_quiet (s : State) : Quiet s (endScan s) := by
  unfold endScan
  split
  · exact (Quiet.of_touches (withStore_touches _ s) (by decide) (by decide) (by decide) (by decide) (by decide)).trans
      (Quiet.of_touches (changeCalibration_touches _ _) (by decide) (by decide) (by decide) (by decide) (by decide))
  all_goals exact Quiet.refl s

section
variable {P : State → Prop} (hP : EngineFree P)
  (hport : PortFree P)
  (hlid : ∀ {s : State} (x : Lid), P s → P (s.withLid x))
  (hlapse : ∀ {s : State} (r : LapseReason), s.permit.state = .armed → P s → P (lapsePermit r s))
  (hdue : ∀ {s : State}, P s → P (s.withPermit { s.permit with due := none }))
include hP hport hlid hlapse hdue

/-- Every unit event keeps such a property. -/
theorem EngineFree.unitEvent {c : Instr} {s t : State} (hu : unitEvent c = true) (h : P s) (he : exec c s = .next t) :
    P t := by
  have hafter : ∀ dt, P (s.after dt) := fun dt => hport.after dt h
  have hstore : ∀ {dt : Nat} {ts : List Block} {u : State}, Touches ts (s.after dt) u →
      ts ⊆ [.now, .free, .conv, .scale, .mon, .notices, .store, .panel, .link] → P u := fun k hts =>
    hP.touches (hafter _) (k.mono hts) (by decide) (by decide) (by decide) (by decide) (by decide)
  cases c
  case timeBaseTick dt => cases he; exact hP.testTimer (hP.countTenths (hafter dt))
  case settleDeadline dt => cases he; exact hP.settleRunsOut (hafter dt)
  case senseTimerExpiry dt => cases he; exact hP.quiet (withConv_quiet _ _) (hafter dt)
  case senseConversionEnd dt code => cases he; exact hP.endSense (hafter dt) code
  case freeTrigger dt => cases he; exact hstore (expireFree_touches _) (by decide)
  case weighGroupEnd dt a b c d => cases he; exact hP.endWeigh (hafter dt) a b c d
  case tareDeadline dt => cases he; exact hstore (endTare_touches _ _) (by decide)
  case captureDeadline dt => cases he; exact hstore (endCapture_touches _ _) (by decide)
  case tachEdge dt => cases he; exact hP.tachEdge (hafter dt)
  case noEdgeTimeout dt => cases he; exact hP.noEdgeTimeout (hafter dt)
  case controlUpdate dt => cases he; exact hP.controlUpdate (hafter dt)
  case lidSample dt a b => cases he; exact hP.lidSample (hafter dt) hlid a b
  case plateauTimer dt =>
    cases he
    unfold expirePlateau
    refine hP.detectorInput (hP.heat (fun hok => ?_) (hafter dt)) _ _
    exact hok.of_fields hok.mode rfl rfl rfl rfl rfl rfl
  case frameEnd dt => cases he; exact hP.heat (fun hok => hok.endFrame) (hafter dt)
  case slotBoundary dt => cases he; exact hP.heat (fun hok => hok.nextSlot) (hafter dt)
  case rampRise dt => cases he; exact hP.heat (fun hok => hok.riseSetpoint _) (hafter dt)
  case permitExpiry dt =>
    cases he
    unfold expirePermit
    split
    · exact hlapse _ (by assumption) (hafter dt)
    · exact hafter dt
  case permitDueTimer dt =>
    cases he
    unfold comeDue
    split
    · exact hP.touches (hdue (hafter dt)) (postPanel_touches _ _) (by decide) (by decide) (by decide) (by decide)
        (by decide)
    · exact hafter dt
  case uptimeTick dt => cases he; exact hstore (withNotices_touches _ _) (by decide)
  case scanEnd dt => cases he; exact hP.quiet (endScan_quiet _) (hafter dt)
  case wordWriteEnd dt a b => cases he; exact hstore (endWordWrite_touches a b _) (by decide)
  case loadReadEnd dt => cases he; exact hP.quiet (endLoad_quiet _) (hafter dt)
  all_goals cases hu

end

/-- R165, R166: the owner of PERMIT keeps what arming, renewal and lapse keep. -/
theorem servePermit_keeps {P : State → Prop} {s : State} (h : P s)
    (hlapse : ∀ r, s.permit.state = .armed → P (lapsePermit r s))
    (hrenew : s.permit.state = .armed → P (s.withPermit (renewPermit s.now s.permit)))
    (harm : P (takeRearm (s.withPermit (armPermit s.now)))) (key : Byte) : P (servePermit key s).1 := by
  have harming : P (serveArming key s).1 := by
    unfold serveArming
    split
    · exact harm
    · exact h
  unfold servePermit
  split
  · rename_i hs
    unfold serveRenewal
    split
    · exact hlapse _ hs
    · exact hrenew hs
  · exact harming
  · exact harming

end Sys2Proof.Machine
end

section
/-! PROOFS. The drive, the permit and the run log under every command (O21, O22, O23): each is a property that follows the
Step Engine's operations. -/

namespace Sys2Proof.Machine

/-! ### The drive (O21) -/

/-- R27, R106, R116, R120: the invariant of O21, clause by clause. -/
structure State.DriveOk (s : State) : Prop where
  heat : HeatOk s.isRunning s.heat
  applied : s.isRunning = false → s.stir.applied = 0

theorem State.undriven_iff (s : State) : s.undriven = true ↔ s.heat.CoilOff ∧ s.stir.applied = 0 := by
  simp only [State.undriven, Bool.and_eq_true, Bool.not_eq_true', decide_eq_true_eq]
  exact ⟨fun ⟨⟨⟨⟨⟨hg, hf⟩, hn⟩, hs⟩, hi⟩, ha⟩ => ⟨⟨hg, hf, hn, hs, hi⟩, ha⟩,
    fun ⟨⟨hg, hf, hn, hs, hi⟩, ha⟩ => ⟨⟨⟨⟨⟨hg, hf⟩, hn⟩, hs⟩, hi⟩, ha⟩⟩

theorem State.driveSafe_iff (s : State) : s.driveSafe = true ↔ s.DriveOk := by
  simp only [State.driveSafe, Bool.and_eq_true, Bool.or_eq_true, State.undriven_iff]
  constructor
  · rintro ⟨⟨hmode, hframe⟩, hidle⟩
    have hrest : s.isRunning = false → s.heat.CoilOff ∧ s.stir.applied = 0 := fun hs => by
      rw [hs] at hidle
      exact hidle.resolve_left Bool.false_ne_true
    exact ⟨⟨hmode, hframe, fun hs => (hrest hs).1⟩, fun hs => (hrest hs).2⟩
  · rintro ⟨⟨hmode, hframe, hoff⟩, happlied⟩
    refine ⟨⟨hmode, hframe⟩, ?_⟩
    cases hs : s.isRunning
    · exact .inr ⟨hoff hs, happlied hs⟩
    · exact .inl rfl

/-- R27: an engine that becomes RUNNING releases what O21 asks outside RUNNING. -/
theorem State.DriveOk.running {s t : State} (h : s.DriveOk) (hs : t.isRunning = true) (hh : t.heat = s.heat) : t.DriveOk where
  heat := ⟨hh ▸ h.heat.mode, hh ▸ h.heat.frame, fun hb => by rw [hs] at hb; cases hb⟩
  applied hb := by rw [hs] at hb; cases hb

theorem driveOk_engineFree : EngineFree State.DriveOk where
  quiet {s t} k h := by
    have hrun : t.isRunning = s.isRunning := congrArg (fun x => decide (x = EngineState.running)) k.state
    exact ⟨by rw [hrun, k.heat]; exact h.heat, fun hb => k.applied.trans (h.applied (hrun ▸ hb))⟩
  heat hk h := ⟨hk h.heat, h.applied⟩
  log _ h := ⟨h.heat, h.applied⟩
  forced {s t} k h := by
    have hrun : t.isRunning = false := decide_eq_false k.state
    exact ⟨by rw [hrun]; exact k.heat h.heat, fun _ => k.applied⟩
  applied ha h := ⟨h.heat, ha⟩
  resumed _ _ _ h := State.DriveOk.running h rfl rfl

theorem driveOk_portFree : PortFree State.DriveOk where
  port p _ h := by cases p <;> exact ⟨h.heat, h.applied⟩
  rx _ h := ⟨h.heat, h.applied⟩
  psdo _ h := ⟨h.heat, h.applied⟩
  after _ h := ⟨h.heat, h.applied⟩

section
variable {s : State} (h : s.DriveOk)
include h

theorem lapsePermit_driveOk (r : LapseReason) : (lapsePermit r s).DriveOk :=
  driveOk_engineFree.takeLapse (s := post _ (s.withPermit _)) ⟨h.heat, h.applied⟩

theorem takeRearm_driveOk : (takeRearm s).DriveOk := by
  unfold takeRearm
  split
  · exact ⟨h.heat, h.applied⟩
  · exact h

theorem serveStartRun_driveOk (rev i : Nat) : (serveStartRun rev i s).1.DriveOk := by
  obtain he | ⟨r, _, _, _, he⟩ := serveStartRun_cases rev i s
  · rw [he]; exact h
  · rw [he]
    have hcapture := driveOk_engineFree.quiet (endCapture_quiet .aborted s) h
    exact driveOk_engineFree.beginRun i r (State.DriveOk.running (t := freshRun s) hcapture rfl rfl)

theorem serveRequest_driveOk (p : Port) (r : Request) : (serveRequest p r s).1.DriveOk :=
  driveOk_engineFree.serveRequest h p (fun rev i _ => serveStartRun_driveOk h rev i) <|
    servePermit_keeps h (fun r _ => lapsePermit_driveOk h r) (fun _ => ⟨h.heat, h.applied⟩)
      (takeRearm_driveOk (s := s.withPermit _) ⟨h.heat, h.applied⟩)

end

theorem exec_driveOk {c : Instr} {s t : State} (h : s.DriveOk) (he : exec c s = .next t) : t.DriveOk := by
  by_cases hc : c = .reset
  · subst hc
    cases he
    exact (State.driveSafe_iff _).mp rfl
  · exact driveOk_portFree.exec (W := fun _ => True) (fun _ _ => trivial) (fun p r u _ hu => serveRequest_driveOk hu p r)
      (fun _ _ _ => driveOk_engineFree.unitEvent driveOk_portFree (fun _ hu => ⟨hu.heat, hu.applied⟩)
        (fun r _ hu => lapsePermit_driveOk hu r) (fun hu => ⟨hu.heat, hu.applied⟩)) hc (fun _ _ => trivial) h he

/-- Settles O21: the Heat Unit's operations keep it whole, and every entry into PAUSED, TRIPPED or ENDED forces it off. -/
theorem everyStepKeepsTheDriveSafe : Obligations.EveryStepKeepsTheDriveSafe := by
  intro s t h hstep
  rw [State.driveSafe_iff] at h ⊢
  unfold step at hstep
  split at hstep
  · cases hstep
    exact h
  · rename_i c rest _
    exact exec_driveOk (s := { s with pending := rest }) ⟨h.heat, h.applied⟩ hstep

/-! ### The permit (O22) -/

/-- R46, R164, R168: the invariant of O22, clause by clause. -/
structure State.PermitOk (s : State) : Prop where
  permit : s.permit.safe = true
  running : s.engine.state = .running → s.permit.state = .armed
  paused : s.engine.state = .paused → s.permit.state = .armed ∨ s.engine.causes.permit = true

theorem State.permitSafe_iff (s : State) : s.permitSafe = true ↔ s.PermitOk := by
  simp only [State.permitSafe, Bool.and_eq_true, Bool.or_eq_true, decide_eq_true_eq]
  constructor
  · rintro ⟨hpermit, harmed | ⟨hrun, hpause⟩⟩
    · exact ⟨hpermit, fun _ => harmed, fun _ => .inl harmed⟩
    · exact ⟨hpermit, fun hs => absurd hs hrun, fun hs => .inr (hpause.resolve_left (not_not.mpr hs))⟩
  · rintro ⟨hpermit, hrun, hpause⟩
    refine ⟨hpermit, or_iff_not_imp_left.mpr fun hne => ⟨mt hrun hne, or_iff_not_imp_left.mpr fun hs => ?_⟩⟩
    exact (hpause (not_not.mp hs)).resolve_left hne

/-- R168: with the permit ARMED nothing is asked of the engine. -/
theorem State.PermitOk.of_armed {s : State} (h : s.permit.safe = true) (ha : s.permit.state = .armed) : s.PermitOk :=
  ⟨h, fun _ => ha, fun _ => .inl ha⟩

theorem permitOk_engineFree : EngineFree State.PermitOk where
  quiet {s t} k h := by
    refine ⟨k.permit ▸ h.permit, fun hs => ?_, fun hs => ?_⟩
    · rw [k.permit]
      exact h.running (k.state ▸ hs)
    · rw [k.permit]
      exact (h.paused (k.state ▸ hs)).imp_right k.cause
  heat _ h := ⟨h.permit, h.running, h.paused⟩
  log _ h := ⟨h.permit, h.running, h.paused⟩
  forced {s t} k h := by
    refine ⟨k.permit ▸ h.permit, fun hs => absurd hs k.state, fun hs => ?_⟩
    rw [k.permit]
    obtain hrun | harmed | hcause := k.cause hs
    · exact .inl (h.running (of_decide_eq_true hrun))
    · exact .inl harmed
    · exact .inr hcause
  applied _ h := ⟨h.permit, h.running, h.paused⟩
  resumed {s} _ hs hc h := by
    have harmed : s.permit.state = .armed := (h.paused hs).resolve_right (by simp [hc])
    exact State.PermitOk.of_armed h.permit harmed

theorem permitOk_portFree : PortFree State.PermitOk where
  port p _ h := by cases p <;> exact ⟨h.permit, h.running, h.paused⟩
  rx _ h := ⟨h.permit, h.running, h.paused⟩
  psdo _ h := ⟨h.permit, h.running, h.paused⟩
  after _ h := ⟨h.permit, h.running, h.paused⟩

/-- R50: START_RUN begins a run with the permit ARMED alone. -/
theorem serveStartRun_armed (rev i : Nat) (s : State) :
    (serveStartRun rev i s).1 = s ∨ s.permit.state = .armed := by
  by_cases ha : s.permit.state = .armed
  · exact .inr ha
  · refine .inl ?_
    unfold serveStartRun refused
    split
    · rfl
    split
    · rfl
    split
    · rfl
    split
    · rfl
    · rfl

/-- R168: an engine neither RUNNING nor PAUSED asks nothing of the permit. -/
theorem State.PermitOk.of_calm {s : State} (h : s.permit.safe = true) (hr : s.engine.state ≠ .running)
    (hp : s.engine.state = .paused → s.engine.causes.permit = true) : s.PermitOk :=
  ⟨h, fun hs => absurd hs hr, fun hs => .inr (hp hs)⟩

/-- R46: an engine told of a lapse is not RUNNING, and PAUSED with PERMIT among its causes. -/
theorem takeLapse_calm (s : State) : (takeLapse s).engine.state ≠ .running
    ∧ ((takeLapse s).engine.state = .paused → (takeLapse s).engine.causes.permit = true) := by
  unfold takeLapse
  cases hs : s.engine.state
  case running => simp
  case paused =>
    dsimp only
    split
    · rename_i hc
      exact ⟨by simp [hs], fun _ => hc⟩
    · exact ⟨by simp [hs], fun _ => rfl⟩
  all_goals simp [hs]

/-- R46, R168: a lapse takes the engine out of RUNNING, and leaves PERMIT among the causes of PAUSED. -/
theorem lapsePermit_permitOk (r : LapseReason) (s : State) : (lapsePermit r s).PermitOk := by
  obtain ⟨hrun, hpause⟩ := takeLapse_calm (post (.permitLapsed r) (s.withPermit (lapsedPermit r)))
  have hpermit : (lapsePermit r s).permit = lapsedPermit r := takeLapse_touches _ .permit (by decide)
  exact State.PermitOk.of_calm (by rw [hpermit]; rfl) hrun hpause

/-- R46: an engine told of the re-arming changes its causes alone. -/
theorem takeRearm_permit (s : State) : (takeRearm s).permit = s.permit := takeRearm_touches s .permit (by decide)

section
variable {s : State} (h : s.PermitOk)
include h

theorem serveStartRun_permitOk (rev i : Nat) : (serveStartRun rev i s).1.PermitOk := by
  obtain he | harmed := serveStartRun_armed rev i s
  · rw [he]; exact h
  obtain he | ⟨r, _, _, _, he⟩ := serveStartRun_cases rev i s
  · rw [he]; exact h
  · rw [he]
    have hpermit : (endCapture .aborted s).permit = s.permit := endCapture_touches .aborted s .permit (by decide)
    have hfresh : (freshRun s).permit = s.permit := hpermit
    exact permitOk_engineFree.beginRun i r
      (State.PermitOk.of_armed (by rw [hfresh]; exact h.permit) (by rw [hfresh]; exact harmed))

/-- R166: a renewal keeps the permit ARMED. -/
theorem renewPermit_permitOk (ha : s.permit.state = .armed) : (s.withPermit (renewPermit s.now s.permit)).PermitOk := by
  refine State.PermitOk.of_armed ?_ ha
  have hsafe := h.permit
  simp only [Permit.safe, ha, if_true, Bool.and_eq_true, decide_eq_true_eq] at hsafe
  simp [Permit.safe, renewPermit, ha, hsafe.2]

/-- R169: the due timer stops. -/
theorem due_permitOk : (s.withPermit { s.permit with due := none }).PermitOk := by
  refine ⟨?_, h.running, h.paused⟩
  have hsafe := h.permit
  by_cases ha : s.permit.state = .armed
  · simpa [Permit.safe, ha] using hsafe
  · have hdue : s.permit.due = none := by
      simp only [Permit.safe, ha, if_false, Bool.and_eq_true, decide_eq_true_eq] at hsafe
      obtain ⟨⟨⟨_, hdue⟩, _⟩, _⟩ := hsafe
      exact hdue
    have hself : { s.permit with due := none } = s.permit := by rw [← hdue]
    rw [State.withPermit_permit, hself]
    exact hsafe

theorem serveRequest_permitOk (p : Port) (r : Request) : (serveRequest p r s).1.PermitOk := by
  have harm : (takeRearm (s.withPermit (armPermit s.now))).permit = armPermit s.now := takeRearm_permit _
  exact permitOk_engineFree.serveRequest h p (fun rev i _ => serveStartRun_permitOk h rev i) <|
    servePermit_keeps h (fun r _ => lapsePermit_permitOk r s) (renewPermit_permitOk h)
      (State.PermitOk.of_armed (by rw [harm]; rfl) (by rw [harm]; rfl))

end

theorem exec_permitOk {c : Instr} {s t : State} (h : s.PermitOk) (he : exec c s = .next t) : t.PermitOk := by
  by_cases hc : c = .reset
  · subst hc
    cases he
    exact (State.permitSafe_iff _).mp rfl
  · exact permitOk_portFree.exec (W := fun _ => True) (fun _ _ => trivial) (fun p r u _ hu => serveRequest_permitOk hu p r)
      (fun _ _ _ => permitOk_engineFree.unitEvent permitOk_portFree (fun _ hu => ⟨hu.permit, hu.running, hu.paused⟩)
        (fun r _ _ => lapsePermit_permitOk r _) due_permitOk) hc (fun _ _ => trivial) h he

/-- Settles O22: a run begins and resumes with the permit ARMED, and its lapse ends RUNNING. -/
theorem everyStepKeepsThePermitSafe : Obligations.EveryStepKeepsThePermitSafe := by
  intro s t h hstep
  rw [State.permitSafe_iff] at h ⊢
  have ht : t.PermitOk := by
    unfold step at hstep
    split at hstep
    · cases hstep
      exact h
    · rename_i c rest _
      exact exec_permitOk (s := { s with pending := rest }) ⟨h.permit, h.running, h.paused⟩ hstep
  exact ⟨ht, ht.running⟩

/-! ### The run log (O23) -/

/-- R59: the run log holds the entries `log` in their places. -/
def State.LogKept (log : List LogEntry) (s : State) : Prop := log <+: s.engine.log

variable {log : List LogEntry}

theorem logKept_engineFree (log : List LogEntry) : EngineFree (State.LogKept log) where
  quiet k h := by unfold State.LogKept; rw [k.log]; exact h
  heat _ h := h
  log _ h := List.IsPrefix.trans h (List.prefix_append _ _)
  forced k h := by unfold State.LogKept; rw [k.log]; exact h
  applied _ h := h
  resumed _ _ _ h := h

theorem logKept_portFree (log : List LogEntry) : PortFree (State.LogKept log) where
  port p _ h := by cases p <;> exact h
  rx _ h := h
  psdo _ h := h
  after _ h := h

theorem lapsePermit_logKept {s : State} (h : s.LogKept log) (r : LapseReason) : (lapsePermit r s).LogKept log :=
  (logKept_engineFree log).takeLapse (s := post _ (s.withPermit _)) h

theorem takeRearm_logKept {s : State} (h : s.LogKept log) : (takeRearm s).LogKept log := by
  unfold takeRearm
  split <;> exact h

/-- R59: every owner but START_RUN's keeps the run log. -/
theorem serveRequest_logKept {s : State} (h : s.LogKept log) (p : Port) {r : Request} (hr : ∀ rev i, r ≠ .startRun rev i) :
    (serveRequest p r s).1.LogKept log :=
  (logKept_engineFree log).serveRequest h p (fun rev i he => absurd he (hr rev i)) <|
    servePermit_keeps h (fun r _ => lapsePermit_logKept h r) (fun _ => h) (takeRearm_logKept (s := s.withPermit _) h)

/-- R194: a kind of the table and a body of its length spell a request of that kind. -/
theorem kind_of_requestOf {k : Byte} {body : List Byte} {row : KindRow} {r : Request} (hk : kindRow k = some row)
    (hl : row.length = body.length) (h : requestOf k body = some r) : r.kind = k := by
  unfold kindRow at hk
  split at hk
  case h_33 => cases hk
  all_goals
    rename_i hcode
    have hkind : k = BitVec.ofNat 8 k.toNat := by simp
    rw [hcode] at hkind
    subst hkind
    cases hk
    obtain _ | ⟨b0, _ | ⟨b1, _ | ⟨b2, _ | ⟨b3, _ | ⟨b4, _ | ⟨b5, _ | ⟨b6, bs⟩⟩⟩⟩⟩⟩⟩ := body
  all_goals simp at hl
  case h_6 | h_7 =>
    obtain ⟨raw, _, rfl⟩ := Option.map_eq_some_iff.mp h
    rfl
  all_goals
    change some _ = some r at h
    cases h
    rfl

/-- A frame that does not carry START_RUN keeps the run log. -/
theorem takeFrame_logKept {s : State} (h : s.LogKept log) (p : Port) {frame : List Byte} (hk : frame.getD 1 0 ≠ 0x20) :
    (takeFrame p frame s).LogKept log := by
  refine (logKept_portFree log).takeRequest p _ _ _ (fun row hrow hlen u hu => ?_) h
  unfold serveFrame
  split
  · rename_i r hr
    exact serveRequest_logKept hu p fun rev i he => hk (he ▸ kind_of_requestOf hrow hlen hr).symm
  · exact hu

/-- R189: a byte moves the receiver on, and the frame it completes is taken where it is sound. -/
theorem linkByte_cases (b : Byte) (s : State) :
    linkByte b s = s.withRx (s.rx.take b).1
      ∨ ∃ frame, (s.rx.take b).2 = some frame ∧ linkByte b s = takeFrame .link frame (s.withRx (s.rx.take b).1) := by
  unfold linkByte linkComplete
  split
  · rename_i rx frame heq
    rw [heq]
    split
    · exact .inr ⟨frame, rfl, rfl⟩
    · exact .inl rfl
  · rename_i rx heq
    rw [heq]
    exact .inl rfl

/-- R193: while a request is OUTSTANDING the frames that bytes complete are discarded. -/
theorem linkBytes_outstanding_logKept (bytes : List Byte) {s : State} (hs : s.link.state = .outstanding)
    (h : s.LogKept log) : (linkBytes bytes s).LogKept log := by
  induction bytes generalizing s with
  | nil => exact h
  | cons b bs ih =>
    refine ih (linkByte_outstanding hs b).1 ?_
    change (linkByte b s).LogKept log
    obtain he | ⟨frame, _, he⟩ := linkByte_cases b s
    all_goals rw [he]
    · exact h
    · have htake : takeFrame .link frame (s.withRx (s.rx.take b).1) = discardFrame .link (s.withRx (s.rx.take b).1) :=
        takeRequest_outstanding hs
      rw [htake]
      exact h

/-- R189: bytes that complete no frame of START_RUN keep the run log: the first frame that is taken carries another request,
and the port discards those that follow it. -/
theorem linkBytes_logKept (bytes : List Byte) {s : State} (h : s.LogKept log)
    (hk : ∀ frame ∈ LinkRx.completed bytes s.rx, frame.getD 1 0 ≠ 0x20) : (linkBytes bytes s).LogKept log := by
  induction bytes generalizing s with
  | nil => exact h
  | cons b bs ih =>
    have hcons : linkBytes (b :: bs) s = linkBytes bs (linkByte b s) := rfl
    rw [hcons]
    rw [LinkRx.completed] at hk
    obtain he | ⟨frame, hframe, he⟩ := linkByte_cases b s
    all_goals rw [he]
    · exact ih h fun frame hf => hk frame (List.mem_append_right _ hf)
    · have hkind : frame.getD 1 0 ≠ 0x20 := hk frame (List.mem_append_left _ (by simp [hframe]))
      exact linkBytes_outstanding_logKept bs (takeRequest_link_outstanding fun _ => serveFrame_waiting)
        (takeFrame_logKept (s := s.withRx (s.rx.take b).1) h .link hkind)

/-- R187: a select period that frames no START_RUN keeps the run log. -/
theorem panelRequest_logKept {s : State} (h : s.LogKept log) (bytes : List Byte)
    (hk : ∀ frame, panelFrame bytes = some frame → frame.getD 1 0 ≠ 0x20) : (panelRequest bytes s).LogKept log := by
  unfold panelRequest
  dsimp only
  split
  · rename_i frame hframe
    exact takeFrame_logKept (s := s.withPsdo (List.replicate bytes.length 0)) h .panel (hk frame hframe)
  · unfold takeDamaged
    split <;> exact h

theorem unitEvent_logKept {c : Instr} {s t : State} (hu : unitEvent c = true) (h : s.LogKept log)
    (he : exec c s = .next t) : t.LogKept log :=
  (logKept_engineFree log).unitEvent (logKept_portFree log) (fun _ hu => hu) (fun r _ hu => lapsePermit_logKept hu r)
    (fun hu => hu) hu h he

/-- R59: a request other than START_RUN keeps the run log. -/
theorem request_logKept {r : Request} {dt : Nat} {p : Port} {tag : Byte} {s t : State} (h : s.LogKept log)
    (hr : ∀ rev i, r ≠ .startRun rev i) (he : exec (r.command dt p tag) s = .next t) : t.LogKept log := by
  rw [exec_command] at he
  cases he
  exact (logKept_portFree log).takeRequest p _ _ _ (fun _ _ _ u hu => serveRequest_logKept hu p hr) h

/-- Settles O23: no owner but START_RUN's takes an entry from the run log, and no frame but one of START_RUN reaches it. -/
theorem runLogOnlyGrows : Obligations.RunLogOnlyGrows := by
  unfold Obligations.RunLogOnlyGrows
  intro c s t he hc
  suffices hkept : t.LogKept s.engine.log by
    obtain ⟨more, hmore⟩ := hkept
    exact ⟨more, hmore.symm⟩
  have hself : s.LogKept s.engine.log := List.prefix_refl _
  cases hreq : c.request with
  | some r =>
    obtain ⟨dt, p, tag, rfl⟩ := command_of_request hreq
    refine request_logKept hself (fun rev i hr => ?_) he
    subst hr
    exact hc
  | none =>
    by_cases hu : unitEvent c = true
    · exact unitEvent_logKept hu hself he
    cases c
    case reset => exact hc.elim
    case panelRequestFrame dt bytes => cases he; exact panelRequest_logKept (s := s.after dt) hself bytes hc
    case panelReplyRead dt n => cases he; exact (logKept_portFree _).panelRead (s := s.after dt) n hself
    case linkFrameComplete dt bytes => cases he; exact linkBytes_logKept (s := s.after dt) bytes hself hc
    case linkByteReceived dt b => cases he; exact linkBytes_logKept (s := s.after dt) [b] hself hc
    case linkByteGapTimeout dt => cases he; exact hself
    case linkStopBitMissing dt => cases he; exact hself
    case linkReplySent dt => cases he; exact (logKept_portFree _).linkSent (s := s.after dt) hself
    all_goals simp [unitEvent, Instr.request] at hu hreq

end Sys2Proof.Machine
end

section
/-! PROOFS. The run requests that change no step: their refusals (O13), PAUSE (O15), ABORT (O17) and CLEAR_TRIP (O19). -/

namespace Sys2Proof.Machine

/-! ### A request command that is served (R192) -/

/-- R192: an admitted request command, on a port that may carry it, is concluded with its owner's answer. -/
theorem exec_served {r : Request} {p : Port} {s : State} (h : s.admits p = true)
    (hk : panelRequestOnly r = false ∨ p = .panel) (dt : Nat) (tag : Byte) :
    exec (r.command dt p tag) s
      = .next (conclude p r.kind tag (serveRequest p r (heldState p r.kind tag (s.after dt)))) := by
  obtain ⟨hfree, hscan⟩ := State.admits_iff.mp h
  rw [exec_command, takeRequest_passed (by simpa using hfree) (portCheck_none (by simpa using hscan) (kindRow_kind r) hk rfl)]

/-- R192: a run request refused by its owner is answered with an empty body and changes nothing else. -/
theorem exec_runRefused {r : Request} {p : Port} {s : State} (h : s.admits p = true)
    (hk : panelRequestOnly r = false ∨ p = .panel) {dt : Nat} {tag : Byte} {res : Result}
    (hr : serveRequest p r (heldState p r.kind tag (s.after dt)) = refused res (heldState p r.kind tag (s.after dt))) :
    exec (r.command dt p tag) s
      = .next (formReply p r.kind tag { result := res, clamped := false, body := [] } (s.after dt)) := by
  rw [exec_served h hk, hr, refused, conclude_answered, formReply_held]
  rfl

/-- R192: `t` is `u`, which an accepted request has left, with its reply formed on port `p`; the request came in state `s`, and
the units that the Step Engine does not drive are as they were there. -/
structure Answered (p : Port) (kind tag : Byte) (a : Answer) (s u t : State) : Prop where
  reach : Touches [.panel, .link] u t
  reply : t.port p = (formReply p kind tag a s).port p
  plan : t.plan = s.plan
  conv : t.conv = s.conv
  scale : t.scale = s.scale
  mon : t.mon = s.mon
  permit : t.permit = s.permit
  store : t.store = s.store

/-- R192: an accepted request whose owner reaches no further than the Step Engine does. -/
theorem exec_answered {r : Request} {p : Port} {s u : State} {a : Answer} (h : s.admits p = true)
    (hk : panelRequestOnly r = false ∨ p = .panel) {dt : Nat} {tag : Byte}
    (hr : serveRequest p r (heldState p r.kind tag (s.after dt)) = (u, some a))
    (hu : Touches engineReach (heldState p r.kind tag (s.after dt)) u) :
    ∃ t, exec (r.command dt p tag) s = .next t ∧ Answered p r.kind tag a s u t := by
  have hreply := formReply_touches p r.kind tag a u
  have hreach : Touches [.panel, .link] u (formReply p r.kind tag a u) := hreply.mono (by cases p <;> decide)
  have hheld : Touches [.panel, .link, .now] s (heldState p r.kind tag (s.after dt)) :=
    ((after_touches dt s).mono (by decide)).trans ((heldState_touches p _ tag _).mono (by cases p <;> decide))
  have hall : Touches ([.panel, .link, .now] ++ engineReach) s (formReply p r.kind tag a u) :=
    ((hheld.mono (by decide)).trans (hu.mono (by decide))).trans (hreach.mono (by decide))
  have hport : u.port p = (heldState p r.kind tag (s.after dt)).port p := by
    cases p
    · exact hu .panel (by decide)
    · exact hu .link (by decide)
  refine ⟨_, ?_, hreach, formReply_own_port ?_, hall .plan (by decide), hall .conv (by decide), hall .scale (by decide),
    hall .mon (by decide), hall .permit (by decide), hall .store (by decide)⟩
  · rw [exec_served h hk, hr, conclude_answered]
  · rw [hport, held_own_port, after_port]

/-! ### Refusals (O13) -/

/-- R47, R50, R163: whether a trip-class detector other than BOWL_ABSENT is asserted, PROBE_FAULT_B counting for a heated
step. -/
theorem tripAsserted_eq (heated : Bool) (s : State) :
    tripAsserted heated s = (s.asserts .lockFault || s.asserts .overheat || s.asserts .dryPan || s.asserts .stall
      || s.asserts .probeC || (heated && s.asserts .probeB)) := by
  simp only [tripAsserted, allDetectors, List.any_cons, List.any_nil, tripClass, Bool.and_true, Bool.and_false,
    Bool.false_and, Bool.true_and, Bool.or_false, Bool.false_or, ne_eq, reduceCtorEq, not_false_eq_true, decide_true,
    not_true_eq_false, decide_false]
  ac_rfl

section
variable {s : State} {res : Result}

theorem serveStartRun_refused {rev idx : Nat}
    (h : firstFailure [(s.inRun, .wrongState), (s.loadInFlight, .busy), (decide (rev ≠ s.plan.revision), .stale),
      (decide (s.plan.steps.length ≤ idx), .range), (decide (s.permit.state ≠ .armed), .noPermit),
      (s.asserts .lidOpen, .lidOpen), (s.asserts .bowlAbsent, .noBowl),
      (tripAsserted (((s.plan.steps[idx]?).map (fun r => decide (r.heatMode ≠ .off))).getD false) s, .causePresent)]
        = some res) : serveStartRun rev idx s = refused res s := by
  simp only [firstFailure_cons, firstFailure_nil, decide_eq_true_eq, decide_eq_false_iff_not, not_not, not_le] at h
  unfold serveStartRun
  obtain ⟨hr, rfl⟩ | ⟨hr, ⟨hb, rfl⟩ | ⟨hb, ⟨hv, rfl⟩ | ⟨hv, ⟨hi, rfl⟩ | ⟨hi, h⟩⟩⟩⟩ := h
  · simp [hr]
  · simp [hr, hb]
  · simp [hr, hb, hv]
  · simp [hr, hb, hv, hi]
  · rw [List.getElem?_eq_getElem hi] at h ⊢
    simp only [Option.map_some, Option.getD_some] at h
    obtain ⟨ha, rfl⟩ | ⟨ha, ⟨hl, rfl⟩ | ⟨hl, ⟨hw, rfl⟩ | ⟨hw, ⟨ht, rfl⟩ | h⟩⟩⟩ := h
    · simp [hr, hb, hv, ha]
    · simp [hr, hb, hv, ha, hl]
    · simp [hr, hb, hv, ha, hl, hw]
    · simp only [hr, hb, hv, ha, hl, hw, ht, ne_eq, not_true_eq_false, if_false, if_true, Bool.false_eq_true]
    · exact absurd h.2 id

theorem servePause_refused
    (h : firstFailure [(decide (s.engine.state ≠ .running ∧ s.engine.state ≠ .paused), .wrongState)] = some res) :
    servePause s = refused res s := by
  simp only [firstFailure_cons, firstFailure_nil, decide_eq_true_eq, and_false, or_false] at h
  obtain ⟨⟨hr, hp⟩, rfl⟩ := h
  unfold servePause
  cases hs : s.engine.state
  case running => exact absurd hs hr
  case paused => exact absurd hs hp
  all_goals rfl

theorem serveResume_refused
    (h : firstFailure [(decide (s.engine.state ≠ .paused), .wrongState),
      (decide (s.engine.causes ≠ { request := true, lid := false, permit := false }), .causePresent),
      (s.asserts .bowlAbsent, .noBowl), (tripAsserted s.liveHeated s, .causePresent)] = some res) :
    serveResume s = refused res s := by
  simp only [firstFailure_cons, firstFailure_nil, decide_eq_true_eq, decide_eq_false_iff_not, not_not] at h
  unfold serveResume
  obtain ⟨hs, rfl⟩ | ⟨hs, ⟨hc, rfl⟩ | ⟨hc, ⟨hb, rfl⟩ | ⟨hb, ⟨ht, rfl⟩ | h⟩⟩⟩ := h
  · simp [hs]
  · simp [hs, hc]
  · simp [hs, hc, hb]
  · simp [hs, hc, hb, ht]
  · exact absurd h.2 id

theorem serveAbort_refused (h : firstFailure [(!s.inRun, .wrongState)] = some res) : serveAbort s = refused res s := by
  simp only [firstFailure_cons, firstFailure_nil, Bool.not_eq_true', and_false, or_false] at h
  obtain ⟨hr, rfl⟩ := h
  simp [serveAbort, hr]

theorem serveSkipStep_refused {idx : Nat}
    (h : firstFailure [(decide (s.engine.state ≠ .running ∧ s.engine.state ≠ .paused), .wrongState),
      (decide (s.liveIndex ≠ some idx), .wrongStep)] = some res) : serveSkipStep idx s = refused res s := by
  simp only [firstFailure_cons, firstFailure_nil, decide_eq_true_eq, decide_eq_false_iff_not] at h
  unfold serveSkipStep
  obtain ⟨hs, rfl⟩ | ⟨hs, ⟨hi, rfl⟩ | h⟩ := h
  · rw [if_pos hs]
  · rw [if_neg hs, if_pos hi]
  · exact absurd h.2 id

theorem takesConfirm_eq (s : State) :
    takesConfirm s = ((s.liveRecord.map (·.exits.confirm)).getD false || (s.engine.live.map (·.fallenBack)).getD false) := by
  unfold takesConfirm
  cases s.liveRecord <;> cases s.engine.live <;> rfl

theorem serveConfirm_refused {idx : Nat}
    (h : firstFailure [(decide (s.engine.state ≠ .running), .wrongState), (decide (s.liveIndex ≠ some idx), .wrongStep),
      (decide (s.phase = some .locking), .wrongState),
      (!((s.liveRecord.map (·.exits.confirm)).getD false)
        && !((s.engine.live.map (·.fallenBack)).getD false), .wrongState)] = some res) :
    serveConfirm idx s = refused res s := by
  rw [← Bool.not_or, ← takesConfirm_eq] at h
  simp only [firstFailure_cons, firstFailure_nil, decide_eq_true_eq, decide_eq_false_iff_not, not_not,
    Bool.not_eq_true'] at h
  unfold serveConfirm
  obtain ⟨hs, rfl⟩ | ⟨hs, ⟨hi, rfl⟩ | ⟨hi, ⟨hp, rfl⟩ | ⟨hp, ⟨hc, rfl⟩ | h⟩⟩⟩ := h
  · simp [hs]
  · simp [hs, hi]
  · simp [hs, hi, hp]
  · simp [hs, hi, hc]
  · exact absurd h.2 id

theorem serveClearTrip_refused
    (h : firstFailure [(decide (s.engine.state ≠ .tripped), .wrongState),
      (decide (s.engine.trips &&& s.mon.realTime ≠ 0), .causePresent)] = some res) : serveClearTrip s = refused res s := by
  simp only [firstFailure_cons, firstFailure_nil, decide_eq_true_eq, decide_eq_false_iff_not] at h
  unfold serveClearTrip
  obtain ⟨hs, rfl⟩ | ⟨hs, ⟨ht, rfl⟩ | h⟩ := h
  · rw [if_pos hs]
  · rw [if_neg hs, if_pos ht]
  · exact absurd h.2 id

end

/-- Settles O13: the first failing check of each run request, read off the request's own chain of checks. -/
theorem runRequestRefusals : Obligations.RunRequestRefusals := by
  unfold Obligations.RunRequestRefusals
  intro dt p tag rev idx res s hadm refused probeCounts tripping
  have htrip : ∀ heated, tripping heated = tripAsserted heated s := fun heated => (tripAsserted_eq heated s).symm
  refine ⟨fun h => ?_, fun h => ?_, fun h => ?_, fun h => ?_, fun h => ?_, fun h => ?_, fun hp h => ?_⟩
  · rw [htrip] at h
    exact exec_runRefused (r := .startRun rev idx) hadm (.inl rfl)
      (serveStartRun_refused (by simpa [tripAsserted_eq] using h))
  · exact exec_runRefused (r := .pause) hadm (.inl rfl) (servePause_refused (by simpa using h))
  · rw [htrip] at h
    exact exec_runRefused (r := .resume) hadm (.inl rfl) (serveResume_refused (by simpa [tripAsserted_eq] using h))
  · exact exec_runRefused (r := .abort) hadm (.inl rfl) (serveAbort_refused (by simpa using h))
  · exact exec_runRefused (r := .skipStep idx) hadm (.inl rfl) (serveSkipStep_refused (by simpa using h))
  · exact exec_runRefused (r := .confirm idx) hadm (.inl rfl) (serveConfirm_refused (by simpa using h))
  · exact exec_runRefused (r := .clearTrip) hadm (.inr hp) (serveClearTrip_refused (by simpa using h))

/-! ### What entering PAUSED and ENDED leaves -/

/-- R27: ENGINE_STATE of an engine `e`. -/
theorem postEngineState_notices {s u : State} {e : Engine} (he : u.engine = e) (hn : u.notices = s.notices) :
    (postEngineState u).notices = (post (.engineState e.state
      (if e.state.inRun then e.live.map (·.index) else none) (stateQualifier e)) s).notices := by
  subst he
  exact post_notices_congr _ hn

theorem index_cancelSettle (live : Option Live) : (live.map Live.cancelSettle).map (·.index) = live.map (·.index) := by
  cases live <;> rfl

/-- R27, R43: what entering PAUSED leaves, besides the engine. -/
theorem enterPaused_rest (c : CauseSet) (v : State) :
    (enterPaused c v).heat = heatForcedOff v.now v.heat ∧ (enterPaused c v).stir = { v.stir with applied := 0 }
      ∧ (enterPaused c v).lid.wish = false
      ∧ (enterPaused c v).notices = (post (.engineState .paused v.liveIndex c.code) v).notices := by
  obtain ⟨hheat, hstir, hwish, hnotices⟩ := entryActions_rest (s := v.withEngine { v.engine with
    state := .paused, causes := c, trips := 0, firstTrip := none }) (by simp)
  refine ⟨hheat, hstir, hwish, ?_⟩
  refine (postEngineState_notices (entryActions_engine _) hnotices).trans ?_
  rw [State.liveIndex, ← index_cancelSettle v.engine.live]
  rfl

/-- R27, R109: what entering ENDED leaves, besides the engine. -/
theorem enterEnded_rest (r : EndReason) (v : State) :
    (enterEnded r v).heat = restHeat (heatForcedOff v.now v.heat) ∧ (enterEnded r v).stir = { v.stir with applied := 0 }
      ∧ (enterEnded r v).lid.wish = false
      ∧ (enterEnded r v).notices = (post (.engineState .ended none r.code) v).notices := by
  obtain ⟨hheat, hstir, hwish, hnotices⟩ := entryActions_rest (s := v.withEngine { v.engine with
    state := .ended, live := none, causes := CauseSet.none, trips := 0, firstTrip := none, endReason := some r }) (by simp)
  refine ⟨congrArg restHeat hheat, hstir, hwish, ?_⟩
  exact postEngineState_notices (u := (entryActions _).withHeat _) (entryActions_engine _) hnotices

theorem heatForcedOff_coilOff (now : Nat) (h : Heat) : (heatForcedOff now h).CoilOff := ⟨rfl, rfl, rfl, rfl, rfl⟩

/-- R27: a part whose Heat Unit is off and whose blade has no setpoint is undriven. -/
theorem undriven_of_off {t : State} {st : Stir} (hh : t.heat.CoilOff) (hs : t.stir = { st with applied := 0 }) :
    t.undriven = true := (State.undriven_iff t).mpr ⟨hh, by rw [hs]⟩

/-! ### PAUSE (O15) -/

/-- Settles O15: PAUSE taken while RUNNING is one entry into PAUSED. -/
theorem pauseStopsTheRun : Obligations.PauseStopsTheRun := by
  unfold Obligations.PauseStopsTheRun
  intro dt p tag s hadm
  refine ⟨fun hs => ?_, fun hs => ?_⟩
  · have hserve : serveRequest p .pause (heldState p 0x21 tag (s.after dt))
        = accepted (enterPaused { request := true, lid := false, permit := false } (heldState p 0x21 tag (s.after dt))) := by
      simp [serveRequest, servePause, hs]
    obtain ⟨t, hexec, hans⟩ := exec_answered (r := .pause) hadm (.inl rfl) hserve (enterPaused_touches _ _)
    obtain ⟨hheat, hstir, hwish, hnotices⟩ := enterPaused_rest { request := true, lid := false, permit := false }
      (heldState p 0x21 tag (s.after dt))
    refine ⟨t, hexec, ?_, ?_, ?_, ?_, ?_, hans.reply, hans.plan, hans.conv, hans.scale, hans.mon, hans.permit, hans.store⟩
    · refine (hans.reach .engine (by decide)).trans ?_
      rw [enterPaused_engine, held_engine]
      rfl
    · refine (hans.reach .heat (by decide)).trans (hheat.trans ?_)
      rw [held_now, held_heat]
      rfl
    · exact (hans.reach .stir (by decide)).trans (hstir.trans (by rw [held_stir]; rfl))
    · exact (congrArg Lid.wish (hans.reach .lid (by decide))).trans hwish
    · refine (hans.reach .notices (by decide)).trans (hnotices.trans ?_)
      rw [held_liveIndex]
      exact post_notices_congr _ (held_notices p _ tag _)
  · have hserve : serveRequest p .pause (heldState p 0x21 tag (s.after dt))
        = accepted (heldState p 0x21 tag (s.after dt)) := by
      simp [serveRequest, servePause, hs]
    have hexec := exec_served (r := .pause) hadm (.inl rfl) dt tag
    refine hexec.trans ?_
    change Host.Outcome.next (conclude p 0x21 tag (serveRequest p .pause (heldState p 0x21 tag (s.after dt)))) = _
    rw [hserve, accepted, conclude_answered, formReply_held]
    rfl

/-! ### ABORT (O17) -/

/-- R35, R58: the end of a live step puts its entry after those of the run log and posts STEP_ENDED. -/
theorem closeStep_of_live {e : StepEnd} {s : State} {l : Live} {r : StepRecord} (hl : s.engine.live = some l)
    (hr : s.plan.steps[l.index]? = some r) :
    closeStep e s = post (.stepEnded l.index e r.tag)
      (s.withEngine { s.engine with log := s.engine.log ++ [logEntryOf l r e] }) := by
  simp [closeStep, State.liveRecord, hl, hr]

/-- Settles O17: ABORT closes the live step and enters ENDED. -/
theorem abortEndsTheRun : Obligations.AbortEndsTheRun := by
  unfold Obligations.AbortEndsTheRun
  intro dt p tag l r s hadm hrun hl hr
  have hserve : serveRequest p .abort (heldState p 0x23 tag (s.after dt))
      = accepted (enterEnded .aborted (closeStep .aborted (heldState p 0x23 tag (s.after dt)))) := by
    simp [serveRequest, serveAbort, hrun]
  obtain ⟨t, hexec, hans⟩ := exec_answered (r := .abort) hadm (.inl rfl) hserve
    ((closeStep_touches _ _).trans (enterEnded_touches _ _))
  have hclosed := closeStep_of_live (e := .aborted) (s := heldState p 0x23 tag (s.after dt)) (l := l) (r := r)
    (by simpa using hl) (by simpa using hr)
  obtain ⟨hheat, hstir, hwish, hnotices⟩ := enterEnded_rest .aborted
    (closeStep .aborted (heldState p 0x23 tag (s.after dt)))
  have hheat' : t.heat = restHeat (heatForcedOff (s.now + dt) s.heat) := by
    refine (hans.reach .heat (by decide)).trans (hheat.trans ?_)
    rw [hclosed, post_now, post_heat, State.withEngine_now, State.withEngine_heat, held_now, held_heat]
    rfl
  have hstir' : t.stir = { s.stir with applied := 0 } := by
    refine (hans.reach .stir (by decide)).trans (hstir.trans ?_)
    rw [hclosed, post_stir, State.withEngine_stir, held_stir]
    rfl
  refine ⟨t, hexec, ?_, by rw [hheat']; rfl, by rw [hheat']; rfl, by rw [hheat']; rfl, by rw [hheat']; rfl,
    by rw [hheat']; rfl, by rw [hheat']; rfl, by rw [hheat']; rfl, by rw [hheat']; rfl, by rw [hheat']; rfl,
    by rw [hheat']; rfl, undriven_of_off (by rw [hheat']; exact ⟨rfl, rfl, rfl, rfl, rfl⟩) hstir', hstir', ?_, ?_,
    hans.reply, hans.plan, hans.conv, hans.scale, hans.mon, hans.permit, hans.store⟩
  · refine (hans.reach .engine (by decide)).trans ?_
    rw [enterEnded_engine, hclosed, post_engine, State.withEngine_engine, held_engine]
    rfl
  · exact (congrArg Lid.wish (hans.reach .lid (by decide))).trans hwish
  · refine (hans.reach .notices (by decide)).trans (hnotices.trans ?_)
    rw [hclosed]
    exact post_notices_congr _ (post_notices_congr _ (held_notices p _ tag _))

/-! ### CLEAR_TRIP (O19) -/

/-- Settles O19: CLEAR_TRIP is one entry into PAUSED, with the causes that stand. -/
theorem clearTripLeavesTheRunPaused : Obligations.ClearTripLeavesTheRunPaused := by
  unfold Obligations.ClearTripLeavesTheRunPaused
  intro dt tag s hadm hs htrips
  have hserve : serveRequest .panel .clearTrip (heldState .panel 0x26 tag (s.after dt))
      = accepted (enterPaused (clearedCauses s) (heldState .panel 0x26 tag (s.after dt))) := by
    simp [serveRequest, serveClearTrip, hs, htrips, clearedCauses]
  obtain ⟨t, hexec, hans⟩ := exec_answered (r := .clearTrip) hadm (.inr rfl) hserve (enterPaused_touches _ _)
  obtain ⟨hheat, hstir, hwish, -⟩ := enterPaused_rest (clearedCauses s) (heldState .panel 0x26 tag (s.after dt))
  refine ⟨t, hexec, ?_, ?_, ?_, hans.reply, hans.plan, hans.conv, hans.scale, hans.mon, hans.permit, hans.store⟩
  · refine (hans.reach .engine (by decide)).trans ?_
    rw [enterPaused_engine, held_engine]
    rfl
  · refine undriven_of_off ?_ ((hans.reach .stir (by decide)).trans hstir)
    have hheat' : t.heat = _ := (hans.reach .heat (by decide)).trans hheat
    rw [hheat']
    exact heatForcedOff_coilOff _ _
  · exact (congrArg Lid.wish (hans.reach .lid (by decide))).trans hwish

end Sys2Proof.Machine
end

section
/-! PROOFS. The phase entry checks as whole states, and the Step Engine's own timers (O24, O25) with the permit's (O36). -/

namespace Sys2Proof.Machine

/-! ### Phases (R29, R30) -/

section
variable {r : StepRecord} {ph : Phase} {n : Nat} {reached boiling : Bool}

/-- R30, test 1: TIMER is found first. -/
theorem endInPhase_timer {d : Nat} (ht : r.exits.timer = true) (hph : ph ∈ [Phase.dwell, .dosing, .waitConfirm])
    (hd : r.duration = some d) (hle : 10 * d ≤ n) : endInPhase r ph n reached boiling = some .timer := by
  simp only [endInPhase, ht, hd, decide_eq_true hph, Option.map_some, Option.getD_some, decide_eq_true hle, Bool.and_self,
    if_true]

/-- R30: nothing is found where the duration is not reached and TEMP and BOIL have nothing to end the step by. -/
theorem endInPhase_none (ht : r.exits.timer = true → ∀ d, r.duration = some d → n < 10 * d)
    (hh : ph ∈ [Phase.approach, .dwell] → reached = false ∧ boiling = false) :
    endInPhase r ph n reached boiling = none := by
  have htimer : (r.exits.timer && decide (ph ∈ [Phase.dwell, .dosing, .waitConfirm])
      && (r.duration.map (fun d => decide (10 * d ≤ n))).getD false) = false := by
    cases hx : r.exits.timer
    · rfl
    · cases hd : r.duration with
      | none => simp
      | some d =>
        have := ht hx d hd
        simp only [Option.map_some, Option.getD_some, Bool.and_eq_false_imp, decide_eq_false_iff_not]
        omega
  unfold endInPhase
  simp only [htimer, Bool.false_eq_true, if_false]
  by_cases hp : ph ∈ [Phase.approach, .dwell]
  · obtain ⟨hr, hb⟩ := hh hp
    simp [hr, hb]
  · have hno : decide (ph ∈ [Phase.approach, .dwell]) = false := decide_eq_false hp
    simp only [hno, Bool.and_false, Bool.false_and, Bool.false_eq_true, if_false]

/-- R30: outside APPROACH one round of checks is all. -/
theorem checkedPhase_of_ne (hp : ph ≠ .approach) :
    checkedPhase r ph n reached boiling = (ph, endInPhase r ph n reached boiling) := by
  unfold checkedPhase
  cases endInPhase r ph n reached boiling with
  | some e => rfl
  | none => simp [hp]

/-- R30: checks that find nothing, with the target not reached, leave the phase. -/
theorem checkedPhase_none (he : endInPhase r ph n false boiling = none) : checkedPhase r ph n false boiling = (ph, none) := by
  simp [checkedPhase, he]

/-- R29: no check leads back to LOCKING. -/
theorem checkedPhase_ne_locking (hp : ph ≠ .locking) : (checkedPhase r ph n reached boiling).1 ≠ .locking := by
  unfold checkedPhase
  split
  · exact hp
  · split
    · exact Phase.noConfusion
    · exact hp

/-- R30: no check leads to SETTLE. -/
theorem checkedPhase_ne_settle (hp : ph ≠ .settle) : (checkedPhase r ph n reached boiling).1 ≠ .settle := by
  unfold checkedPhase
  split
  · exact hp
  · split
    · exact Phase.noConfusion
    · exact hp

end

theorem mapLive_of_live {f : Live → Live} {s : State} {l : Live} (hl : s.engine.live = some l) :
    s.mapLive f = s.withEngine { s.engine with live := some (f l) } := by
  rw [State.mapLive, hl]
  rfl

theorem phase_of_live {s : State} {l : Live} (hl : s.engine.live = some l) : s.phase = some l.phase := by
  rw [State.phase, hl]
  rfl

theorem liveRecord_of_live {s : State} {l : Live} (hl : s.engine.live = some l) : s.liveRecord = s.plan.steps[l.index]? := by
  rw [State.liveRecord, hl]

section
variable {s : State} {l : Live} {r : StepRecord} (hl : s.engine.live = some l) (hr : s.plan.steps[l.index]? = some r)
include hl hr

/-- R30: the phase entry checks as a whole. -/
theorem phaseChecks_eq :
    phaseChecks s = (s.withEngine { s.engine with live := some { l with
        phase := (checkedPhase r l.phase l.active s.heat.reached (s.asserts .boil)).1 } },
      (checkedPhase r l.phase l.active s.heat.reached (s.asserts .boil)).2) := by
  obtain ⟨hfound, hengine⟩ := phaseChecks_of_live hl hr
  obtain ⟨f, hf⟩ := phaseChecks_mapLive s
  refine Prod.ext ?_ hfound
  rw [← hengine, hf]
  rfl

/-- R30: a working phase other than SETTLE is checked as the step comes into it. -/
theorem comeIntoPhase_checked (hlock : l.phase ≠ .locking) (hsettle : l.phase ≠ .settle) :
    comeIntoPhase s = (s.withEngine { s.engine with live := some { l with
        phase := (checkedPhase r l.phase l.active s.heat.reached (s.asserts .boil)).1 } },
      (checkedPhase r l.phase l.active s.heat.reached (s.asserts .boil)).2) := by
  have hcome : comeIntoPhase s = phaseChecks s := by
    unfold comeIntoPhase
    rw [phase_of_live hl]
    cases hp : l.phase
    case locking => exact absurd hp hlock
    case settle => exact absurd hp hsettle
    all_goals rfl
  rw [hcome, phaseChecks_eq hl hr]

omit hr in
/-- R30, R39: SETTLE starts its deadline with the reference absent. -/
theorem comeIntoPhase_settle (hp : l.phase = .settle) :
    comeIntoPhase s = (s.withEngine { s.engine with live := some { l with
      settleBy := some (s.now + settlePeriod), reference := none } }, none) := by
  have hphase : s.phase = some .settle := (phase_of_live hl).trans (congrArg some hp)
  unfold comeIntoPhase
  rw [hphase, mapLive_of_live hl]

end

@[simp] theorem settleOutcome_none (s : State) : settleOutcome (s, none) = s := rfl
@[simp] theorem settleOutcome_some (s : State) (e : StepEnd) : settleOutcome (s, some e) = endStep e s := rfl

/-! ### The settle deadline (O25) -/

/-- R39: the live step once its reference is taken. -/
def Live.referenced (net : Int) (unsteady : Bool) (l : Live) : Live :=
  { l with reference := some net, phase := .dosing, settleBy := none,
           flags := { l.flags with refUnsteady := l.flags.refUnsteady || unsteady } }

section
variable {s : State} {l : Live} {r : StepRecord} (hl : s.engine.live = some l) (hr : s.plan.steps[l.index]? = some r)
include hl hr

/-- R39, R30: a reference taken moves the step to DOSING, where TIMER alone can end it. -/
theorem takeReference_eq (net : Int) (u : Bool) :
    takeReference net u s = settleOutcome (s.withEngine { s.engine with live := some (l.referenced net u) },
      endInPhase r .dosing l.active s.heat.reached (s.asserts .boil)) := by
  have htaken : takeReference net u s
      = settleOutcome (comeIntoPhase (s.withEngine { s.engine with live := some (l.referenced net u) })) := by
    rw [takeReference, mapLive_of_live hl]
    rfl
  have hcome := comeIntoPhase_checked (s := s.withEngine { s.engine with live := some (l.referenced net u) })
    (l := l.referenced net u) (r := r) rfl hr (by exact Phase.noConfusion) (by exact Phase.noConfusion)
  rw [htaken, hcome]
  have hdosing : (l.referenced net u).phase = .dosing := rfl
  rw [hdosing, checkedPhase_of_ne (by decide)]
  rfl

/-- R39: a step whose duration is not reached goes on in DOSING. -/
theorem takeReference_goes_on (net : Int) (u : Bool)
    (ht : r.exits.timer = true → ∀ d, r.duration = some d → l.active < 10 * d) :
    takeReference net u s = s.withEngine { s.engine with live := some (l.referenced net u) } := by
  rw [takeReference_eq hl hr, endInPhase_none ht (by simp)]
  rfl

/-- R30, R39: a step whose duration is reached ends with TIMER as it comes into DOSING. -/
theorem takeReference_ends (net : Int) (u : Bool) {d : Nat} (ht : r.exits.timer = true) (hd : r.duration = some d)
    (hle : 10 * d ≤ l.active) :
    ∃ more, (takeReference net u s).engine.log = s.engine.log ++ logEntryOf (l.referenced net u) r .timer :: more := by
  rw [takeReference_eq hl hr, endInPhase_timer ht (by simp) hd hle, settleOutcome_some]
  exact endStep_log (s := s.withEngine { s.engine with live := some (l.referenced net u) }) rfl hr

end

/-- Settles O25: the deadline takes the net as reference, flagged REF_UNSTEADY. -/
theorem settleDeadlineTakesTheReference : Obligations.SettleDeadlineTakesTheReference := by
  unfold Obligations.SettleDeadlineTakesTheReference
  intro dt s
  refine ⟨fun hno => ?_, ?_⟩
  · have hidle : settleRunsOut (s.after dt) = s.after dt :=
      if_neg fun ⟨hrun, hph⟩ => hno ⟨of_decide_eq_true hrun, hph⟩
    exact congrArg Host.Outcome.next hidle
  · rintro l l' r hs hl hph hr rfl
    have hexec : exec (.settleDeadline dt) s = .next (takeReference s.scale.net true (s.after dt)) := by
      have hruns : settleRunsOut (s.after dt) = takeReference s.scale.net true (s.after dt) :=
        if_pos ⟨decide_eq_true hs, by rw [after_phase, phase_of_live hl, hph]⟩
      exact congrArg Host.Outcome.next hruns
    have href : l.referenced s.scale.net true
        = { l with reference := some s.scale.net, phase := .dosing, settleBy := none,
                   flags := { l.flags with refUnsteady := true } } := by
      simp [Live.referenced]
    rw [← href]
    refine ⟨fun ht => ?_, fun d ht hd hle => ?_⟩
    · rw [hexec, takeReference_goes_on (s := s.after dt) hl hr _ _ ht]
      rfl
    · obtain ⟨more, hmore⟩ := takeReference_ends (s := s.after dt) hl hr s.scale.net true ht hd hle
      exact ⟨_, more, hexec, hmore⟩

/-! ### The time base (O24) -/

theorem timerMet_iff {l : Live} {r : StepRecord} : timerMet l r = true ↔
    l.phase ∈ [Phase.dwell, .dosing, .waitConfirm] ∧ r.exits.timer = true ∧ ∃ d, r.duration = some d ∧ 10 * d ≤ l.active := by
  unfold timerMet
  cases r.duration with
  | none => simp
  | some d => cases l.phase <;> simp

theorem clockCounts_iff {ph : Phase} : clockCounts ph = true ↔ ph ∈ [Phase.dwell, .dosing, .waitConfirm] := by
  cases ph <;> simp [clockCounts]

theorem nextTenth_below (free : Nat) {n : Nat} (h : n < 4294967295) : nextTenth free n = n + 1 := if_pos h

/-- R31: the live step's counts, below the end of their range. -/
theorem tickLive_below (st : EngineState) (free : Nat) {l : Live} (ha : l.active < 4294967295)
    (hp : l.pausedFor < 4294967295) :
    tickLive st free l = { l with
      active := if st = .running ∧ l.phase ∈ [Phase.dwell, .dosing, .waitConfirm] then l.active + 1 else l.active
      pausedFor := if st = .paused ∨ st = .tripped then l.pausedFor + 1 else l.pausedFor } := by
  unfold tickLive
  cases st
  case running =>
    by_cases hc : clockCounts l.phase = true
    · simp [hc, clockCounts_iff.mp hc, nextTenth_below _ ha]
    · have hn : l.phase ∉ [Phase.dwell, .dosing, .waitConfirm] := fun hm => hc (clockCounts_iff.mpr hm)
      simp only [hc, hn, and_false, if_false, reduceCtorEq, or_self, Bool.false_eq_true]
  case idle => simp
  case ended => simp
  all_goals simp [nextTenth_below _ hp]

/-- Settles O24: the clocks count, and then TIMER is tested. -/
theorem timeBaseTickCounts : Obligations.TimeBaseTickCounts := by
  unfold Obligations.TimeBaseTickCounts
  intro dt s
  refine ⟨_, rfl, ?_⟩
  intro l r l' hl hr ha hp hclock hl'
  have htick := tickLive_below s.engine.state s.free ha hp
  rw [← hl'] at htick
  have hphase : l'.phase = l.phase := by rw [hl']
  have hindex : l'.index = l.index := by rw [hl']
  have hcount : countTenths (s.after dt) = { (s.after dt) with
      free := s.free + 2
      engine := { s.engine with
        live := some l'
        runClock := if s.engine.state = .running then s.engine.runClock + 1 else s.engine.runClock
        timeBase := s.now + dt + 100000 } } := by
    unfold countTenths State.useFree State.withEngine State.after
    simp only [hl, Option.map_some, htick, nextTenth_below _ hclock, timeBasePeriod]
  have hlive : (countTenths (s.after dt)).engine.live = some l' := by rw [hcount]
  have hrecord : (countTenths (s.after dt)).liveRecord = some r := by
    rw [liveRecord_of_live hlive, hindex, hcount]
    exact hr
  have hrun : (countTenths (s.after dt)).isRunning = decide (s.engine.state = .running) := by rw [hcount]; rfl
  have htest : testTimer (countTenths (s.after dt)) = (if s.engine.state = .running ∧ timerMet l' r = true
      then endStep .timer (countTenths (s.after dt)) else countTenths (s.after dt)) := by
    unfold testTimer
    rw [hlive, hrecord]
    simp only [hrun, decide_eq_true_eq]
  change (¬_ → testTimer (countTenths (s.after dt)) = _) ∧ (_ → _ → _ → _ →
    ∃ more, (testTimer (countTenths (s.after dt))).engine.log = _)
  rw [htest]
  refine ⟨fun hno => ?_, fun hs hph ht hd => ?_⟩
  · have hnot : ¬ (s.engine.state = .running ∧ timerMet l' r = true) := fun ⟨hs, hm⟩ => by
      obtain ⟨hph, ht, hd⟩ := timerMet_iff.mp hm
      exact hno ⟨hs, hphase ▸ hph, ht, hd⟩
    rw [if_neg hnot, hcount]
  · rw [if_pos ⟨hs, timerMet_iff.mpr ⟨hphase ▸ hph, ht, hd⟩⟩]
    obtain ⟨more, hmore⟩ := endStep_log (e := .timer) hlive (r := r) (by rw [hindex, hcount]; exact hr)
    exact ⟨more, by rw [hmore, hcount]⟩

/-! ### The permit's timers (O36) -/

/-- Settles O36: a lapse by expiry reaches the engine as its state has it, and the due timer posts on the panel alone. -/
theorem permitTimersLapseAndCallForRenewal : Obligations.PermitTimersLapseAndCallForRenewal := by
  unfold Obligations.PermitTimersLapseAndCallForRenewal
  intro dt s
  refine ⟨fun hne => ?_, fun harmed => ?_, fun hdue => ?_, fun at' hdue => ?_⟩
  · exact congrArg Host.Outcome.next (if_neg (c := (s.after dt).permit.state = .armed) hne)
  · have hexpire : exec (.permitExpiry dt) s = .next (lapsePermit .expired (s.after dt)) :=
      congrArg Host.Outcome.next (if_pos (c := (s.after dt).permit.state = .armed) harmed)
    have hpermit : (lapsePermit .expired (s.after dt)).permit = lapsedPermit .expired :=
      takeLapse_touches _ .permit (by decide)
    refine ⟨_, hexpire, hpermit, fun hs => ?_, fun hs => ?_, fun hr hp => ?_⟩
    · have hlapse : lapsePermit .expired (s.after dt) = enterPaused { request := true, lid := false, permit := true }
          (post (.permitLapsed .expired) ((s.after dt).withPermit (lapsedPermit .expired))) := by
        simp [lapsePermit, takeLapse, hs]
      obtain ⟨hheat, hstir, -, -⟩ := enterPaused_rest { request := true, lid := false, permit := true }
        (post (.permitLapsed .expired) ((s.after dt).withPermit (lapsedPermit .expired)))
      rw [hlapse]
      refine ⟨by rw [enterPaused_engine], by rw [enterPaused_engine], undriven_of_off ?_ hstir⟩
      rw [hheat]
      exact heatForcedOff_coilOff _ _
    · by_cases hc : s.engine.causes.permit = true
      · have hsame : lapsePermit .expired (s.after dt)
            = post (.permitLapsed .expired) ((s.after dt).withPermit (lapsedPermit .expired)) := by
          simp [lapsePermit, takeLapse, hs, hc]
        rw [hsame, post_engine, State.withPermit_engine, State.after_engine, ← hc]
      · have hjoins : lapsePermit .expired (s.after dt) = postEngineState
            ((post (.permitLapsed .expired) ((s.after dt).withPermit (lapsedPermit .expired))).withEngine
              { s.engine with causes := { s.engine.causes with permit := true } }) := by
          simp [lapsePermit, takeLapse, hs, hc]
        rw [hjoins]
        rfl
    · rw [hpermit]
      unfold lapsePermit takeLapse
      cases hs : s.engine.state
      case running => exact absurd hs hr
      case paused => exact absurd hs hp
      all_goals simp only [post_engine, State.withPermit_engine, State.after_engine, hs]
  · have hcalm : comeDue (s.after dt) = s.after dt := by simp [comeDue, hdue]
    exact congrArg Host.Outcome.next hcalm
  · have hcome : comeDue (s.after dt)
        = postPanel (.permitDue s.permit.key) ((s.after dt).withPermit { s.permit with due := none }) := by
      simp [comeDue, hdue]
    exact congrArg Host.Outcome.next hcome

end Sys2Proof.Machine
end

section
/-! PROOFS. Changes of a detector and what they bring about: trips (O28), joins (O29), the lid's samples (O31) and the end of
LOCKING (O32). -/

namespace Sys2Proof.Machine

/-! ### Detector states -/

theorem Monitor.get_put_self (m : Monitor) (d : Detector) (x : DetState) : (m.put d x).get d = x := by cases d <;> rfl

theorem Monitor.get_put_ne (m : Monitor) {d d' : Detector} (x : DetState) (h : d' ≠ d) : (m.put d x).get d' = m.get d' := by
  cases d <;> cases d' <;> simp_all [Monitor.get, Monitor.put]

/-- R151: the real-time set speaks of the real-time states alone. -/
theorem Monitor.realTime_congr {m m' : Monitor} (h : ∀ d, (m'.get d).asserted = (m.get d).asserted) :
    m'.realTime = m.realTime := by
  simp only [Monitor.realTime, h]

theorem Monitor.realTime_put {m : Monitor} {d : Detector} {x : DetState} (h : x.asserted = (m.get d).asserted) :
    (m.put d x).realTime = m.realTime := by
  refine Monitor.realTime_congr fun d' => ?_
  by_cases hd : d' = d
  · rw [hd, Monitor.get_put_self, h]
  · rw [Monitor.get_put_ne m x hd]

/-- R150, R158: the Condition Monitor after detector `d` has changed to `b`. -/
def changedMonitor (d : Detector) (b : Bool) (m : Monitor) : Monitor :=
  if d = .stall then { m.put d ((m.get d).changed b) with stallCurrent := 0 } else m.put d ((m.get d).changed b)

theorem changedMonitor_get (d d' : Detector) (b : Bool) (m : Monitor) :
    (changedMonitor d b m).get d' = (m.put d ((m.get d).changed b)).get d' := by
  unfold changedMonitor
  split
  · cases d' <;> rfl
  · rfl

theorem changedMonitor_self (d : Detector) (b : Bool) (m : Monitor) :
    (changedMonitor d b m).get d = (m.get d).changed b := by
  rw [changedMonitor_get, Monitor.get_put_self]

theorem changedMonitor_ne {d d' : Detector} (b : Bool) (m : Monitor) (h : d' ≠ d) :
    (changedMonitor d b m).get d' = m.get d' := by
  rw [changedMonitor_get, Monitor.get_put_ne m _ h]

/-- R151, steps 1 and 2: the state taken and CONDITION posted, before the change is reported. -/
def conditionTold (d : Detector) (b : Bool) (s : State) : State :=
  post (.condition d.set (changedMonitor d b s.mon).realTime) (s.withMon (changedMonitor d b s.mon))

theorem changeDetector_eq (d : Detector) (b : Bool) (s : State) :
    changeDetector d b s = reportChange d b (conditionTold d b s) := rfl

theorem changeDetector_mon (d : Detector) (b : Bool) (s : State) :
    (changeDetector d b s).mon = changedMonitor d b s.mon := reportChange_touches d b _ .mon (by decide)

theorem conditionTold_reach (d : Detector) (b : Bool) (s : State) : Touches [.mon, .notices] s (conditionTold d b s) :=
  ((withMon_touches _ s).mono (by decide)).trans ((post_touches _ _).mono (by decide))

/-- R151: CONDITION as the state after the change shows it. -/
theorem conditionTold_notices (d : Detector) (b : Bool) (s : State) : (conditionTold d b s).notices
    = (post (.condition d.set (changeDetector d b s).mon.realTime) s).notices := by
  rw [changeDetector_mon]
  rfl

/-! ### Counting (R150) -/

theorem countInput_asserted (n k : Nat) (q : Qualifies) (x : DetState) : (countInput n k q x).1.asserted = x.asserted := by
  unfold countInput
  split <;> split <;> rfl

/-- R150: an input that changes no state changes the detector's counts alone. -/
theorem detectorInput_counts {d : Detector} {q : Qualifies} {s : State}
    (h : (countInput (setLength d) (clearLength d) q (s.mon.get d)).2 = false) :
    detectorInput d q s = s.withMon (s.mon.put d (countInput (setLength d) (clearLength d) q (s.mon.get d)).1) := by
  unfold detectorInput
  dsimp only
  rw [h]
  rfl

theorem detectorInput_changes {d : Detector} {q : Qualifies} {s : State}
    (h : (countInput (setLength d) (clearLength d) q (s.mon.get d)).2 = true) :
    detectorInput d q s = changeDetector d (!s.asserts d) s := by
  unfold detectorInput
  dsimp only
  rw [h]
  rfl

/-- R150: an input after which the detector reads as before has changed its counts alone. -/
theorem detectorInput_of_same {d : Detector} {q : Qualifies} {s : State}
    (h : ((detectorInput d q s).mon.get d).asserted = (s.mon.get d).asserted) :
    detectorInput d q s = s.withMon (s.mon.put d (countInput (setLength d) (clearLength d) q (s.mon.get d)).1) := by
  cases hc : (countInput (setLength d) (clearLength d) q (s.mon.get d)).2
  · exact detectorInput_counts hc
  · rw [detectorInput_changes hc, changeDetector_mon, changedMonitor_self] at h
    exact absurd h (by simp [DetState.changed, State.asserts])

/-- R150: a detector's input leaves the others. -/
theorem detectorInput_get_ne {d d' : Detector} (q : Qualifies) (s : State) (h : d' ≠ d) :
    (detectorInput d q s).mon.get d' = s.mon.get d' := by
  cases hc : (countInput (setLength d) (clearLength d) q (s.mon.get d)).2
  · rw [detectorInput_counts hc]
    exact Monitor.get_put_ne _ _ h
  · rw [detectorInput_changes hc, changeDetector_mon, changedMonitor_ne _ _ h]

/-! ### Trips (O28, O29) -/

/-- The detectors that may be trip-class (R51, R163). -/
def tripDetectors : List Detector := [.lockFault, .overheat, .dryPan, .stall, .probeC, .probeB, .bowlAbsent]

theorem reportChange_trip {d : Detector} (hd : d ∈ tripDetectors) (s : State) : reportChange d true s = takeTrip d s := by
  cases d
  case lidOpen | boil | overload | supplyLow => exact absurd hd (by decide)
  all_goals rfl

/-- R51, R163: PROBE_FAULT_B is trip-class while the live step is heated, the others always. -/
theorem tripClass_eq {d : Detector} (hd : d ∈ tripDetectors) (heated : Bool) :
    tripClass heated d = (decide (d ≠ .probeB) || heated) := by
  cases d
  case lidOpen | boil | overload | supplyLow => exact absurd hd (by decide)
  all_goals rfl

theorem tripClass_of {d : Detector} (hd : d ∈ tripDetectors) {s : State} (hb : d = .probeB → s.liveHeated = true) :
    tripClass s.liveHeated d = true := by
  rw [tripClass_eq hd, Bool.or_eq_true, decide_eq_true_eq]
  by_cases h : d = .probeB
  · exact .inr (hb h)
  · exact .inl h

/-- R51: an assertion that trips a RUNNING or PAUSED run. -/
theorem takeTrip_enters {d : Detector} {s : State} (hc : tripClass s.liveHeated d = true)
    (hs : s.engine.state = .running ∨ (s.engine.state = .paused ∧ d ≠ .bowlAbsent)) : takeTrip d s = enterTripped d s := by
  unfold takeTrip
  rw [if_pos hc]
  obtain hs | ⟨hs, hd⟩ := hs
  · rw [hs]
  · rw [hs]
    exact if_neg hd

/-- R52: an assertion that joins the trip set of a TRIPPED run. -/
theorem takeTrip_joins {d : Detector} {s : State} (hc : tripClass s.liveHeated d = true) (hs : s.engine.state = .tripped)
    (hd : d ≠ .bowlAbsent) : takeTrip d s = joinTrip d s := by
  unfold takeTrip
  rw [if_pos hc, hs]
  exact if_neg hd

/-- R51, R52: an assertion that reaches nothing in the engine. -/
theorem takeTrip_nothing {d : Detector} {s : State}
    (h : s.engine.state = .idle ∨ s.engine.state = .ended
      ∨ (d = .bowlAbsent ∧ (s.engine.state = .paused ∨ s.engine.state = .tripped))
      ∨ tripClass s.liveHeated d = false) : takeTrip d s = s := by
  unfold takeTrip
  obtain hs | hs | ⟨hd, hs | hs⟩ | hc := h
  · rw [hs, ite_self]
  · rw [hs, ite_self]
  · simp only [hs, hd, if_true, ite_self]
  · simp only [hs, hd, if_true, ite_self]
  · rw [hc, if_neg (by decide)]

/-- R27, R51, R151: the assertion of a detector that trips the run. -/
theorem changeDetector_trips {d : Detector} {s : State} (hd : d ∈ tripDetectors) (hb : d = .probeB → s.liveHeated = true)
    (hs : s.engine.state = .running ∨ (s.engine.state = .paused ∧ d ≠ .bowlAbsent)) :
    changeDetector d true s = enterTripped d (conditionTold d true s) := by
  rw [changeDetector_eq, reportChange_trip hd]
  exact takeTrip_enters (tripClass_of (s := s) hd hb) hs

/-- R51: the engine of a run that detector `d` has tripped, and what is driven, told and posted with it. -/
structure TrippedBy (d : Detector) (s t : State) : Prop where
  engine : t.engine = { s.engine with
    state := .tripped, causes := { request := false, lid := false, permit := false }, trips := d.set,
    firstTrip := some d, live := s.engine.live.map (fun l => { l with settleBy := none }) }
  undriven : t.undriven = true
  hold : t.heat.boilHold = false
  wish : t.lid.wish = false
  mon : t.mon = changedMonitor d true s.mon
  notices : t.notices = (post (.engineState .tripped s.liveIndex d.id)
    (post (.trip d.set d) (post (.condition d.set t.mon.realTime) s))).notices

theorem changeDetector_tripped {d : Detector} {s : State} (hd : d ∈ tripDetectors) (hb : d = .probeB → s.liveHeated = true)
    (hs : s.engine.state = .running ∨ (s.engine.state = .paused ∧ d ≠ .bowlAbsent)) :
    TrippedBy d s (changeDetector d true s) := by
  obtain ⟨hheat, hstir, hwish, hnotices⟩ := enterTripped_rest d (conditionTold d true s)
  have heq := changeDetector_trips hd hb hs
  refine ⟨?_, ?_, ?_, ?_, changeDetector_mon d true s, ?_⟩
  · rw [heq, enterTripped_engine]
    rfl
  · rw [heq]
    refine undriven_of_off ?_ hstir
    rw [hheat]
    exact heatForcedOff_coilOff _ _
  · rw [heq, hheat]
    rfl
  · rw [heq, hwish]
  · rw [changeDetector_mon, heq, hnotices]
    rfl

/-- Settles O28: the assertion is told and the engine enters TRIPPED. -/
theorem tripClassAssertionTripsTheRun : Obligations.TripClassAssertionTripsTheRun := by
  unfold Obligations.TripClassAssertionTripsTheRun
  intro d s hcase
  have htrip : d ∈ tripDetectors ∧ (d = .probeB → s.liveHeated = true)
      ∧ (s.engine.state = .running ∨ (s.engine.state = .paused ∧ d ≠ .bowlAbsent)) := by
    obtain ⟨hd, hs⟩ | ⟨rfl, hheat, hs⟩ | ⟨rfl, hs⟩ := hcase
    · refine ⟨(by decide : [Detector.lockFault, .overheat, .dryPan, .stall, .probeC] ⊆ tripDetectors) hd, ?_, ?_⟩
      · rintro rfl
        exact absurd hd (by decide)
      · refine hs.imp_right fun hp => ⟨hp, ?_⟩
        rintro rfl
        exact absurd hd (by decide)
    · exact ⟨by decide, fun _ => hheat, hs.imp_right fun hp => ⟨hp, by decide⟩⟩
    · exact ⟨by decide, (fun hd => absurd hd (by decide)), .inl hs⟩
  obtain ⟨hd, hb, hs⟩ := htrip
  have h := changeDetector_tripped hd hb hs
  refine ⟨h.engine, h.undriven, h.hold, h.wish, ?_, ?_, h.notices⟩
  · rw [h.mon, changedMonitor_self]
    rfl
  · rw [h.mon, changedMonitor_self]
    exact Bool.or_true _

/-- R52: what a new member of the trip set posts. -/
theorem joinTrip_notices {d first : Detector} {s : State} (hs : s.engine.state = .tripped)
    (hf : s.engine.firstTrip = some first) (hnew : DetSet.has s.engine.trips d = false) :
    (joinTrip d s).notices = (post (.engineState .tripped s.liveIndex first.id)
      (post (.trip (s.engine.trips ||| d.set) first) s)).notices := by
  obtain ⟨trips, joined⟩ : ∃ trips, trips = s.engine.trips ||| d.set := ⟨_, rfl⟩
  unfold joinTrip
  rw [if_neg (Bool.eq_false_iff.mp hnew), ← joined]
  refine (postEngineState_notices (s := post (.trip trips first) s) (e := { s.engine with trips := trips }) rfl ?_).trans ?_
  · simp only [State.withEngine_engine, hf, Option.getD_some]
    exact post_notices_congr _ rfl
  · simp only [stateQualifier, hs, hf]
    rfl

/-- Settles O29: a further assertion joins the trip set of a TRIPPED run, or reaches nothing. -/
theorem furtherAssertionsJoinTheTripSet : Obligations.FurtherAssertionsJoinTheTripSet := by
  unfold Obligations.FurtherAssertionsJoinTheTripSet
  intro d s hd t told trips
  have heq : t = takeTrip d (conditionTold d true s) := reportChange_trip hd _
  have htold : (conditionTold d true s).notices = told.notices := conditionTold_notices d true s
  have hreach := conditionTold_reach d true s
  refine ⟨fun hs hbowl hb => ?_, fun hcase => ?_⟩
  · have hjoin : t = joinTrip d (conditionTold d true s) :=
      heq.trans (takeTrip_joins (tripClass_of (s := s) hd hb) hs hbowl)
    have htouch := joinTrip_reach d (conditionTold d true s)
    rw [hjoin]
    refine ⟨?_, htouch .heat (by decide), htouch .stir (by decide), htouch .lid (by decide), fun first hf hnew => ?_,
      fun hold => ?_⟩
    · rw [joinTrip_engine_or]
      rfl
    · exact (joinTrip_notices (s := conditionTold d true s) hs hf hnew).trans
        (post_notices_congr _ (post_notices_congr _ htold))
    · have hmember : DetSet.has (conditionTold d true s).engine.trips d = true := hold
      unfold joinTrip
      rw [if_pos hmember]
      exact htold
  · have hnothing : t = conditionTold d true s := by
      refine heq.trans (takeTrip_nothing ?_)
      refine hcase.imp_right (Or.imp_right (Or.imp_right fun ⟨hprobe, hcold⟩ => ?_))
      subst hprobe
      exact hcold
    rw [hnothing]
    exact ⟨hreach .engine (by decide), hreach .heat (by decide), hreach .stir (by decide), hreach .lid (by decide), htold⟩

end Sys2Proof.Machine
end

section
/-! PROOFS. The lid's samples (O31) and the end of LOCKING (O32). -/

namespace Sys2Proof.Machine

/-! ### One sample (R147) -/

/-- R147, step 1: both levels are kept and the timer started again. -/
def sampledLid (lidIsOpen fbLocked : Bool) (s : State) : State :=
  s.withLid { s.lid with switch := some lidIsOpen, feedback := some fbLocked, sampleTimer := s.now + lidPeriod }

/-- R147, step 2: the sample after both detectors took it. -/
def judgedLid (lidIsOpen fbLocked : Bool) (s : State) : State :=
  lockFaultInput fbLocked (lidOpenInput lidIsOpen (sampledLid lidIsOpen fbLocked s))

theorem lidSample_eq (a b : Bool) (s : State) : lidSample a b s
    = if confirmsLock (judgedLid a b s).lid then takeLockConfirmation (judgedLid a b s) else judgedLid a b s := rfl

/-- No operation of the Step Engine changes what the Lid Controller samples. -/
theorem engineFree_samples (x : Option Bool × Option Bool × Nat) : EngineFree (fun s => s.lid.samples = x) where
  quiet k h := k.samples.trans h
  heat _ h := h
  log _ h := h
  forced k h := k.samples.trans h
  applied _ h := h
  resumed _ _ _ h := h

section
variable {a b : Bool} {s : State}

theorem lidSample_samples : (lidSample a b s).lid.samples = (some a, some b, s.now + 10000) := by
  have hP := engineFree_samples (some a, some b, s.now + 10000)
  have hjudged : (judgedLid a b s).lid.samples = (some a, some b, s.now + 10000) :=
    hP.detectorInput (hP.detectorInput (s := sampledLid a b s) rfl _ _) _ _
  rw [lidSample_eq]
  split
  · exact hP.takeLockConfirmation hjudged
  · exact hjudged

theorem lidSample_mon : (lidSample a b s).mon = (judgedLid a b s).mon := by
  rw [lidSample_eq]
  split
  · exact takeLockConfirmation_touches _ .mon (by decide)
  · rfl

/-- R29: a sample confirms nothing to an engine that does not wait in LOCKING. -/
theorem lidSample_of_not_locking
    (hno : ¬ ((judgedLid a b s).engine.state = .running ∧ (judgedLid a b s).phase = some .locking)) :
    lidSample a b s = judgedLid a b s := by
  rw [lidSample_eq]
  split
  · exact if_neg fun ⟨hrun, hph⟩ => hno ⟨of_decide_eq_true hrun, hph⟩
  · rfl

theorem lidSample_lidOpen : (lidSample a b s).mon.lidOpen = (lidOpenInput a (sampledLid a b s)).mon.lidOpen := by
  rw [lidSample_mon]
  exact detectorInput_get_ne (d := .lockFault) (d' := .lidOpen) _ _ (by decide)

/-- R154: a sample that does not change LOCK_FAULT changes its counts alone. -/
theorem judgedLid_of_same (h : (lidSample a b s).mon.lockFault.asserted = s.mon.lockFault.asserted) :
    ∃ m, judgedLid a b s = (lidOpenInput a (sampledLid a b s)).withMon m
      ∧ m.realTime = (lidOpenInput a (sampledLid a b s)).mon.realTime := by
  have hbefore : (lidOpenInput a (sampledLid a b s)).mon.lockFault = s.mon.lockFault :=
    detectorInput_get_ne (d := .lidOpen) (d' := .lockFault) _ _ (by decide)
  rw [lidSample_mon, ← hbefore] at h
  exact ⟨_, detectorInput_of_same (d := .lockFault) h, Monitor.realTime_put (countInput_asserted _ _ _ _)⟩

/-- R147, R154: a sample that does not change LOCK_FAULT and confirms nothing is LID_OPEN's input. -/
theorem lidSample_of_same (h : (lidSample a b s).mon.lockFault.asserted = s.mon.lockFault.asserted)
    (hno : ¬ ((lidOpenInput a (sampledLid a b s)).engine.state = .running
      ∧ (lidOpenInput a (sampledLid a b s)).phase = some .locking)) :
    ∃ m, lidSample a b s = (lidOpenInput a (sampledLid a b s)).withMon m
      ∧ m.realTime = (lidOpenInput a (sampledLid a b s)).mon.realTime := by
  obtain ⟨m, hm, hreal⟩ := judgedLid_of_same h
  refine ⟨m, (lidSample_of_not_locking ?_).trans hm, hreal⟩
  rw [hm]
  exact hno

end

/-! ### LID_OPEN and LOCK_FAULT change (R153, R154) -/

/-- R150: the input that brings a CLEAR detector to its set length. -/
theorem countInput_asserts {n k : Nat} {x : DetState} (hx : x.asserted = false) (hn : n ≤ x.setCount + 1) :
    (countInput n k .toAssert x).2 = true := by
  simp [countInput, hx, hn]

/-- R150: the input that brings an ASSERTED detector to its clear length. -/
theorem countInput_clears {n k : Nat} {x : DetState} (hx : x.asserted = true) (hk : k ≤ x.clearCount + 1) :
    (countInput n k .toClear x).2 = true := by
  simp [countInput, hx, hk]

theorem tellLidOpen_wish (b : Bool) (s : State) : (tellLidOpen b s).lid.wish = s.lid.wish := by
  unfold tellLidOpen
  split
  · rfl
  · exact decideDemand_wish _ _

section
variable {a b : Bool} {s : State}

/-- R153: the open sample that asserts LID_OPEN. -/
theorem lidOpenInput_asserts (hx : s.mon.lidOpen.asserted = false) (hn : 2 ≤ s.mon.lidOpen.setCount) :
    lidOpenInput true s = changeDetector .lidOpen true s := by
  refine (detectorInput_changes (d := .lidOpen) (countInput_asserts hx ?_)).trans ?_
  · exact Nat.succ_le_succ hn
  · rw [show s.asserts .lidOpen = false from hx]
    rfl

/-- R153: the closed sample that clears LID_OPEN. -/
theorem lidOpenInput_clears (hx : s.mon.lidOpen.asserted = true) (hn : 9 ≤ s.mon.lidOpen.clearCount) :
    lidOpenInput false s = changeDetector .lidOpen false s := by
  refine (detectorInput_changes (d := .lidOpen) (countInput_clears hx ?_)).trans ?_
  · exact Nat.succ_le_succ hn
  · rw [show s.asserts .lidOpen = true from hx]
    rfl

/-- R45: LID_OPEN asserting in a RUNNING run outside WAIT_CONFIRM. -/
theorem lidOpens_pauses (hs : s.engine.state = .running) (hph : s.phase ≠ some .waitConfirm) :
    changeDetector .lidOpen true s = tellLidOpen true
      (enterPaused { request := true, lid := true, permit := false } (conditionTold .lidOpen true s)) := by
  have hpause : takeLidOpen (conditionTold .lidOpen true s) = enterPaused { request := true, lid := true, permit := false }
      (conditionTold .lidOpen true s) := if_pos ⟨decide_eq_true hs, hph⟩
  exact congrArg (tellLidOpen true) hpause

/-- R45: LID_OPEN asserting elsewhere. -/
theorem lidOpens_quietly (h : s.engine.state ≠ .running ∨ s.phase = some .waitConfirm) :
    changeDetector .lidOpen true s = tellLidOpen true (conditionTold .lidOpen true s) := by
  have hnone : takeLidOpen (conditionTold .lidOpen true s) = conditionTold .lidOpen true s :=
    if_neg fun ⟨hrun, hph⟩ => h.elim (fun hn => hn (of_decide_eq_true hrun)) hph
  exact congrArg (tellLidOpen true) hnone

/-- R45: LID_OPEN clearing under the cause LID. -/
theorem lidCloses_paused (hs : s.engine.state = .paused) (hc : s.engine.causes.lid = true) :
    changeDetector .lidOpen false s = tellLidOpen false (postEngineState
      ((conditionTold .lidOpen false s).withEngine { s.engine with causes := { s.engine.causes with lid := false } })) := by
  have hcloses : takeLidClosed (conditionTold .lidOpen false s) = postEngineState
      ((conditionTold .lidOpen false s).withEngine { s.engine with causes := { s.engine.causes with lid := false } }) :=
    if_pos ⟨hs, hc⟩
  exact congrArg (tellLidOpen false) hcloses

/-! ### The sample's cases -/

/-- R147: a sample by which neither detector changes, taken while no step waits in LOCKING. -/
theorem lidSample_calm
    (hopen : (countInput 3 10 (if a then .toAssert else .toClear) s.mon.lidOpen).2 = false)
    (hlock : (countInput 1 10 (lockFaultQualifies b s.lid.demand (s.now - s.lid.demandAt)) s.mon.lockFault).2 = false)
    (hph : s.phase ≠ some .locking) :
    lidSample a b s = (sampledLid a b s).withMon { s.mon with
      lidOpen := (countInput 3 10 (if a then .toAssert else .toClear) s.mon.lidOpen).1
      lockFault := (countInput 1 10 (lockFaultQualifies b s.lid.demand (s.now - s.lid.demandAt)) s.mon.lockFault).1 } := by
  have hfirst : lidOpenInput a (sampledLid a b s) = (sampledLid a b s).withMon
      { s.mon with lidOpen := (countInput 3 10 (if a then .toAssert else .toClear) s.mon.lidOpen).1 } :=
    detectorInput_counts (d := .lidOpen) hopen
  have hboth : judgedLid a b s = (sampledLid a b s).withMon { s.mon with
      lidOpen := (countInput 3 10 (if a then .toAssert else .toClear) s.mon.lidOpen).1
      lockFault := (countInput 1 10 (lockFaultQualifies b s.lid.demand (s.now - s.lid.demandAt)) s.mon.lockFault).1 } := by
    rw [judgedLid, hfirst]
    exact detectorInput_counts (d := .lockFault) hlock
  rw [lidSample_of_not_locking, hboth]
  rw [hboth]
  exact fun ⟨_, hp⟩ => hph hp

section
variable (hsame : (lidSample a b s).mon.lockFault.asserted = s.mon.lockFault.asserted)
include hsame

/-- R45: the open sample that pauses the run. -/
theorem lidSample_pauses (hin : lidOpenInput a (sampledLid a b s) = changeDetector .lidOpen true (sampledLid a b s))
    (hs : s.engine.state = .running) (hph : s.phase ≠ some .waitConfirm) :
    (lidSample a b s).engine = { s.engine with
        state := .paused, causes := { request := true, lid := true, permit := false }, trips := 0, firstTrip := none,
        live := s.engine.live.map (fun l => { l with settleBy := none }) }
      ∧ (lidSample a b s).undriven = true ∧ (lidSample a b s).lid.wish = false
      ∧ (lidSample a b s).notices = (post (.engineState .paused s.liveIndex 3)
          (post (.condition Detector.lidOpen.set (lidSample a b s).mon.realTime) s)).notices := by
  have hpause := hin.trans (lidOpens_pauses hs hph)
  have hengine : (lidOpenInput a (sampledLid a b s)).engine = { s.engine with
      state := .paused, causes := { request := true, lid := true, permit := false }, trips := 0, firstTrip := none,
      live := s.engine.live.map (fun l => { l with settleBy := none }) } := by
    rw [hpause, tellLidOpen_engine, enterPaused_engine]
    rfl
  obtain ⟨m, hm, hreal⟩ := lidSample_of_same hsame (by rw [hengine]; exact fun h => nomatch h.1)
  obtain ⟨hheat, hstir, hwish, hnotices⟩ := enterPaused_rest { request := true, lid := true, permit := false }
    (conditionTold .lidOpen true (sampledLid a b s))
  have htell := tellLidOpen_touches true (enterPaused { request := true, lid := true, permit := false }
    (conditionTold .lidOpen true (sampledLid a b s)))
  rw [hm]
  refine ⟨hengine, ?_, ?_, ?_⟩
  · rw [hpause]
    refine undriven_of_off ?_ ((htell .stir (by decide)).trans hstir)
    rw [State.withMon_heat, htell .heat (by decide), hheat]
    exact heatForcedOff_coilOff _ _
  · rw [hpause]
    exact (tellLidOpen_wish _ _).trans hwish
  · have htold := conditionTold_notices .lidOpen true (sampledLid a b s)
    rw [← hin, ← hreal] at htold
    rw [hpause]
    refine (htell .notices (by decide)).trans (hnotices.trans ?_)
    exact post_notices_congr _ htold

/-- R45: the open sample that reaches no engine. -/
theorem lidSample_opens_quietly
    (hin : lidOpenInput a (sampledLid a b s) = changeDetector .lidOpen true (sampledLid a b s))
    (h : s.engine.state ≠ .running ∨ s.phase = some .waitConfirm) :
    (lidSample a b s).engine = s.engine ∧ (lidSample a b s).notices
      = (post (.condition Detector.lidOpen.set (lidSample a b s).mon.realTime) s).notices := by
  have hquiet := hin.trans (lidOpens_quietly h)
  have hengine : (lidOpenInput a (sampledLid a b s)).engine = s.engine := by
    rw [hquiet, tellLidOpen_engine]
    rfl
  have hno : ¬ ((lidOpenInput a (sampledLid a b s)).engine.state = .running
      ∧ (lidOpenInput a (sampledLid a b s)).phase = some .locking) := by
    rw [State.phase, hengine]
    rintro ⟨hs, hp⟩
    obtain hn | hw := h
    · exact hn hs
    · cases hw.symm.trans hp
  obtain ⟨m, hm, hreal⟩ := lidSample_of_same hsame hno
  have htold := conditionTold_notices .lidOpen true (sampledLid a b s)
  rw [← hin, ← hreal] at htold
  rw [hm]
  refine ⟨hengine, ?_⟩
  rw [hquiet]
  exact (tellLidOpen_touches true _ .notices (by decide)).trans htold

/-- R45: the closed sample that takes LID out of the causes. -/
theorem lidSample_closes (hin : lidOpenInput a (sampledLid a b s) = changeDetector .lidOpen false (sampledLid a b s))
    (hs : s.engine.state = .paused) (hc : s.engine.causes.lid = true) :
    (lidSample a b s).engine = { s.engine with causes := { s.engine.causes with lid := false } }
      ∧ (lidSample a b s).notices = (post (.engineState .paused s.liveIndex (lidSample a b s).engine.causes.code)
          (post (.condition Detector.lidOpen.set (lidSample a b s).mon.realTime) s)).notices := by
  have hcloses := hin.trans (lidCloses_paused hs hc)
  have hengine : (lidOpenInput a (sampledLid a b s)).engine
      = { s.engine with causes := { s.engine.causes with lid := false } } := by
    rw [hcloses, tellLidOpen_engine]
    rfl
  obtain ⟨m, hm, hreal⟩ := lidSample_of_same hsame (by rw [hengine, hs]; exact fun h => nomatch h.1)
  have htold := conditionTold_notices .lidOpen false (sampledLid a b s)
  rw [← hin, ← hreal] at htold
  rw [hm]
  refine ⟨hengine, ?_⟩
  rw [State.withMon_engine, hengine, hcloses]
  refine (tellLidOpen_touches false _ .notices (by decide)).trans ?_
  refine Eq.trans (postEngineState_notices (e := { s.engine with causes := { s.engine.causes with lid := false } })
    (u := (conditionTold .lidOpen false (sampledLid a b s)).withEngine _) rfl htold) ?_
  simp only [stateQualifier, hs]
  rfl

end

/-- R154: the feedback sample that asserts LOCK_FAULT. -/
theorem lidSample_lockFault
    (hopen : (countInput 3 10 (if a then .toAssert else .toClear) s.mon.lidOpen).2 = false)
    (hlate : lockFaultQualifies b s.lid.demand (s.now - s.lid.demandAt) = .toAssert)
    (hx : s.mon.lockFault.asserted = false) :
    ∃ m, m.lockFault = s.mon.lockFault
      ∧ judgedLid a b s = changeDetector .lockFault true ((sampledLid a b s).withMon m) := by
  have hfirst : lidOpenInput a (sampledLid a b s) = (sampledLid a b s).withMon
      { s.mon with lidOpen := (countInput 3 10 (if a then .toAssert else .toClear) s.mon.lidOpen).1 } :=
    detectorInput_counts (d := .lidOpen) hopen
  refine ⟨{ s.mon with lidOpen := (countInput 3 10 (if a then .toAssert else .toClear) s.mon.lidOpen).1 }, rfl, ?_⟩
  rw [judgedLid, hfirst]
  refine (detectorInput_changes (d := .lockFault) ?_).trans ?_
  · exact hlate ▸ countInput_asserts hx (Nat.le_add_left 1 _)
  · exact congrArg (fun c => changeDetector .lockFault (!c) _) hx

end

/-- Settles O31: the sample through LID_OPEN, LOCK_FAULT and the confirmation. -/
theorem lidSampleFeedsTheDetectors : Obligations.LidSampleFeedsTheDetectors := by
  unfold Obligations.LidSampleFeedsTheDetectors
  intro dt a b s
  refine ⟨lidSample a b (s.after dt), rfl, ?_⟩
  obtain ⟨hsw, hfb, htimer⟩ : _ ∧ _ ∧ _ := by
    simpa only [Lid.samples, Prod.mk.injEq] using lidSample_samples (a := a) (b := b) (s := s.after dt)
  refine ⟨hsw, hfb, htimer, ?_⟩
  have hqualifies : lockFaultQualifies b s.lid.demand ((s.after dt).now - s.lid.demandAt)
      = if b = decide (s.lid.demand = .locked) then Qualifies.toClear
        else if decide (b ≠ decide (s.lid.demand = .locked)) && decide (300000 ≤ s.now + dt - s.lid.demandAt)
          then .toAssert else .neither := by
    unfold lockFaultQualifies
    by_cases hb : b = decide (s.lid.demand = .locked)
    · rw [if_pos hb, if_pos hb]
    · simp only [if_neg hb, decide_eq_true (p := b ≠ decide (s.lid.demand = .locked)) hb, Bool.true_and, decide_eq_true_eq]
      rfl
  refine ⟨fun hopen hlock hph => ?_, fun ha hx hn => ?_, fun ha hx hn => ?_, fun hlate hx hopen => ?_⟩
  · refine (lidSample_calm (s := s.after dt) hopen ?_ hph).trans ?_
    · exact (congrArg (fun q => (countInput 1 10 q s.mon.lockFault).2) hqualifies).trans hlock
    · rw [show lockFaultQualifies b (s.after dt).lid.demand ((s.after dt).now - (s.after dt).lid.demandAt) = _ from hqualifies]
      rfl
  · subst ha
    have hin : lidOpenInput true (sampledLid true b (s.after dt))
        = changeDetector .lidOpen true (sampledLid true b (s.after dt)) := lidOpenInput_asserts hx hn
    refine ⟨?_, fun hs hph hsame => ?_, fun hs hsame => ?_⟩
    · rw [lidSample_lidOpen, hin, changeDetector_mon]
      exact congrArg (fun l => ({ asserted := true, latched := l, setCount := 0, clearCount := 0 } : DetState))
        (Bool.or_true _)
    · exact lidSample_pauses (of_decide_eq_true hsame) hin hs hph
    · exact lidSample_opens_quietly (of_decide_eq_true hsame) hin hs
  · subst ha
    have hin : lidOpenInput false (sampledLid false b (s.after dt))
        = changeDetector .lidOpen false (sampledLid false b (s.after dt)) := lidOpenInput_clears hx hn
    refine ⟨?_, fun hs hc hsame => lidSample_closes (of_decide_eq_true hsame) hin hs hc⟩
    rw [lidSample_lidOpen, hin, changeDetector_mon]
    exact congrArg (fun l => ({ asserted := false, latched := l, setCount := 0, clearCount := 0 } : DetState))
      (Bool.or_false _)
  · have hto : lockFaultQualifies b s.lid.demand ((s.after dt).now - s.lid.demandAt) = .toAssert := by
      obtain ⟨hne, -⟩ := Bool.and_eq_true_iff.mp hlate
      rw [hqualifies, if_neg (of_decide_eq_true hne), if_pos hlate]
    obtain ⟨m, hlock, hjudged⟩ := lidSample_lockFault (a := a) (s := s.after dt) hopen hto hx
    refine ⟨?_, fun hs => ?_⟩
    · rw [lidSample_mon, hjudged, changeDetector_mon]
      exact congrArg (fun l => ({ asserted := true, latched := l, setCount := 0, clearCount := 0 } : DetState))
        (Bool.or_true _)
    · have htrip := changeDetector_tripped (d := .lockFault) (s := (sampledLid a b (s.after dt)).withMon m)
        (by decide) (fun hd => absurd hd (by decide)) (hs.imp_right fun hp => ⟨hp, by decide⟩)
      rw [← hjudged] at htrip
      rw [lidSample_of_not_locking (by rw [htrip.engine]; exact fun h => nomatch h.1)]
      exact ⟨htrip.engine, htrip.undriven, htrip.wish, htrip.notices⟩

/-! ### The end of LOCKING (O32) -/

/-- R29: the live step once it has left LOCKING. -/
def Live.unlocked (l : Live) : Live := { l with phase := l.returnPhase.getD l.phase, returnPhase := none }

theorem passLocking_of_live {s : State} {l : Live} (hl : s.engine.live = some l) :
    passLocking s = s.withEngine { s.engine with live := some l.unlocked } := mapLive_of_live hl

/-- R30: a live step put into a working phase other than SETTLE is checked. -/
theorem comeIntoPhase_checked_live {s : State} {l : Live} {r : StepRecord} (hr : s.plan.steps[l.index]? = some r)
    (hlock : l.phase ≠ .locking) (hsettle : l.phase ≠ .settle) :
    comeIntoPhase (s.withEngine { s.engine with live := some l })
      = (s.withEngine { s.engine with live := some { l with
          phase := (checkedPhase r l.phase l.active s.heat.reached (s.asserts .boil)).1 } },
        (checkedPhase r l.phase l.active s.heat.reached (s.asserts .boil)).2) :=
  comeIntoPhase_checked (s := s.withEngine { s.engine with live := some l }) rfl hr hlock hsettle

/-- R29, R30: the step comes out of LOCKING into a phase whose checks find nothing. -/
theorem comeIntoPhase_passLocking {s : State} {l : Live} {r : StepRecord} {ph : Phase}
    (hl : s.engine.live = some l) (hr : s.plan.steps[l.index]? = some r) (hback : l.returnPhase = some ph) (hph : ph ≠ .locking)
    (hreached : s.heat.reached = false) (hboil : s.asserts .boil = false)
    (ht : r.exits.timer = true → ∀ d, r.duration = some d → l.active < 10 * d) :
    comeIntoPhase (passLocking s) = (s.withEngine { s.engine with live := some { l with
      phase := ph, returnPhase := none
      settleBy := if ph = .settle then some (s.now + 5000000) else l.settleBy
      reference := if ph = .settle then none else l.reference } }, none) := by
  have hout : l.unlocked = { l with phase := ph, returnPhase := none } := by simp [Live.unlocked, hback]
  rw [passLocking_of_live hl, hout]
  by_cases hs : ph = .settle
  · subst hs
    rw [comeIntoPhase_settle (l := { l with phase := .settle, returnPhase := none }) rfl rfl]
    rfl
  · have hnone : checkedPhase r ph l.active s.heat.reached (s.asserts .boil) = (ph, none) := by
      rw [hreached]
      exact checkedPhase_none (endInPhase_none ht fun _ => ⟨rfl, hboil⟩)
    rw [comeIntoPhase_checked_live (l := { l with phase := ph, returnPhase := none }) hr hph hs, hnone, if_neg hs, if_neg hs]

/-- R150: an input that qualifies to clear leaves a CLEAR detector CLEAR. -/
theorem countInput_stays_clear {n k : Nat} {x : DetState} (hx : x.asserted = false) :
    (countInput n k .toClear x).2 = false := by
  simp [countInput, hx]

/-- R153, R154: a closed and locked sample changes neither detector while both are CLEAR and the demand is LOCKED. -/
theorem judgedLid_locked {s : State} (hd : s.lid.demand = .locked) (ho : s.mon.lidOpen.asserted = false)
    (hf : s.mon.lockFault.asserted = false) :
    ∃ m, judgedLid false true s = (sampledLid false true s).withMon m ∧ m.boil = s.mon.boil := by
  have hfirst : lidOpenInput false (sampledLid false true s) = (sampledLid false true s).withMon
      (s.mon.put .lidOpen (countInput 3 10 .toClear s.mon.lidOpen).1) :=
    detectorInput_counts (d := .lidOpen) (countInput_stays_clear ho)
  have hq : lockFaultQualifies true s.lid.demand (s.now - s.lid.demandAt) = .toClear := if_pos (by rw [hd]; rfl)
  refine ⟨(s.mon.put .lidOpen (countInput 3 10 .toClear s.mon.lidOpen).1).put .lockFault
    (countInput 1 10 .toClear s.mon.lockFault).1, ?_, rfl⟩
  rw [judgedLid, hfirst]
  have hsecond := detectorInput_counts (d := .lockFault)
    (s := (sampledLid false true s).withMon (s.mon.put .lidOpen (countInput 3 10 .toClear s.mon.lidOpen).1))
    (countInput_stays_clear hf)
  exact (congrArg (fun q => detectorInput .lockFault q _) hq).trans hsecond

/-- Settles O32: the sample confirms the lock and the step comes into its return phase. -/
theorem lockConfirmationEndsLocking : Obligations.LockConfirmationEndsLocking := by
  unfold Obligations.LockConfirmationEndsLocking
  intro dt l r ph s hs hl hr hlocking hback hph hd hlid ho hf hreached hboil ht
  obtain ⟨m, hjudged, hmboil⟩ := judgedLid_locked (s := s.after dt) hd ho hf
  have hconfirms : confirmsLock (judgedLid false true (s.after dt)).lid = true := by
    rw [hjudged]
    simp [confirmsLock, lockHeld, sampledLid, hd, hlid]
  have hcome := comeIntoPhase_passLocking (s := judgedLid false true (s.after dt)) (l := l) (r := r) (ph := ph)
    (by rw [hjudged]; exact hl) (by rw [hjudged]; exact hr) hback hph (by rw [hjudged]; exact hreached)
    (by rw [hjudged]; exact (congrArg DetState.asserted hmboil).trans hboil) ht
  have hconfirmed : takeLockConfirmation (judgedLid false true (s.after dt))
      = settleOutcome (comeIntoPhase (passLocking (judgedLid false true (s.after dt)))) := by
    rw [hjudged]
    exact if_pos ⟨decide_eq_true hs, by rw [← hlocking]; exact phase_of_live hl⟩
  have hsample : lidSample false true (s.after dt)
      = settleOutcome (comeIntoPhase (passLocking (judgedLid false true (s.after dt)))) := by
    rw [lidSample_eq, if_pos hconfirms, hconfirmed]
  refine ⟨_, congrArg Host.Outcome.next hsample, ?_⟩
  rw [hcome, settleOutcome_none, hjudged]
  exact ⟨rfl, rfl, rfl, hd, rfl⟩

end Sys2Proof.Machine
end

section
/-! PROOFS. Step entry (R33, R34): what the handovers leave, the first phase, and the end of a step that enters the next
(R35). -/

namespace Sys2Proof.Machine

/-! ### The heat fields of a step entered (R107, R110, R121, R122) -/

section
variable {b : Bool} {now : Nat} {r : StepRecord} {h : Heat}

/-- The Heat Unit after the handover of a step entered and its judgement. -/
def enteredHeat (b : Bool) (now : Nat) (r : StepRecord) (h : Heat) : Heat :=
  { heatEntry b now r h with reached := metAtEntry r h.tb }

theorem takeHeatFields_temp (hr : r.heatMode = .temp) :
    takeHeatFields b now r h = beginTemp b now (10 * (r.heatValue : Int)) r.ramp h := by
  rw [takeHeatFields, hr]

theorem takeHeatFields_plain (hr : r.heatMode ≠ .temp) :
    takeHeatFields b now r h = beginPlain r.heatMode (if r.heatMode = .power then some r.heatValue else none) none h := by
  unfold takeHeatFields
  cases hm : r.heatMode with
  | temp => exact absurd hm hr
  | power => rfl
  | off => rfl

/-- R122: what the judgement finds at a step's entry. -/
theorem heatEntry_judged : meetsTarget (heatEntry b now r h) = metAtEntry r h.tb ∧ (heatEntry b now r h).reached = false := by
  rw [heatEntry, meetsTarget_loopRun, reached_loopRun]
  by_cases hr : r.heatMode = .temp
  · rw [takeHeatFields_temp hr, metAtEntry_temp hr]
    by_cases hramp : r.ramp.isSome = true ∧ h.tb < 10 * (r.heatValue : Int)
    · rw [beginTemp_ramping hramp.1 hramp.2]
      exact ⟨meetsTarget_fresh rfl rfl rfl rfl, rfl⟩
    · rw [beginTemp_level hramp]
      exact ⟨meetsTarget_fresh rfl rfl rfl rfl, rfl⟩
  · rw [takeHeatFields_plain hr]
    simp [beginPlain, meetsTarget, metAtEntry, hr]

/-- A loop run after the heat fields `h1`, put together: what the loop run does not touch is left to show. -/
theorem heatEntered_of_fields {h1 : Heat} (x : Bool)
    (hf : ∀ i nx, heatEntered b now r h { h1 with integral := i, next := nx, reached := x }
      ↔ i = (if b = true ∧ r.heatMode = .temp then h.integral else 0)
        ∧ loopRun b { h1 with integral := i, next := nx, reached := x } = { h1 with integral := i, next := nx, reached := x })
    (hs : h1.mode = .temp → h1.sp.isSome = true) (hm : h1.mode = r.heatMode) (hi : h1.integral = h.integral) :
    heatEntered b now r h { loopRun b h1 with reached := x } := by
  obtain ⟨i, nx, hrun⟩ := loopRun_eq b h1
  have hint := loopRun_integral (b := b) hs
  have hagain := loopRun_again b x h1
  rw [hrun] at hint hagain ⊢
  refine (hf i nx).mpr ⟨?_, hagain⟩
  rw [← hi, ← hm]
  exact hint

/-- R107: the Heat Unit takes the heat fields of a step entered. -/
theorem heatEntered_enteredHeat : heatEntered b now r h (enteredHeat b now r h) := by
  rw [enteredHeat, heatEntry]
  by_cases hr : r.heatMode = .temp
  · rw [takeHeatFields_temp hr]
    by_cases hramp : r.ramp.isSome = true ∧ h.tb < 10 * (r.heatValue : Int)
    · rw [beginTemp_ramping hramp.1 hramp.2]
      refine heatEntered_of_fields _ (fun i nx => ?_) (fun _ => rfl) hr.symm rfl
      simp [heatEntered, hr, hramp, rampsAtEntry, frameKept, heatDirection, startCountdown, sixSeconds, rampPeriod]
    · rw [beginTemp_level hramp]
      refine heatEntered_of_fields _ (fun i nx => ?_) (fun _ => rfl) hr.symm rfl
      simp [heatEntered, hr, hramp, rampsAtEntry, frameKept, heatDirection]
  · rw [takeHeatFields_plain hr]
    refine heatEntered_of_fields _ (fun i nx => ?_) (fun hm => absurd hm hr) rfl rfl
    simp [heatEntered, beginPlain, hr, rampsAtEntry, frameKept]

theorem heatEntry_kept : (heatEntry b now r h).tb = h.tb ∧ (heatEntry b now r h).boilHold = h.boilHold := by
  obtain ⟨i, nx, hrun⟩ := loopRun_eq b (takeHeatFields b now r h)
  rw [heatEntry, hrun]
  by_cases hr : r.heatMode = .temp
  · rw [takeHeatFields_temp hr]
    unfold beginTemp
    dsimp only
    split <;> exact ⟨rfl, rfl⟩
  · rw [takeHeatFields_plain hr]
    exact ⟨rfl, rfl⟩

theorem enteredHeat_of_met (hmet : metAtEntry r h.tb = true) :
    enteredHeat b now r h = judgeTarget (heatEntry b now r h) := by
  rw [judgeTarget, if_pos (heatEntry_judged.1.trans hmet), enteredHeat, hmet]

theorem enteredHeat_of_not_met (hmet : metAtEntry r h.tb = false) : enteredHeat b now r h = heatEntry b now r h := by
  rw [enteredHeat, hmet, ← (heatEntry_judged (b := b) (now := now) (r := r) (h := h)).2]

end

/-- R107, R122: the handover to the Heat Unit, with TEMP_REACHED where the target is met. -/
theorem judgeAndPost_heatEntry (r : StepRecord) (s : State) :
    judgeAndPost (s.withHeat (heatEntry s.isRunning s.now r s.heat))
      = (if metAtEntry r s.heat.tb = true
          then post (.tempReached s.liveIndex s.heat.tb) (s.withHeat (enteredHeat s.isRunning s.now r s.heat))
          else s.withHeat (enteredHeat s.isRunning s.now r s.heat)) := by
  have hjudged := (heatEntry_judged (b := s.isRunning) (now := s.now) (r := r) (h := s.heat)).1
  have htb := (heatEntry_kept (b := s.isRunning) (now := s.now) (r := r) (h := s.heat)).1
  unfold judgeAndPost
  rw [State.withHeat_heat, hjudged, htb]
  cases hmet : metAtEntry r s.heat.tb
  · rw [enteredHeat_of_not_met hmet]
    rfl
  · rw [enteredHeat_of_met hmet]
    rfl

/-! ### The stirring fields and the lock (R129, R148) -/

/-- R129: the Stir Unit takes the stirring fields of a step entered. -/
theorem stirEntered_stirEntry (r : StepRecord) (st : Stir) : stirEntered r st (stirEntry r st) := by
  have hturn : segmentDirection r.direction r.pattern 0 = r.direction := by
    rw [← segmentTurns_eq]
    simp [segmentTurns]
  unfold stirEntered stirEntry checkReversal
  simp only [hturn, segmentOn_eq]
  simp

/-- R148: the demand under a wish for the lock. -/
theorem decideDemand_wished {now : Nat} {l : Lid} (hw : l.wish = true) :
    (decideDemand now l).demand = .locked ↔ l.demand = .locked ∨ l.lidOpen = false := by
  unfold decideDemand wantedDemand
  rw [hw]
  cases l.lidOpen <;> cases hd : l.demand <;> simp [hd]

theorem decideDemand_feedback (now : Nat) (l : Lid) : (decideDemand now l).feedback = l.feedback := by
  unfold decideDemand
  split <;> rfl

/-- R29, R147: the lock is held once a wish for it is told exactly where it is ready. -/
theorem lockReady_iff (s : State) :
    (lockHeld (tellWish true s).lid = true ∧ ¬ s.asserts .lidOpen = true) ↔ s.lockReady = true := by
  have hheld : lockHeld (tellWish true s).lid = true ↔ s.lid.feedback = some true
      ∧ (s.lid.demand = .locked ∨ s.lid.wish = false ∧ s.lid.lidOpen = false) := by
    unfold tellWish
    by_cases hw : s.lid.wish = true
    · simp [hw, lockHeld, and_comm]
    · simp [hw, lockHeld, decideDemand_feedback, decideDemand_wished, and_comm]
  rw [hheld]
  simp [State.lockReady, and_assoc, and_comm]

/-! ### The handovers of an entry (R33, step 4) -/

@[simp] theorem enteredHeat_boilHold (b : Bool) (now : Nat) (r : StepRecord) (h : Heat) :
    (enteredHeat b now r h).boilHold = h.boilHold := heatEntry_kept.2

theorem tellWish_lid_congr {w : Bool} {s t : State} (hl : t.lid = s.lid) (hn : t.now = s.now) :
    (tellWish w t).lid = (tellWish w s).lid := by
  unfold tellWish
  rw [hl, hn]
  split
  · exact hl
  · rfl

section
variable (r : StepRecord) (u : State)

/-- R33, step 4: the Heat Unit handed over and judged. -/
def heatHandedOver : State := judgeAndPost ((syncHold u).withHeat (heatEntry u.isRunning u.now r (syncHold u).heat))

theorem handOver_eq :
    handOver r u = syncWish ((heatHandedOver r u).withStir (stirEntry r (heatHandedOver r u).stir)) := rfl

theorem heatHandedOver_eq : heatHandedOver r u
    = if metAtEntry r u.heat.tb = true
      then post (.tempReached u.liveIndex u.heat.tb)
        ((syncHold u).withHeat (enteredHeat u.isRunning u.now r (syncHold u).heat))
      else (syncHold u).withHeat (enteredHeat u.isRunning u.now r (syncHold u).heat) :=
  judgeAndPost_heatEntry r (syncHold u)

theorem heatHandedOver_reach : Touches [.heat, .notices] u (heatHandedOver r u) := by
  rw [heatHandedOver_eq]
  have hfields := ((syncHold_touches u).trans
    (withHeat_touches (enteredHeat u.isRunning u.now r (syncHold u).heat) _)).mono (us := [.heat, .notices]) (by decide)
  exact Touches.ite _ (hfields.trans ((post_touches _ _).mono (by decide))) hfields

theorem handOver_heat : (handOver r u).heat = enteredHeat u.isRunning u.now r (syncHold u).heat := by
  have hwish : (handOver r u).heat = (heatHandedOver r u).heat := syncWish_touches _ .heat (by decide)
  rw [hwish, heatHandedOver_eq]
  split <;> rfl

theorem handOver_stir : (handOver r u).stir = stirEntry r u.stir := by
  have hwish : (handOver r u).stir = stirEntry r (heatHandedOver r u).stir := syncWish_touches _ .stir (by decide)
  have hheat : (heatHandedOver r u).stir = u.stir := heatHandedOver_reach r u .stir (by decide)
  rw [hwish, hheat]

theorem handOver_lid : (handOver r u).lid = (tellWish (wantsLock u) u).lid := by
  have hengine : (heatHandedOver r u).engine = u.engine := heatHandedOver_reach r u .engine (by decide)
  have hwants : wantsLock ((heatHandedOver r u).withStir (stirEntry r (heatHandedOver r u).stir)) = wantsLock u := by
    simp only [wantsLock, State.isRunning, State.phase, State.withStir_engine, hengine]
  rw [handOver_eq, syncWish, hwants]
  exact tellWish_lid_congr (heatHandedOver_reach r u .lid (by decide)) (heatHandedOver_reach r u .now (by decide))

theorem handOver_notices : (handOver r u).notices
    = (if metAtEntry r u.heat.tb = true then post (.tempReached u.liveIndex u.heat.tb) u else u).notices := by
  have hwish : (handOver r u).notices = (heatHandedOver r u).notices := syncWish_touches _ .notices (by decide)
  rw [hwish, heatHandedOver_eq]
  split <;> rfl

end

/-! ### The context of a step entered (R28) -/

/-- R28, R41, R42: the phases that a step begins in. -/
theorem initialPhase_eq {r : StepRecord} {fallen : Bool} (hf : fallen = true → r.kind = .dose) :
    initialPhase r fallen = if waitsForPerson r fallen then (.waitConfirm, none) else (.locking, some (firstPhase r)) := by
  unfold initialPhase waitsForPerson firstPhase
  cases hk : r.kind with
  | cook =>
    have hno : fallen = false := by
      by_contra hc
      rw [hk] at hf
      exact absurd (hf (by simpa using hc)) (by decide)
    cases hs : r.start <;> simp [hno]
  | dose => cases fallen <;> simp
  | prompt => simp

/-- R28: the phase that a step is entered in, before step 6 of R33. -/
def entryWait (r : StepRecord) (fallen : Bool) : Phase := if waitsForPerson r fallen then .waitConfirm else .locking

theorem newLive_eq {i : Nat} {r : StepRecord} {fallen : Bool} {tb : Int} (now : Nat) (hf : fallen = true → r.kind = .dose) :
    newLive i r fallen tb = enteredLive i r fallen (entryWait r fallen) tb now := by
  unfold newLive enteredLive entryWait
  rw [initialPhase_eq hf]
  cases waitsForPerson r fallen <;> rfl

theorem fallsBack_dose {s : State} {r : StepRecord} (hf : s.fallsBack r = true) : r.kind = .dose :=
  of_decide_eq_true (Bool.and_eq_true_iff.mp hf).1

/-! ### The entry (R33, steps 1 to 5) -/

/-- The engine with the context of step `i` new. -/
def withNewLive (i : Nat) (r : StepRecord) (s : State) : State :=
  s.withEngine { s.engine with live := some (newLive i r (s.fallsBack r) s.conv.tb) }

/-- R33, steps 1 to 5: the step entered, before R34. -/
def steppedInto (i : Nat) (r : StepRecord) (s : State) : State :=
  announceStep i r (s.fallsBack r) (handOver r (withNewLive i r s))

/-- R33: what steps 1 to 5 leave of `s` in `v` as step `i` with record `r` is entered. -/
structure Entered (i : Nat) (r : StepRecord) (s v : State) : Prop where
  engine : v.engine = { s.engine with
    live := some (enteredLive i r (s.fallsBack r) (entryWait r (s.fallsBack r)) s.conv.tb s.now) }
  reach : Touches engineReach s v
  heat : heatEntered s.isRunning s.now r s.heat v.heat
  hold : v.heat.boilHold = (s.isRunning && s.asserts .boil && decide (r.boil = .hold))
  stir : stirEntered r s.stir v.stir
  wish : v.lid.wish = (s.isRunning && !waitsForPerson r (s.fallsBack r))
  ready : s.isRunning = true → waitsForPerson r (s.fallsBack r) = false →
    ((lockHeld v.lid = true ∧ ¬ v.asserts .lidOpen = true) ↔ s.lockReady = true)
  notices : v.notices = (entryNotices i r (s.fallsBack r) s.heat.tb s).notices

section
variable {i : Nat} {r : StepRecord} {s : State}

theorem withNewLive_reach : Touches [.engine] s (withNewLive i r s) := withEngine_touches _ s

theorem withNewLive_live : (withNewLive i r s).engine.live
    = some (enteredLive i r (s.fallsBack r) (entryWait r (s.fallsBack r)) s.conv.tb s.now) :=
  congrArg some (newLive_eq s.now fallsBack_dose)

theorem withNewLive_wantsLock : wantsLock (withNewLive i r s) = (s.isRunning && !waitsForPerson r (s.fallsBack r)) := by
  have hphase := phase_of_live (withNewLive_live (i := i) (r := r) (s := s))
  unfold wantsLock
  rw [hphase]
  refine congrArg (s.isRunning && ·) ?_
  unfold enteredLive entryWait
  cases waitsForPerson r (s.fallsBack r) <;> rfl

theorem steppedInto_reach : Touches engineReach s (steppedInto i r s) :=
  ((withNewLive_reach.mono (by decide)).trans (handOver_touches r _)).trans ((announceStep_touches i r _ _).mono (by decide))

theorem steppedInto_notices : (steppedInto i r s).notices = (entryNotices i r (s.fallsBack r) s.heat.tb s).notices := by
  have hover : (handOver r (withNewLive i r s)).notices
      = (if metAtEntry r s.heat.tb then post (.tempReached (some i) s.heat.tb) s else s).notices := by
    rw [handOver_notices]
    cases h : metAtEntry r s.heat.tb
    · rw [if_neg (by rw [show metAtEntry r (withNewLive i r s).heat.tb = false from h]; decide)]
      rfl
    · rw [if_pos (show metAtEntry r (withNewLive i r s).heat.tb = true from h)]
      rfl
  have hwaits : (r.kind = .prompt ∨ s.fallsBack r = true) ↔ waitsForPerson r (s.fallsBack r) = true := by
    simp [waitsForPerson]
  unfold steppedInto announceStep entryNotices
  simp only [hwaits]
  split
  · exact post_notices_congr _ (post_notices_congr _ hover)
  · exact post_notices_congr _ hover

/-- R33: what steps 1 to 5 leave. -/
theorem entered_steppedInto (hr : s.plan.steps[i]? = some r) : Entered i r s (steppedInto i r s) where
  engine := by
    unfold steppedInto
    rw [announceStep_engine, handOver_engine, withNewLive, newLive_eq s.now fallsBack_dose]
    rfl
  reach := steppedInto_reach
  heat := by
    have hheat : (steppedInto i r s).heat = _ := announceStep_touches i r _ _ .heat (by decide)
    rw [hheat, handOver_heat]
    exact heatEntered_enteredHeat (h := (syncHold (withNewLive i r s)).heat)
  hold := by
    have hheat : (steppedInto i r s).heat = _ := announceStep_touches i r _ _ .heat (by decide)
    rw [hheat, handOver_heat, enteredHeat_boilHold]
    exact boilHolds_of_live withNewLive_live hr
  stir := by
    have hstir : (steppedInto i r s).stir = _ := announceStep_touches i r _ _ .stir (by decide)
    rw [hstir, handOver_stir]
    exact stirEntered_stirEntry r s.stir
  wish := by
    have hlid : (steppedInto i r s).lid = _ := announceStep_touches i r _ _ .lid (by decide)
    rw [hlid, handOver_lid, tellWish_wish, withNewLive_wantsLock]
  ready := by
    intro hrun hwaits
    have hlid : (steppedInto i r s).lid = _ := announceStep_touches i r _ _ .lid (by decide)
    have hmon : (steppedInto i r s).mon = s.mon := steppedInto_reach .mon (by decide)
    rw [hlid, handOver_lid, withNewLive_wantsLock, hrun, hwaits, State.asserts, hmon]
    exact lockReady_iff (withNewLive i r s)
  notices := steppedInto_notices

end

/-! ### The first phase (R29, R30, R33, step 6) -/

section
variable {i : Nat} {r : StepRecord} {s v : State}

theorem Entered.live (h : Entered i r s v) : v.engine.live
    = some (enteredLive i r (s.fallsBack r) (entryWait r (s.fallsBack r)) s.conv.tb s.now) := by rw [h.engine]

theorem Entered.asserts (h : Entered i r s v) (d : Detector) : v.asserts d = s.asserts d := by
  have hmon : v.mon = s.mon := h.reach .mon (by decide)
  rw [State.asserts, State.asserts, hmon]

theorem Entered.isRunning (h : Entered i r s v) : v.isRunning = s.isRunning := by
  rw [State.isRunning, State.isRunning, h.engine]

theorem Entered.record (h : Entered i r s v) (hr : s.plan.steps[i]? = some r) : v.plan.steps[i]? = some r := by
  have hplan : v.plan = s.plan := h.reach .plan (by decide)
  rw [hplan, hr]

theorem Entered.reached (h : Entered i r s v) : v.heat.reached = metAtEntry r s.heat.tb := by
  obtain ⟨-, -, -, -, -, -, hreached, -⟩ := h.heat
  exact hreached

/-- R30: the checks of a step just entered move its phase alone. -/
theorem enteredLive_checked {fallen : Bool} {ph q : Phase} {tb : Int} {now : Nat} (hp : ph ≠ .locking) (hs : ph ≠ .settle)
    (hq : q ≠ .locking) (hqs : q ≠ .settle) :
    { enteredLive i r fallen ph tb now with phase := q } = enteredLive i r fallen q tb now := by
  simp [enteredLive, hp, hs, hq, hqs]

/-- R30: a step entered in a working phase is checked there, with its step clock at 0. -/
theorem Entered.comeIntoPhase_checked (h : Entered i r s v) (hr : s.plan.steps[i]? = some r) {ph : Phase}
    (hp : ph ≠ .locking) (hs : ph ≠ .settle) :
    comeIntoPhase (v.withEngine { s.engine with live := some (enteredLive i r (s.fallsBack r) ph s.conv.tb s.now) })
      = (v.withEngine { s.engine with live := some (enteredLive i r (s.fallsBack r)
          (checkedPhase r ph 0 (metAtEntry r s.heat.tb) (s.asserts .boil)).1 s.conv.tb s.now) },
        (checkedPhase r ph 0 (metAtEntry r s.heat.tb) (s.asserts .boil)).2) := by
  have hcheck := Machine.comeIntoPhase_checked
    (s := v.withEngine { s.engine with live := some (enteredLive i r (s.fallsBack r) ph s.conv.tb s.now) })
    (l := enteredLive i r (s.fallsBack r) ph s.conv.tb s.now) (r := r) rfl (h.record hr) hp hs
  have hboil : (v.withEngine { s.engine with live := some (enteredLive i r (s.fallsBack r) ph s.conv.tb s.now) }).asserts .boil
      = s.asserts .boil := h.asserts .boil
  rw [State.withEngine_heat, h.reached, hboil] at hcheck
  rw [hcheck]
  exact congrArg (fun l => (v.withEngine { s.engine with live := some l }, _))
    (enteredLive_checked hp hs (checkedPhase_ne_locking hp) (checkedPhase_ne_settle hs))

/-- R28, R29, R33, step 6: the phase and the end event of a step entered while RUNNING. -/
theorem Entered.comeIn (h : Entered i r s v) (hr : s.plan.steps[i]? = some r) (hrun : s.isRunning = true) :
    comeIn v = (v.withEngine { s.engine with live := some (enteredLive i r (s.fallsBack r)
        (entryPhase r (s.fallsBack r) true s.lockReady (metAtEntry r s.heat.tb) (s.asserts .boil)).1 s.conv.tb s.now) },
      (entryPhase r (s.fallsBack r) true s.lockReady (metAtEntry r s.heat.tb) (s.asserts .boil)).2) := by
  have hself : v = v.withEngine { s.engine with
      live := some (enteredLive i r (s.fallsBack r) (entryWait r (s.fallsBack r)) s.conv.tb s.now) } := by
    rw [← h.engine]
    rfl
  have hphase : v.phase = some (entryWait r (s.fallsBack r)) := phase_of_live h.live
  unfold Machine.comeIn entryPhase
  cases hwaits : waitsForPerson r (s.fallsBack r)
  · have hlocking : entryWait r (s.fallsBack r) = .locking := by simp [entryWait, hwaits]
    rw [hphase, hlocking, if_pos rfl]
    unfold comeIntoLocking
    cases hready : s.lockReady
    · rw [if_neg (by rw [h.ready hrun hwaits, hready]; decide)]
      conv_lhs => rw [hself, hlocking]
      rfl
    · rw [if_pos ((h.ready hrun hwaits).mpr hready), passLocking_of_live h.live, h.engine, hlocking]
      by_cases hdose : r.kind = .dose
      · have hfirst : firstPhase r = .settle := if_pos hdose
        have hnow : v.now = s.now := h.reach .now (by decide)
        rw [comeIntoPhase_settle rfl hfirst]
        simp [Live.unlocked, enteredLive, hdose, hfirst, hnow, settlePeriod]
      · have hfirst : firstPhase r ≠ .locking ∧ firstPhase r ≠ .settle := by
          unfold firstPhase
          rw [if_neg hdose]
          split <;> decide
        have hout : (enteredLive i r (s.fallsBack r) .locking s.conv.tb s.now).unlocked
            = enteredLive i r (s.fallsBack r) (firstPhase r) s.conv.tb s.now := by
          simp [Live.unlocked, enteredLive, hfirst]
        have hcheck := h.comeIntoPhase_checked hr hfirst.1 hfirst.2
        rw [hout]
        simp only [Bool.and_self, hdose, if_true, if_false, Bool.false_eq_true]
        exact hcheck
  · have hconfirm : entryWait r (s.fallsBack r) = .waitConfirm := by simp [entryWait, hwaits]
    rw [hphase, hconfirm, if_neg (by decide)]
    conv_lhs => rw [hself, hconfirm]
    exact h.comeIntoPhase_checked hr (by decide) (by decide)

/-! ### R34 -/

/-- R34: a step entered that does not trip. -/
theorem enterStep_calm (hc : s.asserts .probeB = false ∨ r.heatMode = .off) : enterStep i r s = steppedInto i r s := by
  have hmon : (steppedInto i r s).mon = s.mon := steppedInto_reach .mon (by decide)
  refine if_neg fun ⟨hp, hheat⟩ => hc.elim (fun hno => ?_) hheat
  have hp' : (steppedInto i r s).asserts .probeB = true := hp
  rw [State.asserts, hmon] at hp'
  exact Bool.false_ne_true (hno.symm.trans hp')

/-- R34: a heated step entered while PROBE_FAULT_B is asserted. -/
theorem enterStep_trips (hp : s.asserts .probeB = true) (hheat : r.heatMode ≠ .off) :
    enterStep i r s = enterTripped .probeB (steppedInto i r s) := by
  have hmon : (steppedInto i r s).mon = s.mon := steppedInto_reach .mon (by decide)
  refine if_pos ⟨?_, hheat⟩
  change (steppedInto i r s).asserts .probeB = true
  rw [State.asserts, hmon]
  exact hp

end

/-! ### A step begun (R33, R35) -/

/-- R28 to R30, R33, step 6: the phase of a step entered from `s` once its entry is done, with the end event found. -/
def entryOf (r : StepRecord) (s : State) : Phase × Option StepEnd :=
  entryPhase r (s.fallsBack r) s.isRunning s.lockReady (metAtEntry r s.heat.tb) (s.asserts .boil)

/-- R33: the live step once its entry is done. -/
def begunLive (i : Nat) (r : StepRecord) (s : State) : Live :=
  enteredLive i r (s.fallsBack r) (entryOf r s).1 s.conv.tb s.now

/-- R33: a step entered that does not trip, brought into its first phase where RUNNING. -/
def stepBegun (i : Nat) (r : StepRecord) (s : State) : State :=
  if s.isRunning then settleOutcome (comeIn (steppedInto i r s)) else steppedInto i r s

section
variable {i : Nat} {r : StepRecord} {s : State}

theorem stepBegun_running (hr : s.plan.steps[i]? = some r) (hrun : s.isRunning = true) :
    stepBegun i r s = settleOutcome
      ((steppedInto i r s).withEngine { s.engine with live := some (begunLive i r s) }, (entryOf r s).2) := by
  unfold stepBegun begunLive entryOf
  rw [if_pos hrun, (entered_steppedInto hr).comeIn hr hrun, hrun]

/-- R33: a step begun that no check ends. -/
theorem stepBegun_goes_on (hr : s.plan.steps[i]? = some r) (hn : (entryOf r s).2 = none) :
    stepBegun i r s = (steppedInto i r s).withEngine { s.engine with live := some (begunLive i r s) } := by
  cases hrun : s.isRunning
  · have hphase : (entryOf r s).1 = entryWait r (s.fallsBack r) := by
      unfold entryOf entryPhase entryWait
      rw [hrun]
      cases waitsForPerson r (s.fallsBack r) <;> rfl
    have hengine := (entered_steppedInto hr).engine
    rw [← hphase] at hengine
    unfold stepBegun begunLive
    rw [← hengine, hrun]
    rfl
  · rw [stepBegun_running hr hrun, hn, settleOutcome_none]

/-- R33, R58: a step begun that a phase entry check ends at once. -/
theorem stepBegun_ends (hr : s.plan.steps[i]? = some r) {e : StepEnd} (hn : (entryOf r s).2 = some e) :
    ∃ more, (stepBegun i r s).engine.log = s.engine.log ++ logEntryOf (begunLive i r s) r e :: more := by
  cases hrun : s.isRunning
  · have hnone : (entryOf r s).2 = none := by
      unfold entryOf entryPhase
      rw [hrun]
      cases waitsForPerson r (s.fallsBack r) <;> rfl
    rw [hnone] at hn
    cases hn
  · rw [stepBegun_running hr hrun, hn, settleOutcome_some]
    exact endStep_log (s := (steppedInto i r s).withEngine { s.engine with live := some (begunLive i r s) }) rfl
      ((entered_steppedInto hr).record hr)

end

/-! ### The end of a step (R35) -/

section
variable {e : StepEnd} {l : Live} {r r' : StepRecord} {s : State} (hl : s.engine.live = some l)
include hl

/-- R35: with no step above it the live step's end ends the run. -/
theorem endStep_last (hnone : s.plan.steps[l.index + 1]? = none) : endStep e s = enterEnded .completed (closeStep e s) := by
  have hdrop : s.plan.steps.drop (l.index + 1) = [] := List.drop_eq_nil_of_le (List.getElem?_eq_none_iff.mp hnone)
  rw [endStep, hl]
  dsimp only
  rw [hdrop, endStepAt]

/-- R35: what is left of the plan as the live step ends begins with the step above it. -/
theorem endStep_next (hnext : s.plan.steps[l.index + 1]? = some r') :
    endStep e s = endStepAt (r' :: s.plan.steps.drop (l.index + 2)) l.index e s := by
  obtain ⟨hlt, hget⟩ := List.getElem?_eq_some_iff.mp hnext
  have hdrop : s.plan.steps.drop (l.index + 1) = r' :: s.plan.steps.drop (l.index + 2) := by
    rw [List.drop_eq_getElem_cons hlt, hget]
  simp only [endStep, hl, hdrop]

variable (hr : s.plan.steps[l.index]? = some r) (hnext : s.plan.steps[l.index + 1]? = some r')
include hr hnext

theorem closeStep_record : (closeStep e s).plan.steps[l.index + 1]? = some r' := by
  rw [closeStep_of_live hl hr]
  exact hnext

/-- R35: the step above the one that ends is begun. -/
theorem endStep_calm (hc : s.asserts .probeB = false ∨ r'.heatMode = .off) :
    endStep e s = stepBegun (l.index + 1) r' (closeStep e s) := by
  have hrecord := closeStep_record (e := e) hl hr hnext
  have hentered := entered_steppedInto hrecord
  have hcalm : enterStep (l.index + 1) r' (closeStep e s) = steppedInto (l.index + 1) r' (closeStep e s) :=
    enterStep_calm (hc.imp_left fun hp => by rw [closeStep_of_live hl hr]; exact hp)
  rw [endStep_next hl hnext, endStepAt, hcalm, hentered.isRunning]
  cases hrun : (closeStep e s).isRunning
  · unfold stepBegun
    rw [hrun]
    rfl
  · have hsteps : (steppedInto (l.index + 1) r' (closeStep e s)).plan = s.plan := by
      have hplan : (closeStep e s).plan = s.plan := by
        rw [closeStep_of_live hl hr]
        rfl
      exact (hentered.reach .plan (by decide)).trans hplan
    rw [stepBegun_running hrecord hrun, hentered.comeIn hrecord hrun]
    have hentry : entryOf r' (closeStep e s) = entryPhase r' ((closeStep e s).fallsBack r') true (closeStep e s).lockReady
        (metAtEntry r' (closeStep e s).heat.tb) ((closeStep e s).asserts .boil) := by rw [entryOf, hrun]
    unfold begunLive
    rw [← hentry]
    cases (entryOf r' (closeStep e s)).2 with
    | none => rfl
    | some e' =>
      rw [if_pos rfl, settleOutcome_some, ← hsteps]
      rfl

/-- R34, R35: a heated step entered under PROBE_FAULT_B trips. -/
theorem endStep_trips (hp : s.asserts .probeB = true) (hheat : r'.heatMode ≠ .off) :
    endStep e s = enterTripped .probeB (steppedInto (l.index + 1) r' (closeStep e s)) := by
  have htrips : enterStep (l.index + 1) r' (closeStep e s)
      = enterTripped .probeB (steppedInto (l.index + 1) r' (closeStep e s)) :=
    enterStep_trips (by rw [closeStep_of_live hl hr]; exact hp) hheat
  rw [endStep_next hl hnext, endStepAt, htrips, State.isRunning, enterTripped_engine]
  rfl

end

end Sys2Proof.Machine
end

section
/-! PROOFS. SKIP_STEP and CONFIRM (O18). -/

namespace Sys2Proof.Machine

/-! ### What a step's entry looks at -/

/-- `c` reads as `s` in all that a step's entry looks at, but for the engine, the plan and the time. -/
structure SameUnits (s c : State) : Prop where
  conv : c.conv = s.conv
  status : c.scale.status = s.scale.status
  heat : c.heat = s.heat
  stir : c.stir = s.stir
  mon : c.mon = s.mon
  lid : c.lid = s.lid

section
variable {s c : State} (h : SameUnits s c)
include h

theorem SameUnits.asserts (d : Detector) : c.asserts d = s.asserts d := by rw [State.asserts, State.asserts, h.mon]

theorem SameUnits.fallsBack (r : StepRecord) : c.fallsBack r = s.fallsBack r := by
  rw [State.fallsBack, State.fallsBack, h.status]

theorem SameUnits.lockReady : c.lockReady = s.lockReady := by
  rw [State.lockReady, State.lockReady, h.lid, h.asserts]

theorem SameUnits.entryOf (r : StepRecord) : entryOf r c
    = entryPhase r (s.fallsBack r) c.isRunning s.lockReady (metAtEntry r s.heat.tb) (s.asserts .boil) := by
  unfold Machine.entryOf
  rw [h.fallsBack, h.lockReady, h.heat, h.asserts]

end

theorem entryNotices_congr {i : Nat} {r : StepRecord} {f : Bool} {tb : Int} {s t : State} (h : t.notices = s.notices) :
    (entryNotices i r f tb t).notices = (entryNotices i r f tb s).notices := by
  have hmet : (if metAtEntry r tb then post (.tempReached (some i) tb) t else t).notices
      = (if metAtEntry r tb then post (.tempReached (some i) tb) s else s).notices := by
    split
    · exact post_notices_congr _ h
    · exact h
  unfold entryNotices
  dsimp only
  split
  · exact post_notices_congr _ (post_notices_congr _ hmet)
  · exact post_notices_congr _ hmet

/-- R33: what `t` holds of a step entered from `c` that no check ended, by `s`, which reads as `c` to the entry. -/
structure Begun (i : Nat) (r : StepRecord) (ph : Phase) (s c t : State) : Prop where
  engine : t.engine = { c.engine with live := some (enteredLive i r (s.fallsBack r) ph s.conv.tb c.now) }
  heat : heatEntered c.isRunning c.now r s.heat t.heat
  hold : t.heat.boilHold = (c.isRunning && s.asserts .boil && decide (r.boil = .hold))
  stir : stirEntered r s.stir t.stir
  wish : t.lid.wish = (c.isRunning && !waitsForPerson r (s.fallsBack r))
  notices : t.notices = (entryNotices i r (s.fallsBack r) s.heat.tb c).notices

section
variable {i : Nat} {r : StepRecord} {s c : State} (h : SameUnits s c) (hr : c.plan.steps[i]? = some r)
include h hr

/-- R33: steps 1 to 5 leave a step begun in the phase in which it waits. -/
theorem begun_steppedInto : Begun i r (entryWait r (s.fallsBack r)) s c (steppedInto i r c) := by
  obtain ⟨hengine, -, hheat, hhold, hstir, hwish, -, hnotices⟩ := entered_steppedInto hr
  rw [h.fallsBack, h.conv] at hengine
  rw [h.heat] at hheat
  rw [h.asserts] at hhold
  rw [h.stir] at hstir
  rw [h.fallsBack] at hwish
  rw [h.fallsBack, h.heat] at hnotices
  exact ⟨hengine, hheat, hhold, hstir, hwish, hnotices⟩

theorem begun_stepBegun (hn : (entryOf r c).2 = none) : Begun i r (entryOf r c).1 s c (stepBegun i r c) := by
  have hlive : begunLive i r c = enteredLive i r (s.fallsBack r) (entryOf r c).1 s.conv.tb c.now := by
    rw [begunLive, h.fallsBack, h.conv]
  obtain ⟨-, hheat, hhold, hstir, hwish, hnotices⟩ := begun_steppedInto h hr
  rw [stepBegun_goes_on hr hn, hlive]
  exact ⟨rfl, hheat, hhold, hstir, hwish, hnotices⟩

theorem stepBegun_log {e : StepEnd} (hn : (entryOf r c).2 = some e) : ∃ more, (stepBegun i r c).engine.log
    = c.engine.log ++ logEntryOf (enteredLive i r (s.fallsBack r) (entryOf r c).1 s.conv.tb c.now) r e :: more := by
  obtain ⟨more, hmore⟩ := stepBegun_ends hr hn
  rw [begunLive, h.fallsBack, h.conv] at hmore
  exact ⟨more, hmore⟩

end

/-! ### The end of the live step, seen from the state before it -/

/-- R35: the live step closed, with all that its end and the next entry look at. -/
structure Closed (e : StepEnd) (l : Live) (r : StepRecord) (s c : State) : Prop where
  same : SameUnits s c
  engine : c.engine = { s.engine with log := s.engine.log ++ [logEntryOf l r e] }
  notices : c.notices = (post (.stepEnded l.index e r.tag) s).notices
  plan : c.plan = s.plan

theorem closed_closeStep {e : StepEnd} {l : Live} {r : StepRecord} {s u : State} (hl : u.engine.live = some l)
    (hr : u.plan.steps[l.index]? = some r) (hu : Touches [.panel, .link, .now] s u) : Closed e l r s (closeStep e u) := by
  have hscale : u.scale = s.scale := hu .scale (by decide)
  have hengine : u.engine = s.engine := hu .engine (by decide)
  rw [closeStep_of_live hl hr]
  refine ⟨⟨hu .conv (by decide), congrArg Scale.status hscale, hu .heat (by decide), hu .stir (by decide),
    hu .mon (by decide), hu .lid (by decide)⟩, ?_, post_notices_congr _ (hu .notices (by decide)), hu .plan (by decide)⟩
  rw [post_engine, State.withEngine_engine, hengine]

section
variable {e : StepEnd} {l : Live} {r r' : StepRecord} {s c : State} (h : Closed e l r s c)
include h

theorem Closed.isRunning : c.isRunning = decide (s.engine.state = .running) := by rw [State.isRunning, h.engine]

theorem Closed.record {i : Nat} (hr : s.plan.steps[i]? = some r') : c.plan.steps[i]? = some r' := by
  rw [h.plan]
  exact hr

theorem Closed.entryOf (r' : StepRecord) : entryOf r' c = entryPhase r' (s.fallsBack r') (decide (s.engine.state = .running))
    s.lockReady (metAtEntry r' s.heat.tb) (s.asserts .boil) := by
  rw [← h.isRunning]
  exact h.same.entryOf r'

/-- R35: the run that ends with its last step. -/
theorem Closed.completes :
    (enterEnded .completed c).engine = { s.engine with
        state := .ended, live := none, causes := { request := false, lid := false, permit := false }, trips := 0,
        firstTrip := none, endReason := some .completed, log := s.engine.log ++ [logEntryOf l r e] }
      ∧ (enterEnded .completed c).undriven = true
      ∧ (enterEnded .completed c).notices
        = (post (.engineState .ended none 1) (post (.stepEnded l.index e r.tag) s)).notices := by
  obtain ⟨hheat, hstir, -, hnotices⟩ := enterEnded_rest .completed c
  refine ⟨?_, undriven_of_off ?_ hstir, hnotices.trans (post_notices_congr _ h.notices)⟩
  · rw [enterEnded_engine, h.engine]
    rfl
  · rw [hheat]
    exact ⟨rfl, rfl, rfl, rfl, rfl⟩

/-- R34: the step above, entered under PROBE_FAULT_B, trips in the phase in which it waits. -/
theorem Closed.trips {i : Nat} (hr : s.plan.steps[i]? = some r') :
    (enterTripped .probeB (steppedInto i r' c)).engine = { s.engine with
        state := .tripped, causes := { request := false, lid := false, permit := false },
        trips := Detector.probeB.set, firstTrip := some .probeB, log := s.engine.log ++ [logEntryOf l r e]
        live := some (enteredLive i r' (s.fallsBack r') (entryWait r' (s.fallsBack r')) s.conv.tb c.now) }
      ∧ (∃ x, heatEntered (decide (s.engine.state = .running)) c.now r' s.heat x
          ∧ (enterTripped .probeB (steppedInto i r' c)).heat = heatForcedOff c.now x)
      ∧ (∃ x, stirEntered r' s.stir x ∧ (enterTripped .probeB (steppedInto i r' c)).stir = { x with applied := 0 })
      ∧ (enterTripped .probeB (steppedInto i r' c)).lid.wish = false
      ∧ (enterTripped .probeB (steppedInto i r' c)).notices = (post (.engineState .tripped (some i) 6)
          (post (.trip Detector.probeB.set .probeB)
            (entryNotices i r' (s.fallsBack r') s.heat.tb (post (.stepEnded l.index e r.tag) s)))).notices := by
  obtain ⟨hengine, hheat, -, hstir, -, hnotices⟩ := begun_steppedInto h.same (h.record hr)
  obtain ⟨hheatT, hstirT, hwishT, hnoticesT⟩ := enterTripped_rest .probeB (steppedInto i r' c)
  rw [steppedInto_reach .now (by decide)] at hheatT
  rw [h.isRunning] at hheat
  refine ⟨?_, ⟨_, hheat, hheatT⟩, ⟨_, hstir, hstirT⟩, hwishT, ?_⟩
  · rw [enterTripped_engine, hengine, h.engine]
    unfold entryWait
    cases waitsForPerson r' (s.fallsBack r') <;> rfl
  · refine hnoticesT.trans ?_
    rw [hengine]
    exact post_notices_congr _ (post_notices_congr _ (hnotices.trans (entryNotices_congr h.notices)))

end

/-! ### SKIP_STEP and CONFIRM -/

/-- R38, R48: the request whose acceptance ends the live step with `e`. -/
def endsLiveStep (r : Request) (e : StepEnd) (s : State) : Prop :=
  panelRequestOnly r = false ∧ ∀ p, serveRequest p r s = accepted (endStep e s)

theorem endsLiveStep_skip {l : Live} {s : State} (hl : s.engine.live = some l)
    (hs : s.engine.state = .running ∨ s.engine.state = .paused) : endsLiveStep (.skipStep l.index) .skipped s := by
  refine ⟨rfl, fun p => ?_⟩
  have hindex : s.liveIndex = some l.index := by rw [State.liveIndex, hl]; rfl
  obtain hs | hs := hs
  all_goals simp [serveRequest, serveSkipStep, hs, hindex]

theorem endsLiveStep_confirm {l : Live} {r : StepRecord} {s : State} (hl : s.engine.live = some l)
    (hr : s.plan.steps[l.index]? = some r) (hs : s.engine.state = .running) (hp : l.phase ≠ .locking)
    (hc : r.exits.confirm = true ∨ l.fallenBack = true) : endsLiveStep (.confirm l.index) .confirm s := by
  refine ⟨rfl, fun p => ?_⟩
  have hindex : s.liveIndex = some l.index := by rw [State.liveIndex, hl]; rfl
  have hphase : s.phase ≠ some .locking := by
    rw [phase_of_live hl]
    exact fun h => hp (Option.some_inj.mp h)
  have htakes : takesConfirm s = true := by
    rw [takesConfirm_eq, liveRecord_of_live hl, hr, hl]
    simpa using hc
  simp [serveRequest, serveConfirm, hs, hindex, hphase, htakes]

/-- R38, R48: an accepted SKIP_STEP or CONFIRM is one end of the live step. -/
theorem exec_endsLiveStep {p : Port} {tag : Byte} {r : Request} {e : StepEnd} {s : State} {dt : Nat}
    (h : s.admits p = true) (hends : endsLiveStep r e (heldState p r.kind tag (s.after dt))) :
    ∃ t, exec (r.command dt p tag) s = .next t ∧ Answered p r.kind tag { result := .ok, clamped := false, body := [] } s
      (endStep e (heldState p r.kind tag (s.after dt))) t := by
  obtain ⟨hport, hserve⟩ := hends
  exact exec_answered h (.inl hport) (hserve p) (endStep_touches _ _)

theorem undriven_congr {s t : State} (hh : t.heat = s.heat) (hs : t.stir = s.stir) : t.undriven = s.undriven := by
  rw [Bool.eq_iff_iff, State.undriven_iff, State.undriven_iff, hh, hs]

theorem held_reach (p : Port) (k tag : Byte) (dt : Nat) (s : State) :
    Touches [.panel, .link, .now] s (heldState p k tag (s.after dt)) :=
  ((after_touches dt s).mono (by decide)).trans ((heldState_touches p k tag _).mono (by cases p <;> decide))

/-- Settles O18: the live step is closed, and the run ends or the step above it is begun. -/
theorem skipAndConfirmEndTheStep : Obligations.SkipAndConfirmEndTheStep := by
  unfold Obligations.SkipAndConfirmEndTheStep
  intro dt p tag kind instr e l r s hadm hl hr hcase
  obtain ⟨req, rfl, rfl, hends⟩ : ∃ req : Request, instr = req.command dt p tag ∧ kind = req.kind
      ∧ endsLiveStep req e (heldState p req.kind tag (s.after dt)) := by
    obtain ⟨rfl, rfl, rfl, hs⟩ | ⟨rfl, rfl, rfl, hs, hp, hc⟩ := hcase
    · exact ⟨.skipStep l.index, rfl, rfl, endsLiveStep_skip (by simpa using hl) (by simpa using hs)⟩
    · exact ⟨.confirm l.index, rfl, rfl, endsLiveStep_confirm (r := r) (by simpa using hl) (by simpa using hr)
        (by simpa using hs) hp hc⟩
  obtain ⟨t, hexec, hans⟩ := exec_endsLiveStep hadm hends
  have hreach := held_reach p req.kind tag dt s
  have hnow : (heldState p req.kind tag (s.after dt)).now = s.now + dt := by simp
  generalize heldState p req.kind tag (s.after dt) = u at hans hreach hnow
  have hlive : u.engine.live = some l := by rw [hreach .engine (by decide)]; exact hl
  have hplan : u.plan = s.plan := hreach .plan (by decide)
  have hrecord : u.plan.steps[l.index]? = some r := by rw [hplan]; exact hr
  have hmon : u.mon = s.mon := hreach .mon (by decide)
  have hclosed := closed_closeStep (e := e) hlive hrecord hreach
  have hcnow : (closeStep e u).now = s.now + dt := by
    rw [closeStep_of_live hlive hrecord]
    exact hnow
  obtain ⟨more, hlog⟩ := endStep_log (e := e) hlive hrecord
  rw [hreach .engine (by decide)] at hlog
  refine ⟨t, more, hexec, (congrArg Engine.log (hans.reach .engine (by decide))).trans hlog, hans.reply, hans.plan,
    hans.conv, hans.scale, hans.mon, hans.permit, hans.store, fun hnone => ?_,
    fun r' hnext => ⟨fun hcalm => ?_, fun hp hheat => ?_⟩⟩
  · rw [endStep_last hlive (by rw [hplan]; exact hnone)] at hans
    obtain ⟨hengine, hundriven, hnotices⟩ := hclosed.completes
    exact ⟨(hans.reach .engine (by decide)).trans hengine,
      (undriven_congr (hans.reach .heat (by decide)) (hans.reach .stir (by decide))).trans hundriven,
      (hans.reach .notices (by decide)).trans hnotices⟩
  · have hbegun := endStep_calm (e := e) hlive hrecord (by rw [hplan]; exact hnext) (hcalm.imp_left fun hp => by
      rw [State.asserts, hmon]
      exact hp)
    rw [hbegun] at hans hlog
    dsimp only
    rw [← hclosed.entryOf r']
    refine ⟨fun hn => ?_, fun e' hn => ?_⟩
    · obtain ⟨hengine, hheat, hhold, hstir, hwish, hnotices⟩ := begun_stepBegun hclosed.same (hclosed.record hnext) hn
      rw [hclosed.isRunning] at hheat hhold hwish
      rw [hans.reach .engine (by decide), hans.reach .heat (by decide), hans.reach .stir (by decide),
        hans.reach .lid (by decide), hans.reach .notices (by decide), hengine, hclosed.engine, ← hcnow]
      exact ⟨rfl, hheat, hhold, hstir, hwish, hnotices.trans (entryNotices_congr hclosed.notices)⟩
    · obtain ⟨more', hmore⟩ := stepBegun_log hclosed.same (hclosed.record hnext) hn
      refine ⟨more', ?_⟩
      rw [hmore, hclosed.engine, hcnow] at hlog
      simpa using hlog.symm
  · rw [endStep_trips hlive hrecord (by rw [hplan]; exact hnext) (by rw [State.asserts, hmon]; exact hp) hheat] at hans
    have htrips := hclosed.trips hnext
    rw [hcnow] at htrips
    rw [hans.reach .engine (by decide), hans.reach .heat (by decide), hans.reach .stir (by decide),
      hans.reach .lid (by decide), hans.reach .notices (by decide)]
    exact htrips

end Sys2Proof.Machine
end

section
/-! PROOFS. START_RUN (O14). -/

namespace Sys2Proof.Machine

/-! ### The pending capture a run ends (R101) -/

theorem endCapture_scale (x : Result) (s : State) : (endCapture x s).scale = { s.scale with pendingCapture := none } := by
  unfold endCapture
  cases hc : s.scale.pendingCapture with
  | none =>
    dsimp only
    rw [← hc]
  | some c => exact answerPending_touches _ _ _ .scale (by decide)

/-- R101: a capture is answered on the panel. -/
theorem endCapture_reach (x : Result) (s : State) : Touches [.scale, .panel] s (endCapture x s) := by
  unfold endCapture
  split
  · refine ((withScale_touches { s.scale with pendingCapture := none } s).mono (by decide)).trans ?_
    unfold answerPending
    split
    · exact (formReply_touches .panel _ _ _ _).mono (by decide)
    · exact Touches.refl _ _
  · exact Touches.refl _ s

theorem endCapture_none {x : Result} {s : State} (hc : s.scale.pendingCapture = none) : endCapture x s = s := by
  simp [endCapture, hc]

theorem endCapture_answers {x : Result} {s : State} {m : PendingCapture} {q : ReqId} (hc : s.scale.pendingCapture = some m)
    (hq : s.panel.buffer = some q) :
    (endCapture x s).panel = (formReply .panel q.kind q.tag { result := x, clamped := false, body := [] } s).panel := by
  simp only [endCapture, hc, answerPending, State.port, State.withScale_panel, hq]
  rfl

/-! ### The run begun (R50) -/

/-- R27, R50: the RUNNING engine on its fresh run record, ENGINE_STATE posted, before its start step is entered. -/
def runAnnounced (i : Nat) (s : State) : State := post (.engineState .running (some i) 0) (freshRun s)

theorem runAnnounced_reach (i : Nat) (s : State) : Touches [.scale, .panel, .engine, .notices] s (runAnnounced i s) :=
  (((endCapture_reach .aborted s).mono (by decide)).trans ((withEngine_touches _ _).mono (by decide))).trans
    ((post_touches _ _).mono (by decide))

theorem runAnnounced_engine (i : Nat) (s : State) : (runAnnounced i s).engine = { s.engine with
    state := .running, live := none, causes := CauseSet.none, trips := 0, firstTrip := none, endReason := none,
    runClock := 0, log := [] } := by
  have hengine : (endCapture .aborted s).engine = s.engine := endCapture_reach .aborted s .engine (by decide)
  unfold runAnnounced freshRun
  rw [hengine]
  rfl

theorem runAnnounced_scale (i : Nat) (s : State) : (runAnnounced i s).scale = { s.scale with pendingCapture := none } :=
  endCapture_scale .aborted s

theorem runAnnounced_notices (i : Nat) (s : State) :
    (runAnnounced i s).notices = (post (.engineState .running (some i) 0) s).notices :=
  post_notices_congr _ (endCapture_reach .aborted s .notices (by decide))

theorem stepBegun_touches (i : Nat) (r : StepRecord) (s : State) : Touches engineReach s (stepBegun i r s) := by
  unfold stepBegun
  split
  · exact steppedInto_reach.trans (settleOutcome_touches ((comeIn_touches _).mono reach_engine))
  · exact steppedInto_reach

/-- R50: a run whose start step does not trip. -/
theorem beginRun_calm {i : Nat} {r : StepRecord} {s : State} (hc : s.asserts .probeB = false ∨ r.heatMode = .off) :
    beginRun i r s = stepBegun i r (runAnnounced i s) := by
  have hmon : (runAnnounced i s).mon = s.mon := runAnnounced_reach i s .mon (by decide)
  have hcalm : enterStep i r (runAnnounced i s) = steppedInto i r (runAnnounced i s) :=
    enterStep_calm (hc.imp_left fun hp => by rw [State.asserts, hmon]; exact hp)
  have hrun : (runAnnounced i s).isRunning = true := by
    rw [State.isRunning, runAnnounced_engine]
    rfl
  have hstill : (steppedInto i r (runAnnounced i s)).isRunning = true := by
    unfold steppedInto
    rw [State.isRunning, announceStep_engine, handOver_engine]
    exact hrun
  rw [beginRun_eq, ← runAnnounced, hcalm, if_pos hstill, stepBegun, if_pos hrun]

/-- R50: an accepted START_RUN. -/
theorem serveStartRun_accepted {rev idx : Nat} {r : StepRecord} {s : State} (hrun : s.inRun = false)
    (hload : s.loadInFlight = false) (hrev : rev = s.plan.revision) (hr : s.plan.steps[idx]? = some r)
    (harm : s.permit.state = .armed) (hlid : s.asserts .lidOpen = false) (hbowl : s.asserts .bowlAbsent = false)
    (htrip : tripAsserted (decide (r.heatMode ≠ .off)) s = false) :
    serveStartRun rev idx s
      = (beginRun idx r s, some (okWith (le16 rev ++ indexByte (beginRun idx r s).liveIndex))) := by
  have hplan : (beginRun idx r s).plan = s.plan := beginRun_touches idx r s .plan (by decide)
  subst hrev
  simp only [serveStartRun, hrun, hload, hr, harm, hlid, hbowl, htrip, hplan, ne_eq, not_true_eq_false, if_false,
    Bool.false_eq_true]

/-- R192: an accepted START_RUN with its reply. -/
theorem exec_startRun {p : Port} {tag : Byte} {dt rev idx : Nat} {r : StepRecord} {s : State} (hadm : s.admits p = true)
    (hrun : s.inRun = false) (hload : s.loadInFlight = false) (hrev : rev = s.plan.revision)
    (hr : s.plan.steps[idx]? = some r) (harm : s.permit.state = .armed) (hlid : s.asserts .lidOpen = false)
    (hbowl : s.asserts .bowlAbsent = false) (htrip : tripAsserted (decide (r.heatMode ≠ .off)) s = false) :
    exec (.startRun dt p tag rev idx) s = .next (formReply p 0x20 tag
      { result := .ok, clamped := false,
        body := le16 rev ++ byte ((beginRun idx r (heldState p 0x20 tag (s.after dt))).liveIndex.getD 255) }
      (beginRun idx r (heldState p 0x20 tag (s.after dt)))) := by
  refine (exec_served (r := .startRun rev idx) hadm (.inl rfl) dt tag).trans ?_
  have haccepted : serveStartRun rev idx (heldState p 0x20 tag (s.after dt)) = _ :=
    serveStartRun_accepted (by simpa using hrun) (by simpa using hload) (by simpa using hrev) (by simpa using hr)
      (by simpa using harm) (by simpa using hlid) (by simpa using hbowl) (by
        rw [tripAsserted_eq] at htrip ⊢
        simpa using htrip)
  exact congrArg (fun v => Host.Outcome.next (conclude p 0x20 tag v)) haccepted

theorem sameUnits_runAnnounced {i : Nat} {s u : State} (h : Touches [.panel, .link, .now] s u) :
    SameUnits s (runAnnounced i u) := by
  have hc := runAnnounced_reach i u
  have hstatus : u.scale.status = s.scale.status := congrArg Scale.status (h .scale (by decide))
  refine ⟨(hc .conv (by decide)).trans (h .conv (by decide)), ?_, (hc .heat (by decide)).trans (h .heat (by decide)),
    (hc .stir (by decide)).trans (h .stir (by decide)), (hc .mon (by decide)).trans (h .mon (by decide)),
    (hc .lid (by decide)).trans (h .lid (by decide))⟩
  rw [runAnnounced_scale]
  exact hstatus

/-- What a START_RUN can change. -/
def runReach : List Block := [.panel, .link, .now, .scale, .engine, .heat, .stir, .lid, .notices]

theorem runBegun_reach {i : Nat} {s u x : State} (h : Touches [.panel, .link, .now] s u)
    (hx : Touches engineReach (runAnnounced i u) x) : Touches runReach s x :=
  ((h.mono (by decide)).trans ((runAnnounced_reach i u).mono (by decide))).trans (hx.mono (by decide))

theorem liveIndex_formReply (p : Port) (k tag : Byte) (a : Answer) (s : State) :
    (formReply p k tag a s).liveIndex = s.liveIndex := by
  cases p <;> rfl

theorem runBegun_port {c x : State} {p : Port} (hx : Touches engineReach c x) : x.port p = c.port p := by
  cases p
  · exact hx .panel (by decide)
  · exact hx .link (by decide)

/-- R101: a run begun reaches no port but the panel's, and that one only to answer a capture. -/
theorem runAnnounced_port {i : Nat} {p : Port} {u : State} (h : p = .link ∨ u.scale.pendingCapture = none) :
    (runAnnounced i u).port p = u.port p := by
  obtain rfl | hnone := h
  · exact runAnnounced_reach i u .link (by decide)
  · have hsame : runAnnounced i u = post (.engineState .running (some i) 0) (u.withEngine { u.engine with
        state := .running, live := none, causes := CauseSet.none, trips := 0, firstTrip := none, endReason := none,
        runClock := 0, log := [] }) := by
      rw [runAnnounced, freshRun, endCapture_none hnone]
    rw [hsame]
    cases p <;> rfl

/-- Settles O14: the capture ended, the run announced and its start step begun, then the reply. -/
theorem startRunEntersTheStartStep : Obligations.StartRunEntersTheStartStep := by
  unfold Obligations.StartRunEntersTheStartStep
  intro dt p tag rev idx r s hadm hrun hload hrev hr harm hlid hbowl hlock hover hdry hstall hprobeC hprobeB
  have hnow : (heldState p 0x20 tag (s.after dt)).now = s.now + dt := by simp
  have hserved := exec_startRun (dt := dt) (tag := tag) hadm hrun hload hrev hr harm hlid hbowl (by
    rw [tripAsserted_eq, hlock, hover, hdry, hstall, hprobeC]
    obtain hp | hp := hprobeB
    · simp [hp]
    · simp [hp])
  have hreach := held_reach p 0x20 tag dt s
  have hown : (heldState p 0x20 tag (s.after dt)).port p = _ := held_own_port p 0x20 tag (s.after dt)
  have hbuffer := heldState_touches p 0x20 tag (s.after dt)
  generalize heldState p 0x20 tag (s.after dt) = u at hserved hreach hnow hown hbuffer
  have hbegun : beginRun idx r u = stepBegun idx r (runAnnounced idx u) := by
    refine beginRun_calm (hprobeB.imp_left fun hp => ?_)
    have hmon : u.mon = s.mon := hreach .mon (by decide)
    rw [State.asserts, hmon]
    exact hp
  rw [hbegun] at hserved
  have hsame := sameUnits_runAnnounced (i := idx) hreach
  have hrunning : (runAnnounced idx u).isRunning = true := by
    rw [State.isRunning, runAnnounced_engine]
    rfl
  have hrecord : (runAnnounced idx u).plan.steps[idx]? = some r := by
    have hplan : (runAnnounced idx u).plan = s.plan :=
      (runAnnounced_reach idx u .plan (by decide)).trans (hreach .plan (by decide))
    rw [hplan]
    exact hr
  have hcnow : (runAnnounced idx u).now = s.now + dt := (runAnnounced_reach idx u .now (by decide)).trans hnow
  have hentry := hsame.entryOf r
  rw [hrunning] at hentry
  dsimp only
  rw [← hentry]
  obtain ⟨x, hx⟩ : ∃ x, x = stepBegun idx r (runAnnounced idx u) := ⟨_, rfl⟩
  rw [← hx] at hserved
  have hstep : Touches engineReach (runAnnounced idx u) x := hx ▸ stepBegun_touches idx r _
  have hreply := formReply_touches p 0x20 tag
    { result := .ok, clamped := false, body := le16 rev ++ byte (x.liveIndex.getD 255) } x
  have hlast := hreply.mono (us := [.panel, .link]) (by cases p <;> decide)
  have hall := ((runBegun_reach hreach hstep).trans (hlast.mono (by decide)))
  refine ⟨_, hserved, ?_, hall .plan (by decide), hall .conv (by decide), hall .mon (by decide), hall .permit (by decide),
    hall .store (by decide), fun hcase => ?_, fun m q hp hm hq => ?_, fun hn => ?_, fun e hn => ?_⟩
  · have hscale : u.scale = s.scale := hreach .scale (by decide)
    rw [hlast .scale (by decide), hstep .scale (by decide), runAnnounced_scale, hscale]
  · have hport : x.port p = u.port p := (runBegun_port hstep).trans
      (runAnnounced_port (hcase.imp_right fun hnone => by rw [hreach .scale (by decide)]; exact hnone))
    rw [liveIndex_formReply]
    refine formReply_own_port ?_
    rw [hport, hown]
    rfl
  · subst hp
    have hpanel : u.panel = s.panel := hbuffer .panel (by decide)
    have hcapture : u.scale.pendingCapture = some m := by rw [hreach .scale (by decide)]; exact hm
    have hanswer := endCapture_answers (x := .aborted) hcapture (hpanel ▸ hq)
    refine (hreply .panel (by decide)).trans ((hstep .panel (by decide)).trans (hanswer.trans ?_))
    exact formReply_own_port (p := .panel) (congrArg PortState.overrun hpanel)
  · rw [hlast .engine (by decide), hlast .heat (by decide), hlast .stir (by decide), hlast .lid (by decide),
      hlast .notices (by decide)]
    obtain ⟨hengine, hheat, hhold, hstir, hwish, hnotices⟩ := begun_stepBegun hsame hrecord hn
    rw [← hx] at hengine hheat hhold hstir hwish hnotices
    rw [hrunning, hcnow] at hheat
    rw [hrunning, Bool.true_and] at hhold hwish
    refine ⟨?_, hheat, hhold, hstir, hwish, hnotices.trans (entryNotices_congr ?_)⟩
    · have huengine : u.engine = s.engine := hreach .engine (by decide)
      rw [hengine, runAnnounced_engine, huengine, hcnow]
      rfl
    · exact (runAnnounced_notices idx u).trans (post_notices_congr _ (hreach .notices (by decide)))
  · obtain ⟨more, hmore⟩ := stepBegun_log hsame hrecord hn
    refine ⟨more, ?_⟩
    rw [hlast .engine (by decide), hx, hmore, runAnnounced_engine, hcnow]
    rfl

end Sys2Proof.Machine
end

section
/-! PROOFS. RESUME (O16). -/

namespace Sys2Proof.Machine

/-! ### The phase a paused step goes back to (R47) -/

/-- R47: the working phase behind a paused step. -/
def resumeWork (l : Live) : Phase := if l.phase = .locking then l.returnPhase.getD .locking else l.phase

/-- R29, R30, R47: the phase of the step once the run is resumed from `s`, with the end event found. -/
def resumeFinds (r : StepRecord) (l : Live) (s : State) : Phase × Option StepEnd :=
  if l.phase ≠ .waitConfirm ∧ s.lockReady = false then (Phase.locking, none)
  else if resumeWork l = .settle then (.settle, none)
  else checkedPhase r (resumeWork l) l.active s.heat.reached (s.asserts .boil)

/-- R47: the live step once the run is resumed from `s`. -/
def resumedLive (r : StepRecord) (l : Live) (s : State) : Live :=
  { l with
    phase := (resumeFinds r l s).1
    returnPhase := if (resumeFinds r l s).1 = .locking then some (resumeWork l) else none
    settleBy := if (resumeFinds r l s).1 = .settle then some (s.now + 5000000) else l.settleBy
    reference := if (resumeFinds r l s).1 = .settle then none else l.reference }

section
variable {x : Plan} {l : Live} (h : LiveOk x l)
include h

theorem LiveOk.returnPhase_none (hp : l.phase ≠ .locking) : l.returnPhase = none := by
  rw [← Option.not_isSome_iff_eq_none, h.ret]
  exact hp

theorem LiveOk.resumeWork_ne_locking : resumeWork l ≠ .locking := by
  unfold resumeWork
  split
  next hp =>
    obtain ⟨ph, hph⟩ := Option.isSome_iff_exists.mp (h.ret.mpr hp)
    rw [hph]
    exact fun hc => h.notLocking (hph.trans (congrArg some hc))
  next hp => exact hp

/-- R47: a step that does not wait for the person goes back through LOCKING. -/
theorem LiveOk.resumePhase_locking (hp : l.phase ≠ .waitConfirm) :
    resumePhase l = { l with phase := .locking, returnPhase := some (resumeWork l) } := by
  unfold resumePhase resumeWork
  cases hl : l.phase
  case locking =>
    obtain ⟨ph, hph⟩ := Option.isSome_iff_exists.mp (h.ret.mpr hl)
    cases l
    subst hl hph
    rfl
  case waitConfirm => exact absurd hl hp
  all_goals rfl

omit h in
theorem resumePhase_waitConfirm (hp : l.phase = .waitConfirm) : resumePhase l = l := by
  unfold resumePhase
  rw [hp]

end

/-! ### The run back in RUNNING, before its step is brought into a phase -/

/-- R47, R111: RUNNING with no cause, the countdown running on. -/
def setRunning (s : State) : State :=
  (s.withEngine { s.engine with
    state := .running, causes := CauseSet.none, live := s.engine.live.map resumePhase }).withHeat
      { s.heat with countdown := thawCountdown s.now s.heat.countdown }

/-- R47: the boil hold and the lock wish told and ENGINE_STATE posted. -/
def backRunning (s : State) : State := postEngineState (syncWish (syncHold (setRunning s)))

theorem resumeRun_eq (s : State) : resumeRun s = settleOutcome (comeIn (backRunning s)) := rfl

/-- R27, R47, R111: what the change to RUNNING leaves of `s` in `u`, whose live step is `l`. -/
structure Back (l : Live) (r : StepRecord) (s u : State) : Prop where
  engine : u.engine = { s.engine with state := .running, causes := CauseSet.none, live := some (resumePhase l) }
  reach : Touches engineReach s u
  heat : u.heat = { s.heat with
    boilHold := s.asserts .boil && decide (r.boil = .hold), countdown := thawCountdown s.now s.heat.countdown }
  stir : u.stir = s.stir
  lid : u.lid = (tellWish (!decide (l.phase = .waitConfirm)) s).lid
  notices : u.notices = (post (.engineState .running (some l.index) 0) s).notices

theorem resumePhase_index (l : Live) : (resumePhase l).index = l.index := by
  unfold resumePhase
  split <;> rfl

theorem resumePhase_waits (l : Live) : (resumePhase l).phase = .waitConfirm ↔ l.phase = .waitConfirm := by
  unfold resumePhase
  cases hp : l.phase <;> simp [hp]

section
variable {l : Live} {r : StepRecord} {s : State} (hl : s.engine.live = some l)
include hl

theorem setRunning_live : (setRunning s).engine.live = some (resumePhase l) := by
  change s.engine.live.map resumePhase = _
  rw [hl]
  rfl

theorem setRunning_wantsLock : wantsLock (setRunning s) = !decide (l.phase = .waitConfirm) := by
  have hphase := phase_of_live (setRunning_live hl)
  simp only [wantsLock, hphase, ← resumePhase_waits l]
  cases (resumePhase l).phase <;> rfl

theorem back_backRunning (hr : s.plan.steps[l.index]? = some r) : Back l r s (backRunning s) where
  engine := by
    unfold backRunning
    rw [postEngineState_engine, syncWish_engine, syncHold_engine, ← setRunning_live hl]
    rfl
  reach := ((((withEngine_touches _ s).mono reach_engine).trans ((withHeat_touches _ _).mono reach_heat)).trans
    (((syncHold_touches _).mono reach_heat).trans ((syncWish_touches _).mono reach_lid))).trans
      ((postEngineState_touches _).mono reach_notices)
  heat := by
    have hhold := boilHolds_of_live (setRunning_live hl) (r := r) (by rw [resumePhase_index]; exact hr)
    have hheat : (backRunning s).heat = (syncHold (setRunning s)).heat := syncWish_touches _ .heat (by decide)
    rw [hheat, syncHold, hhold]
    rfl
  stir := by
    have hstir : (backRunning s).stir = (syncHold (setRunning s)).stir := syncWish_touches _ .stir (by decide)
    exact hstir
  lid := by
    have hlid : (backRunning s).lid = (tellWish (wantsLock (setRunning s)) (syncHold (setRunning s))).lid := rfl
    rw [hlid, setRunning_wantsLock hl]
    exact tellWish_lid_congr rfl rfl
  notices := by
    have hposted : (syncWish (syncHold (setRunning s))).notices = s.notices := syncWish_touches _ .notices (by decide)
    refine (postEngineState_notices (u := syncWish (syncHold (setRunning s))) (e := (setRunning s).engine)
      (syncWish_engine _) hposted).trans ?_
    rw [setRunning_live hl, Option.map_some, resumePhase_index]
    rfl

end

/-! ### The phase it comes into -/

section
variable {l : Live} {r : StepRecord} {s u : State} (h : Back l r s u) (hr : s.plan.steps[l.index]? = some r)
include h hr

/-- R30: the resumed step in a working phase is checked there. -/
theorem Back.comeIntoPhase_checked {q : Live} (hi : q.index = l.index) (hp : q.phase ≠ .locking) (hs : q.phase ≠ .settle) :
    comeIntoPhase (u.withEngine { u.engine with live := some q })
      = (u.withEngine { u.engine with live := some { q with
          phase := (checkedPhase r q.phase q.active s.heat.reached (s.asserts .boil)).1 } },
        (checkedPhase r q.phase q.active s.heat.reached (s.asserts .boil)).2) := by
  have hplan : u.plan = s.plan := h.reach .plan (by decide)
  have hmon : u.mon = s.mon := h.reach .mon (by decide)
  have hreached : u.heat.reached = s.heat.reached := by rw [h.heat]
  have hboil : u.asserts .boil = s.asserts .boil := by rw [State.asserts, State.asserts, hmon]
  rw [comeIntoPhase_checked_live (by rw [hi, hplan]; exact hr) hp hs, hreached, hboil]

/-- R29, R30, R47: the phase and the end event of the resumed step. -/
theorem Back.comeIn (hl : LiveOk s.plan l) :
    comeIn u = (u.withEngine { u.engine with live := some (resumedLive r l s) }, (resumeFinds r l s).2) := by
  have hlive : u.engine.live = some (resumePhase l) := by rw [h.engine]
  have hself : u = u.withEngine { u.engine with live := some (resumePhase l) } := by
    rw [← hlive]
    rfl
  have hmon : u.mon = s.mon := h.reach .mon (by decide)
  unfold Machine.comeIn resumedLive resumeFinds
  rw [phase_of_live hlive]
  by_cases hp : l.phase = .waitConfirm
  · have hwork : resumeWork l = .waitConfirm := by simp [resumeWork, hp]
    have hsame := resumePhase_waitConfirm hp
    have hnone := hl.returnPhase_none (by rw [hp]; decide)
    have hck := checkedPhase_ne_locking (r := r) (n := l.active) (reached := s.heat.reached) (boiling := s.asserts .boil)
      (ph := .waitConfirm) (by decide)
    have hcs := checkedPhase_ne_settle (r := r) (n := l.active) (reached := s.heat.reached) (boiling := s.asserts .boil)
      (ph := .waitConfirm) (by decide)
    rw [hsame, hp, if_neg (by decide)]
    conv_lhs => rw [hself, hsame]
    rw [h.comeIntoPhase_checked hr rfl (by rw [hp]; decide) (by rw [hp]; decide), hp]
    simp [hwork, hck, hcs, hnone]
  · have hlocking := hl.resumePhase_locking hp
    have hready : (lockHeld u.lid = true ∧ ¬ u.asserts .lidOpen = true) ↔ s.lockReady = true := by
      rw [h.lid, State.asserts, hmon, decide_eq_false hp]
      exact lockReady_iff s
    rw [hlocking, if_pos rfl]
    unfold comeIntoLocking
    cases hr' : s.lockReady
    · rw [if_neg (by rw [hready, hr']; decide)]
      conv_lhs => rw [hself, hlocking]
      simp [hp]
    · have hout : (resumePhase l).unlocked = { l with phase := resumeWork l, returnPhase := none } := by
        rw [hlocking]
        rfl
      rw [if_pos (hready.mpr hr'), passLocking_of_live hlive, hout]
      by_cases hs : resumeWork l = .settle
      · have hnow : u.now = s.now := h.reach .now (by decide)
        rw [comeIntoPhase_settle rfl hs]
        simp [hs, hnow, settlePeriod]
      · have hck := checkedPhase_ne_locking (r := r) (n := l.active) (reached := s.heat.reached)
          (boiling := s.asserts .boil) hl.resumeWork_ne_locking
        have hcs := checkedPhase_ne_settle (r := r) (n := l.active) (reached := s.heat.reached)
          (boiling := s.asserts .boil) hs
        rw [h.comeIntoPhase_checked hr (q := { l with phase := resumeWork l, returnPhase := none }) rfl
          hl.resumeWork_ne_locking hs]
        simp [hs, hck, hcs]

end

/-! ### RESUME -/

theorem resumeFinds_held (p : Port) (k tag : Byte) (r : StepRecord) (l : Live) (s : State) :
    resumeFinds r l (heldState p k tag s) = resumeFinds r l s := by
  have hready : (heldState p k tag s).lockReady = s.lockReady := by
    rw [State.lockReady, State.lockReady, held_lid, held_asserts]
  rw [resumeFinds, resumeFinds, hready, held_asserts, held_heat]

theorem resumedLive_held (p : Port) (k tag : Byte) (r : StepRecord) (l : Live) (s : State) :
    resumedLive r l (heldState p k tag s) = resumedLive r l s := by
  simp only [resumedLive, resumeFinds_held, held_now]

/-- R47: an accepted RESUME. -/
theorem serveResume_accepted {s : State} (hs : s.engine.state = .paused)
    (hc : s.engine.causes = { request := true, lid := false, permit := false }) (hbowl : s.asserts .bowlAbsent = false)
    (htrip : tripAsserted s.liveHeated s = false) : serveResume s = accepted (resumeRun s) := by
  simp only [serveResume, hs, hc, hbowl, htrip, ne_eq, not_true_eq_false, if_false, Bool.false_eq_true]

theorem liveHeated_of_live {s : State} {l : Live} {r : StepRecord} (hl : s.engine.live = some l)
    (hr : s.plan.steps[l.index]? = some r) : s.liveHeated = decide (r.heatMode ≠ .off) := by
  rw [State.liveHeated, liveRecord_of_live hl, hr]

/-- Settles O16: the run back in RUNNING, and its step brought into a phase. -/
theorem resumeGoesBackThroughLocking : Obligations.ResumeGoesBackThroughLocking := by
  unfold Obligations.ResumeGoesBackThroughLocking
  intro dt p tag l r s hadm hsafe hs hcauses hl hr hbowl hlock hover hdry hstall hprobeC hprobeB
  have hok : LiveOk s.plan l := ((State.runSafe_iff s).mp hsafe).step l hl
  have htrip : tripAsserted s.liveHeated s = false := by
    rw [tripAsserted_eq, liveHeated_of_live hl hr, hlock, hover, hdry, hstall, hprobeC]
    obtain hp | hp := hprobeB
    · simp [hp]
    · simp [hp]
  have hserve : serveRequest p .resume (heldState p 0x22 tag (s.after dt))
      = accepted (resumeRun (heldState p 0x22 tag (s.after dt))) := by
    refine serveResume_accepted (by simpa using hs) (by simpa using hcauses) (by simpa using hbowl) ?_
    rw [tripAsserted_eq] at htrip ⊢
    simpa using htrip
  obtain ⟨t, hexec, hans⟩ := exec_answered (r := .resume) hadm (.inl rfl) hserve (resumeRun_touches _)
  have hheld : LiveOk (heldState p 0x22 tag (s.after dt)).plan l := by simpa using hok
  have hrecord : (heldState p 0x22 tag (s.after dt)).plan.steps[l.index]? = some r := by simpa using hr
  have hback := back_backRunning (l := l) (by simpa using hl) hrecord
  have hrun := resumeRun_eq (heldState p 0x22 tag (s.after dt))
  rw [hback.comeIn hrecord hheld, resumeFinds_held, resumedLive_held] at hrun
  refine ⟨t, hexec, hans.reply, hans.plan, hans.conv, hans.scale, hans.mon, hans.permit, hans.store,
    fun hn => ?_, fun e hn => ?_⟩
  · have hgoes : (resumeFinds r l (s.after dt)).2 = none := hn
    rw [hgoes, settleOutcome_none] at hrun
    rw [hans.reach .engine (by decide), hans.reach .heat (by decide), hans.reach .stir (by decide),
      hans.reach .lid (by decide), hans.reach .notices (by decide), hrun]
    refine ⟨?_, ?_, ?_, ?_, ?_⟩
    · rw [State.withEngine_engine, hback.engine, held_engine]
      rfl
    · rw [State.withEngine_heat, hback.heat, held_heat, held_asserts, held_now]
      change { s.heat with
        boilHold := s.asserts .boil && decide (r.boil = BoilAction.hold)
        countdown := thawCountdown (s.now + dt) s.heat.countdown } = _
      cases s.heat.countdown <;> rfl
    · rw [State.withEngine_stir, hback.stir, held_stir]
      rfl
    · rw [State.withEngine_lid, hback.lid, tellWish_wish]
    · rw [State.withEngine_notices, hback.notices]
      exact post_notices_congr _ (held_notices p _ tag _)
  · have hends : (resumeFinds r l (s.after dt)).2 = some e := hn
    rw [hends, settleOutcome_some] at hrun
    have hplan : (backRunning (heldState p 0x22 tag (s.after dt))).plan
        = (heldState p 0x22 tag (s.after dt)).plan := hback.reach .plan (by decide)
    obtain ⟨more, hmore⟩ := endStep_log (e := e) (s := (backRunning (heldState p 0x22 tag (s.after dt))).withEngine
      { (backRunning (heldState p 0x22 tag (s.after dt))).engine with live := some (resumedLive r l (s.after dt)) })
      (l := resumedLive r l (s.after dt)) (r := r) rfl (by
        rw [State.withEngine_plan, hplan]
        exact hrecord)
    refine ⟨more, ?_⟩
    rw [hans.reach .engine (by decide), hrun, hmore, State.withEngine_engine, hback.engine, held_engine]
    rfl

end Sys2Proof.Machine
end

section
/-! PROOFS. What a weigh sample does to a DOSE step (O26). -/

namespace Sys2Proof.Machine

/-! ### A weigh sample at the Step Engine (R39, R40) -/

theorem sameUnits_of_touches {ts : List Block} {s c : State} (h : Touches ts s c) (hconv : .conv ∉ ts) (hscale : .scale ∉ ts)
    (hheat : .heat ∉ ts) (hstir : .stir ∉ ts) (hmon : .mon ∉ ts) (hlid : .lid ∉ ts) : SameUnits s c :=
  ⟨h .conv hconv, congrArg Scale.status (h .scale hscale), h .heat hheat, h .stir hstir, h .mon hmon, h .lid hlid⟩

/-- R40: the notices of a comparison at or past the target, before STEP_ENDED. -/
def doseNoted (l : Live) (added target10 : Int) (s : State) : State :=
  let near := if l.nearPosted then s else post (.doseNear l.index added) s
  if decide (target10 + max (target10 / 10) 50 < added) then post (.doseOver l.index added) near else near

/-- R40: the live step of a comparison at or past the target. -/
def Live.dosed (l : Live) (added target10 : Int) : Live :=
  { l with
    lastAdded := added, nearPosted := true
    flags := { l.flags with overdose := l.flags.overdose || decide (target10 + max (target10 / 10) 50 < added) } }

theorem doseNoted_reach (l : Live) (added target10 : Int) (s : State) : Touches [.notices] s (doseNoted l added target10 s) := by
  have hnear : Touches [.notices] s (if l.nearPosted then s else post (.doseNear l.index added) s) :=
    Touches.ite _ (Touches.refl _ s) (post_touches _ s)
  unfold doseNoted
  exact Touches.ite _ (hnear.trans (post_touches _ _)) hnear

section
variable {net : Int} {stable : Bool} {l : Live} {r : StepRecord} {s : State} (hl : s.engine.live = some l)
include hl

/-- R39: outside RUNNING a weigh sample reaches nothing. -/
theorem takeWeight_not_running (hs : s.engine.state ≠ .running) : takeWeight net stable s = s := by
  have hrun : s.isRunning = false := decide_eq_false hs
  unfold takeWeight
  rw [hl, hrun]
  cases s.liveRecord <;> rfl

variable (hr : s.plan.steps[l.index]? = some r) (hs : s.engine.state = .running)
include hr hs

theorem takeWeight_settle (hp : l.phase = .settle) :
    takeWeight net stable s = if stable then takeReference net false s else s := by
  have hrun : s.isRunning = true := decide_eq_true hs
  unfold takeWeight
  simp only [hl, liveRecord_of_live hl, hr, hrun, hp, if_true]

theorem takeWeight_dosing (hp : l.phase = .dosing) {ref : Int} (href : l.reference = some ref) {g : Nat}
    (hg : r.target = some g) : takeWeight net stable s = compareDose (net - ref) (10 * (g : Int)) l s := by
  have hrun : s.isRunning = true := decide_eq_true hs
  unfold takeWeight
  simp only [hl, liveRecord_of_live hl, hr, hrun, hp, href, hg, if_true]

omit hr hs in
theorem noteAdded_eq (added target10 : Int) : noteAdded added target10 l.index l s
    = if target10 * 9 / 10 ≤ added ∧ l.nearPosted = false then
        post (.doseNear l.index added) (s.withEngine { s.engine with
          live := some { l with lastAdded := added, nearPosted := true } })
      else s.withEngine { s.engine with live := some { l with lastAdded := added } } := by
  unfold noteAdded
  simp only [mapLive_of_live hl, Bool.not_eq_true]

omit hr hs in
/-- R40: past nine tenths of the target DOSE_NEAR stands posted. -/
theorem noteAdded_past {added target10 : Int} (hnine : target10 * 9 / 10 ≤ added) :
    noteAdded added target10 l.index l s
      = (if l.nearPosted then s else post (.doseNear l.index added) s).withEngine { s.engine with
          live := some { l with lastAdded := added, nearPosted := true } } := by
  rw [noteAdded_eq hl]
  cases hn : l.nearPosted
  · rw [if_pos ⟨hnine, rfl⟩]
    rfl
  · rw [if_neg (by simp), if_pos rfl]

omit hr hs in
/-- R40: at or past the target DOSE_NEAR and DOSE_OVER are posted, and the live step holds what was added. -/
theorem noteOverdose_eq {added target10 : Int} (h0 : 0 ≤ target10) (hle : target10 ≤ added) :
    noteOverdose added target10 l.index (noteAdded added target10 l.index l s)
      = (doseNoted l added target10 s).withEngine { s.engine with live := some (l.dosed added target10) } := by
  have hnine : target10 * 9 / 10 ≤ added := by omega
  unfold noteOverdose overdoseLimit doseNoted Live.dosed
  rw [noteAdded_past hl hnine]
  by_cases hover : target10 + max (target10 / 10) 50 < added
  · rw [if_pos hover, decide_eq_true hover, Bool.or_true]
    rfl
  · rw [if_neg hover, decide_eq_false hover, Bool.or_false]
    rfl

end

/-! ### The end with WEIGHT -/

/-- R40: the state in which a DOSE step at its target ends. -/
def weighedOut (l : Live) (added target10 : Int) (s : State) : State :=
  (doseNoted l added target10 s).withEngine { s.engine with live := some (l.dosed added target10) }

section
variable {l : Live} {r : StepRecord} {s : State} (added target10 : Int)

theorem weighedOut_reach : Touches [.engine, .notices] s (weighedOut l added target10 s) :=
  ((doseNoted_reach l added target10 s).mono (by decide)).trans ((withEngine_touches _ _).mono (by decide))

variable (hr : s.plan.steps[l.index]? = some r)
include hr

theorem weighedOut_record : (weighedOut l added target10 s).plan.steps[(l.dosed added target10).index]? = some r := by
  have hplan : (weighedOut l added target10 s).plan = s.plan := weighedOut_reach added target10 .plan (by decide)
  rw [hplan]
  exact hr

/-- R35, R58: the step that ends with WEIGHT closed. -/
theorem weighedOut_closed : closeStep .weight (weighedOut l added target10 s)
    = post (.stepEnded l.index .weight r.tag) ((weighedOut l added target10 s).withEngine { s.engine with
        live := some (l.dosed added target10)
        log := s.engine.log ++ [logEntryOf (l.dosed added target10) r .weight] }) :=
  closeStep_of_live (s := weighedOut l added target10 s) (l := l.dosed added target10) rfl (weighedOut_record added target10 hr)

theorem weighedOut_log : ∃ more, (endStep .weight (weighedOut l added target10 s)).engine.log
    = s.engine.log ++ logEntryOf (l.dosed added target10) r .weight :: more :=
  endStep_log (s := weighedOut l added target10 s) (l := l.dosed added target10) rfl (weighedOut_record added target10 hr)

/-- R35: a DOSE step with no step above it ends the run. -/
theorem weighedOut_last (hnone : s.plan.steps[l.index + 1]? = none) :
    (endStep .weight (weighedOut l added target10 s)).engine.state = .ended
      ∧ (endStep .weight (weighedOut l added target10 s)).notices = (post (.engineState .ended none 1)
          (post (.stepEnded l.index .weight r.tag) (doseNoted l added target10 s))).notices := by
  have hplan : (weighedOut l added target10 s).plan = s.plan := weighedOut_reach added target10 .plan (by decide)
  rw [endStep_last (s := weighedOut l added target10 s) (l := l.dosed added target10) rfl (by rw [hplan]; exact hnone),
    weighedOut_closed added target10 hr]
  obtain ⟨-, -, -, hnotices⟩ := enterEnded_rest .completed (post (.stepEnded l.index .weight r.tag)
    ((weighedOut l added target10 s).withEngine { s.engine with
      live := some (l.dosed added target10)
      log := s.engine.log ++ [logEntryOf (l.dosed added target10) r .weight] }))
  exact ⟨by rw [enterEnded_engine], hnotices⟩

/-- R33, R35: the step above a DOSE step is begun. -/
theorem weighedOut_next {r' : StepRecord} (hs : s.engine.state = .running) (hnext : s.plan.steps[l.index + 1]? = some r')
    (hc : s.asserts .probeB = false ∨ r'.heatMode = .off)
    (hn : (entryPhase r' (s.fallsBack r') true s.lockReady (metAtEntry r' s.heat.tb) (s.asserts .boil)).2 = none) :
    (endStep .weight (weighedOut l added target10 s)).liveIndex = some (l.index + 1)
      ∧ (endStep .weight (weighedOut l added target10 s)).notices = (entryNotices (l.index + 1) r' (s.fallsBack r') s.heat.tb
          (post (.stepEnded l.index .weight r.tag) (doseNoted l added target10 s))).notices := by
  have hplan : (weighedOut l added target10 s).plan = s.plan := weighedOut_reach added target10 .plan (by decide)
  have hmon : (weighedOut l added target10 s).mon = s.mon := weighedOut_reach added target10 .mon (by decide)
  have hbegun := endStep_calm (e := .weight) (s := weighedOut l added target10 s) (l := l.dosed added target10) rfl
    (weighedOut_record added target10 hr) (by rw [hplan]; exact hnext) (hc.imp_left fun hp => by
      rw [State.asserts, hmon]
      exact hp)
  have hclosed := weighedOut_closed added target10 hr
  have hreach : Touches [.engine, .notices] s (closeStep .weight (weighedOut l added target10 s)) := by
    rw [hclosed]
    exact ((weighedOut_reach added target10).trans ((withEngine_touches _ _).mono (by decide))).trans
      ((post_touches _ _).mono (by decide))
  have hsame : SameUnits s (closeStep .weight (weighedOut l added target10 s)) :=
    sameUnits_of_touches hreach (by decide) (by decide) (by decide) (by decide) (by decide) (by decide)
  have hrunning : (closeStep .weight (weighedOut l added target10 s)).isRunning = true := by
    rw [hclosed]
    exact decide_eq_true hs
  have hentry := hsame.entryOf r'
  rw [hrunning] at hentry
  have hrecord : (closeStep .weight (weighedOut l added target10 s)).plan.steps[l.index + 1]? = some r' := by
    rw [hreach .plan (by decide)]
    exact hnext
  have hbegins := begun_stepBegun hsame hrecord (hentry ▸ hn)
  have hindex : (l.dosed added target10).index = l.index := rfl
  rw [hbegun, hindex]
  refine ⟨?_, hbegins.notices.trans (entryNotices_congr ?_)⟩
  · rw [State.liveIndex, hbegins.engine]
    rfl
  · rw [hclosed]
    rfl

end

/-! ### The sample that ends a weigh group (R62, R80 to R87) -/

/-- R81 to R85: what the chain leaves of the scale. -/
theorem weighChain_eq (tc : Int) (x : Sample) (sc : Scale) : ∃ window gross net stable status,
    weighChain tc x sc = { sc with
      lastSeq := some x.seq, window := window, gross := gross, net := net, stable := stable, status := status } := by
  unfold weighChain
  split
  · exact ⟨_, _, _, _, _, rfl⟩
  · exact ⟨_, _, _, _, _, rfl⟩

/-- R84: the net that the chain forms. -/
theorem weighChain_net (tc : Int) (x : Sample) (sc : Scale) : (weighChain tc x sc).net
    = if sc.cal.span = 0 then 0 else (weighChain tc x sc).gross - sc.tare.headD 0 := by
  unfold weighChain
  split <;> rfl

/-- R80, R105: the chain, and SCALE_EVENT where the status changes. -/
def chained (x : Sample) (s : State) : State :=
  if (weighChain s.conv.tc x s.scale).status = s.scale.status then s.withScale (weighChain s.conv.tc x s.scale)
  else postScaleEvent (s.withScale (weighChain s.conv.tc x s.scale))

theorem chained_scale (x : Sample) (s : State) : (chained x s).scale = weighChain s.conv.tc x s.scale := by
  unfold chained
  split <;> rfl

theorem chained_reach (x : Sample) (s : State) : Touches [.scale, .notices] s (chained x s) := by
  have hscale := (withScale_touches (weighChain s.conv.tc x s.scale) s).mono (us := [.scale, .notices]) (by decide)
  unfold chained
  split
  · exact hscale
  · exact hscale.trans ((post_touches _ _).mono (by decide))

/-- R87: with no capture pending a sample goes from the detectors to the Step Engine and the pending tare. -/
theorem takeSample_eq {x : Sample} {s : State} (hc : s.scale.pendingCapture = none) :
    takeSample x s = tareSample x (takeWeight (bandInputs (chained x s)).scale.net (bandInputs (chained x s)).scale.stable
      (bandInputs (chained x s))) := by
  have hnone : (bandInputs (chained x s)).scale.pendingCapture = none := by
    obtain ⟨_, _, _, _, _, hchain⟩ := weighChain_eq s.conv.tc x s.scale
    rw [bandInputs_touches _ .scale (by decide), chained_scale, hchain]
    exact hc
  have hcapture : captureSample x (bandInputs (chained x s)) = bandInputs (chained x s) := by
    unfold captureSample
    rw [hnone]
  have htaken : takeSample x s = tareSample x (takeWeight (captureSample x (bandInputs (chained x s))).scale.net
      (captureSample x (bandInputs (chained x s))).scale.stable (captureSample x (bandInputs (chained x s)))) := rfl
  rw [htaken, hcapture]

theorem tareSample_none {x : Sample} {s : State} (h : s.scale.pendingTare = none) : tareSample x s = s := by
  unfold tareSample
  rw [h]

/-- R91: a pending tare leaves F and STABLE. -/
theorem tareSample_scale (x : Sample) (s : State) :
    (tareSample x s).scale.gross = s.scale.gross ∧ (tareSample x s).scale.stable = s.scale.stable := by
  unfold tareSample
  split
  · exact ⟨rfl, rfl⟩
  next p _ =>
    split
    · dsimp only
      rw [answerPending_touches _ _ _ .scale (by decide)]
      exact ⟨rfl, rfl⟩
    · exact ⟨rfl, rfl⟩

/-- R86: OVERLOAD reaches the Stir Unit alone. -/
theorem overloadInput_engine (q : Qualifies) (s : State) : (detectorInput .overload q s).engine = s.engine := by
  unfold detectorInput
  dsimp only
  split <;> rfl

/-- R51, R86: BOWL_ABSENT reaches the engine by an assertion in RUNNING alone. -/
theorem bowlAbsentInput_engine {q : Qualifies} {s : State}
    (h : ((detectorInput .bowlAbsent q s).mon.get .bowlAbsent).asserted = (s.mon.get .bowlAbsent).asserted
      ∨ s.engine.state ≠ .running) : (detectorInput .bowlAbsent q s).engine = s.engine := by
  obtain hsame | hs := h
  · rw [detectorInput_of_same hsame]
    rfl
  · cases hc : (countInput (setLength .bowlAbsent) (clearLength .bowlAbsent) q (s.mon.get .bowlAbsent)).2
    · rw [detectorInput_counts hc]
      rfl
    · rw [detectorInput_changes hc]
      cases s.asserts .bowlAbsent
      · have hnothing : takeTrip .bowlAbsent (conditionTold .bowlAbsent true s) = conditionTold .bowlAbsent true s := by
          refine takeTrip_nothing ?_
          change s.engine.state = .idle ∨ s.engine.state = .ended ∨ _ ∧ (s.engine.state = .paused ∨ s.engine.state = .tripped) ∨ _
          cases hstate : s.engine.state
          case running => exact absurd hstate hs
          all_goals simp
        refine Eq.trans (b := (takeTrip .bowlAbsent (conditionTold .bowlAbsent true s)).engine) rfl ?_
        rw [hnothing]
        rfl
      · rfl

section
variable {s : State}

/-- R87: the band inputs keep the engine, but for an assertion of BOWL_ABSENT in RUNNING. -/
theorem bandInputs_engine (h : (bandInputs s).asserts .bowlAbsent = s.asserts .bowlAbsent ∨ s.engine.state ≠ .running) :
    (bandInputs s).engine = s.engine := by
  unfold bandInputs at h ⊢
  split
  · rfl
  next hspan =>
    rw [if_neg hspan] at h
    have hengine := overloadInput_engine (aboveAsserts (bandOverload s.scale.gross)) s
    have hmon := detectorInput_get_ne (d := .overload) (d' := .bowlAbsent) (aboveAsserts (bandOverload s.scale.gross)) s
      (by decide)
    dsimp only at h ⊢
    rw [bowlAbsentInput_engine, hengine]
    rw [hengine, hmon]
    exact h

/-- R87, R150: band inputs by which neither detector changes count alone. -/
theorem bandInputs_counts (hb : (bandInputs s).asserts .bowlAbsent = s.asserts .bowlAbsent)
    (ho : (bandInputs s).asserts .overload = s.asserts .overload) : ∃ m, bandInputs s = s.withMon m := by
  unfold bandInputs at hb ho ⊢
  split
  · exact ⟨s.mon, rfl⟩
  next hspan =>
    rw [if_neg hspan] at hb ho
    dsimp only at hb ho ⊢
    have hover := detectorInput_get_ne (d := .bowlAbsent) (d' := .overload)
      (belowAsserts (bandAbsence s.scale.gross)) (detectorInput .overload (aboveAsserts (bandOverload s.scale.gross)) s)
      (by decide)
    have hbowl := detectorInput_get_ne (d := .overload) (d' := .bowlAbsent) (aboveAsserts (bandOverload s.scale.gross)) s
      (by decide)
    rw [State.asserts, hover] at ho
    rw [State.asserts, State.asserts, ← hbowl] at hb
    rw [detectorInput_of_same hb, detectorInput_of_same ho]
    exact ⟨_, rfl⟩

end

/-! ### The end of a weigh group -/

/-- R62, R70: EXC off and the sequence number taken, as a group that delivers its sample ends. -/
def groupEnded (s : State) : State := s.withConv { s.conv with exc := false, nextSeq := seqAfter s.conv.nextSeq }

/-- R87: the state in which a delivered sample reaches the Step Engine. -/
def weighDelivered (x : Sample) (s : State) : State := bandInputs (chained x (groupEnded s))

/-- R87: the Step Engine and a pending tare have taken the sample. -/
def weighTaken (x : Sample) (s : State) : State :=
  tareSample x (takeWeight (weighDelivered x s).scale.net (weighDelivered x s).scale.stable (weighDelivered x s))

theorem endWeigh_delivers {began : Nat} {c0 c1 c2 c3 : Int} {s : State} (hconv : s.conv.state = .weigh began)
    (hkeep : s.conv.weighDiscard = false) (hcap : s.scale.pendingCapture = none) :
    endWeigh c0 c1 c2 c3 s = (weighTaken (formSample c0 c1 c2 c3 s) s).withConv
      (afterWeigh (weighTaken (formSample c0 c1 c2 c3 s) s).conv) := by
  have hfinish : finishWeigh c0 c1 c2 c3 s = weighTaken (formSample c0 c1 c2 c3 s) s := by
    have htake := takeSample_eq (x := formSample c0 c1 c2 c3 s) (s := groupEnded s) hcap
    unfold finishWeigh
    rw [hkeep]
    exact htake
  unfold endWeigh
  rw [hconv, hfinish]

section
variable (x : Sample) (s : State)

theorem weighDelivered_scale : (weighDelivered x s).scale = weighChain s.conv.tc x s.scale :=
  (bandInputs_touches _ .scale (by decide)).trans (chained_scale x (groupEnded s))

theorem weighDelivered_net : (weighDelivered x s).scale.net
    = if s.scale.cal.span = 0 then 0 else (weighDelivered x s).scale.gross - s.scale.tare.headD 0 := by
  rw [weighDelivered_scale]
  exact weighChain_net _ x s.scale

theorem weighDelivered_pendingTare : (weighDelivered x s).scale.pendingTare = s.scale.pendingTare := by
  obtain ⟨_, _, _, _, _, hchain⟩ := weighChain_eq s.conv.tc x s.scale
  rw [weighDelivered_scale, hchain]

theorem weighDelivered_plan : (weighDelivered x s).plan = s.plan :=
  (bandInputs_touches _ .plan (by decide)).trans (chained_reach x (groupEnded s) .plan (by decide))

theorem chained_mon : (chained x (groupEnded s)).mon = s.mon := chained_reach x (groupEnded s) .mon (by decide)

theorem chained_engine : (chained x (groupEnded s)).engine = s.engine :=
  chained_reach x (groupEnded s) .engine (by decide)

/-- R105: SCALE_EVENT as the chain's status shows it. -/
theorem chained_notices : (chained x (groupEnded s)).notices
    = if (weighDelivered x s).scale.status = s.scale.status then s.notices
      else (post (.scaleEvent (weighDelivered x s).scale.status s.scale.cal.calId (some x.seq)) s).notices := by
  obtain ⟨_, _, _, _, _, hchain⟩ := weighChain_eq s.conv.tc x s.scale
  rw [weighDelivered_scale]
  unfold chained
  split
  next h =>
    rw [if_pos (by exact h)]
    rfl
  next h =>
    rw [if_neg (by exact h)]
    unfold postScaleEvent
    rw [State.withScale_scale, show (groupEnded s).conv.tc = s.conv.tc from rfl, show (groupEnded s).scale = s.scale from rfl,
      hchain]
    rfl

variable {x s}

/-- R87: a delivered sample by which neither detector of R86 changes. -/
theorem weighDelivered_calm (hb : (weighDelivered x s).asserts .bowlAbsent = s.asserts .bowlAbsent)
    (ho : (weighDelivered x s).asserts .overload = s.asserts .overload) :
    weighDelivered x s = { s with
      scale := (weighDelivered x s).scale, mon := (weighDelivered x s).mon, conv := (weighDelivered x s).conv
      notices := if (weighDelivered x s).scale.status = s.scale.status then s.notices
        else (post (.scaleEvent (weighDelivered x s).scale.status s.scale.cal.calId (some x.seq)) s).notices } := by
  have hmon := chained_mon x s
  have hbefore : ∀ d, (chained x (groupEnded s)).asserts d = s.asserts d := fun d => by
    rw [State.asserts, State.asserts, hmon]
  obtain ⟨m, hm⟩ := bandInputs_counts (s := chained x (groupEnded s)) (hb.trans (hbefore _).symm)
    (ho.trans (hbefore _).symm)
  rw [← chained_notices]
  unfold weighDelivered
  rw [hm]
  unfold chained
  split <;> rfl

end

theorem weighTaken_reach (x : Sample) (s : State) : Touches scaleReach
    (takeWeight (weighDelivered x s).scale.net (weighDelivered x s).scale.stable (weighDelivered x s)) (weighTaken x s) :=
  tareSample_touches x _

/-- R91: what the pending tare leaves of the figures that the Step Engine was handed. -/
theorem weighTaken_scale (x : Sample) (s : State) : (weighTaken x s).scale.gross = (weighDelivered x s).scale.gross
    ∧ (weighTaken x s).scale.stable = (weighDelivered x s).scale.stable := by
  have htare := tareSample_scale x
    (takeWeight (weighDelivered x s).scale.net (weighDelivered x s).scale.stable (weighDelivered x s))
  rw [takeWeight_touches _ _ _ .scale (by decide)] at htare
  exact htare

theorem weighTaken_mon (x : Sample) (s : State) : (weighTaken x s).mon = (weighDelivered x s).mon :=
  (weighTaken_reach x s .mon (by decide)).trans (takeWeight_touches _ _ _ .mon (by decide))

theorem weighTaken_no_tare {x : Sample} {s : State} (h : s.scale.pendingTare = none) : weighTaken x s
    = takeWeight (weighDelivered x s).scale.net (weighDelivered x s).scale.stable (weighDelivered x s) := by
  refine tareSample_none ?_
  rw [takeWeight_touches _ _ _ .scale (by decide), weighDelivered_pendingTare]
  exact h

/-- Settles O26: the sample at the Step Engine, and the end of the group that hands it on. -/
theorem doseStepWeighsAgainstItsReference : Obligations.DoseStepWeighsAgainstItsReference := by
  unfold Obligations.DoseStepWeighsAgainstItsReference
  refine ⟨fun net stable l r s hl hr => ⟨fun hs => takeWeight_not_running hl hs, fun hs hp ht => ?_,
    fun ref g hs hp href hg => ⟨fun hlt => ?_, fun hle => ?_⟩⟩, fun dt began c0 c1 c2 c3 s hconv hkeep hcap => ?_⟩
  · have htaken : l.referenced net false = { l with reference := some net, phase := .dosing, settleBy := none } := by
      simp [Live.referenced]
    rw [takeWeight_settle hl hr hs hp, takeReference_goes_on hl hr net false ht, htaken]
  · rw [takeWeight_dosing hl hr hs hp href hg, compareDose, if_neg (by omega), noteAdded_eq hl]
  · have heq : takeWeight net stable s = endStep .weight (weighedOut l (net - ref) (10 * (g : Int)) s) := by
      rw [takeWeight_dosing hl hr hs hp href hg, compareDose, if_pos hle, noteOverdose_eq hl (by omega) hle, weighedOut]
    rw [heq]
    exact ⟨rfl, weighedOut_log _ _ hr, weighedOut_last _ _ hr, fun r' hnext hc hn => weighedOut_next _ _ hr hs hnext hc hn⟩
  · obtain ⟨x, hx⟩ : ∃ x, x = formSample c0 c1 c2 c3 (s.after dt) := ⟨_, rfl⟩
    have hexec : exec (.weighGroupEnd dt c0 c1 c2 c3) s = .next ((weighTaken x (s.after dt)).withConv
        (afterWeigh (weighTaken x (s.after dt)).conv)) := by
      rw [hx]
      exact congrArg Host.Outcome.next (endWeigh_delivers (s := s.after dt) hconv hkeep hcap)
    have hseq : x.seq = s.conv.nextSeq := by rw [hx]; rfl
    obtain ⟨hgross, hstable⟩ := weighTaken_scale x (s.after dt)
    have hnet : (weighDelivered x (s.after dt)).scale.net = if s.scale.cal.span = 0 then 0
        else (weighDelivered x (s.after dt)).scale.gross - s.scale.tare.headD 0 := weighDelivered_net x (s.after dt)
    have hasserts : ∀ d, (weighDelivered x (s.after dt)).asserts d = (weighTaken x (s.after dt)).asserts d := fun d => by
      rw [State.asserts, State.asserts, weighTaken_mon]
    refine ⟨_, weighDelivered x (s.after dt), hexec, ?_, weighDelivered_plan x (s.after dt), fun hb => ?_,
      fun hb ho htare => ?_⟩
    · have hreach := weighTaken_reach x (s.after dt)
      dsimp only
      rw [State.withConv_scale, hgross, hstable, ← hnet]
      refine ⟨hreach .engine (by decide), hreach .heat (by decide), hreach .stir (by decide), hreach .lid (by decide),
        fun htare => ⟨?_, ?_⟩⟩
      · rw [weighTaken_no_tare (s := s.after dt) htare, takeWeight_touches _ _ _ .scale (by decide)]
      · rw [weighTaken_no_tare (s := s.after dt) htare]
        rfl
    · refine (bandInputs_engine ?_).trans (chained_engine x (s.after dt))
      rw [chained_engine]
      refine hb.imp_left fun hsame => (hasserts .bowlAbsent).trans (hsame.trans ?_)
      rw [State.asserts, State.asserts, chained_mon]
      rfl
    · have hscale : (weighTaken x (s.after dt)).scale = (weighDelivered x (s.after dt)).scale := by
        rw [weighTaken_no_tare (s := s.after dt) htare, takeWeight_touches _ _ _ .scale (by decide)]
      have hcalm := weighDelivered_calm ((hasserts .bowlAbsent).trans hb) ((hasserts .overload).trans ho)
      rw [State.withConv_scale, State.withConv_mon, hscale, weighTaken_mon, ← hseq]
      exact hcalm

end Sys2Proof.Machine
end

section
/-! PROOFS. A delivered TB: the loop run, and the target newly met (O50). -/

namespace Sys2Proof.Machine

/-! ### The detectors of TB (R73, R76) -/

/-- R73: a plausible verdict adds to the implausible ones of no history. -/
theorem implausibleCount_shift_le (h : List Bool) : implausibleCount (shiftHistory h true) ≤ implausibleCount h := by
  have hdrop : ((h.drop 1).filter (fun v => !v)).length ≤ (h.filter (fun v => !v)).length :=
    ((List.drop_sublist 1 h).filter _).length_le
  simpa [implausibleCount, shiftHistory] using hdrop

/-- R150: an input that does not qualify to assert leaves a CLEAR detector CLEAR. -/
theorem countInput_clear {n k : Nat} {q : Qualifies} {x : DetState} (hx : x.asserted = false) (hq : q ≠ .toAssert) :
    (countInput n k q x).2 = false := by
  unfold countInput
  rw [hx]
  cases q
  case toAssert => exact absurd rfl hq
  all_goals rfl

/-- R76: a TB up to 175 °C does not qualify DRY_PAN to assert. -/
theorem bandTb_not_above {v : Int} (hv : v ≤ 1750) : aboveAsserts (bandTb v) ≠ .toAssert := by
  have hband : bandTb v ≠ .above := by
    unfold bandTb band
    grind
  cases hb : bandTb v
  case above => exact absurd hb hband
  all_goals simp [aboveAsserts]

/-- R74: a TB that no detector changes by leaves counts alone. -/
theorem tbInputs_count {v : Int} {n : Nat} {s : State} (hv : v ≤ 1750) (hn : n < 3)
    (hprobe : s.mon.probeB.asserted = false) (hdry : s.mon.dryPan.asserted = false) :
    ∃ m, m.boil = s.mon.boil
      ∧ detectorInput .dryPan (aboveAsserts (bandTb v)) (probeInput .probeB true n s) = s.withMon m := by
  have hneither : probeQualifies (s.asserts .probeB) true n = .neither := by
    have hclear : s.asserts .probeB = false := hprobe
    rw [probeQualifies, hclear]
    simp only [Bool.false_eq_true, if_false, if_neg (by omega : ¬ 3 ≤ n)]
  have hfirst : probeInput .probeB true n s = s.withMon (s.mon.put .probeB (countInput 1 40 .neither s.mon.probeB).1) := by
    unfold probeInput
    rw [hneither]
    exact detectorInput_counts (d := .probeB) (countInput_clear hprobe (by decide))
  rw [hfirst]
  refine ⟨(s.mon.put .probeB (countInput 1 40 .neither s.mon.probeB).1).put .dryPan
    (countInput 20 20 (aboveAsserts (bandTb v)) s.mon.dryPan).1, rfl, ?_⟩
  exact detectorInput_counts (d := .dryPan) (countInput_clear hdry (bandTb_not_above hv))

/-! ### TEMP_REACHED at the Step Engine (R36) -/

/-- R30, R36: the end event of a live step whose target is newly met. -/
def tempEnd (r : StepRecord) (l : Live) (s : State) : Option StepEnd :=
  if s.engine.state = .running ∧ r.exits.temp = true ∧ (l.phase = .approach ∨ l.phase = .dwell) then some .temp
  else if s.engine.state = .running ∧ l.phase = .approach then endInPhase r .dwell l.active true (s.asserts .boil)
  else none

section
variable {l : Live} {r : StepRecord} {s : State}

theorem takeTempReached_no_record (h : s.liveRecord = none) : takeTempReached s = s := by
  unfold takeTempReached
  rw [h]

variable (hl : s.engine.live = some l) (hr : s.plan.steps[l.index]? = some r)
include hl hr

theorem takeTempReached_temp
    (h : s.engine.state = .running ∧ r.exits.temp = true ∧ (l.phase = .approach ∨ l.phase = .dwell)) :
    takeTempReached s = endStep .temp s := by
  obtain ⟨hs, ht, hp⟩ := h
  have hrun : s.isRunning = true := decide_eq_true hs
  unfold takeTempReached
  simp only [liveRecord_of_live hl, hr, hrun, phase_of_live hl, ht, Option.some_inj, hp, and_self, if_true]

theorem takeTempReached_still (hs : s.engine.state ≠ .running ∨ l.phase ≠ .approach)
    (h : ¬ (s.engine.state = .running ∧ r.exits.temp = true ∧ (l.phase = .approach ∨ l.phase = .dwell))) :
    takeTempReached s = s := by
  unfold takeTempReached
  by_cases hrun : s.engine.state = .running
  · have hrun' : s.isRunning = true := decide_eq_true hrun
    have hp : l.phase ≠ .approach := hs.resolve_left (not_not_intro hrun)
    have ht : ¬ (r.exits.temp = true ∧ (l.phase = .approach ∨ l.phase = .dwell)) := fun hc => h ⟨hrun, hc⟩
    simp only [liveRecord_of_live hl, hr, hrun', phase_of_live hl, Option.some_inj, if_true]
    rw [if_neg ht, if_neg hp]
  · have hrun' : s.isRunning = false := decide_eq_false hrun
    simp only [liveRecord_of_live hl, hr, hrun', Bool.false_eq_true, if_false]

/-- R36: an APPROACH that the target does not end becomes DWELL and is checked there. -/
theorem takeTempReached_dwell (hreached : s.heat.reached = true) (hs : s.engine.state = .running) (hp : l.phase = .approach)
    (ht : r.exits.temp = false) :
    takeTempReached s = settleOutcome (s.withEngine { s.engine with live := some { l with phase := .dwell } },
      endInPhase r .dwell l.active true (s.asserts .boil)) := by
  have hrun : s.isRunning = true := decide_eq_true hs
  have hmoves : takeTempReached s = settleOutcome (phaseChecks (toPhase .dwell s)) := by
    unfold takeTempReached
    simp only [liveRecord_of_live hl, hr, hrun, phase_of_live hl, ht, hp, Bool.false_eq_true, false_and, if_true, if_false]
  have hdwell : toPhase .dwell s = s.withEngine { s.engine with live := some { l with phase := .dwell } } :=
    mapLive_of_live hl
  have hchecks := phaseChecks_eq (s := s.withEngine { s.engine with live := some { l with phase := .dwell } })
    (l := { l with phase := .dwell }) (r := r) rfl hr
  rw [checkedPhase_of_ne (by exact Phase.noConfusion), State.withEngine_heat, hreached] at hchecks
  rw [hmoves, hdwell, hchecks]
  rfl

/-- R36, R58: a target newly met that ends the step. -/
theorem takeTempReached_ends (hreached : s.heat.reached = true) {e : StepEnd} (he : tempEnd r l s = some e) :
    ∃ more, (takeTempReached s).engine.log = s.engine.log ++ logEntryOf l r e :: more := by
  unfold tempEnd at he
  by_cases htemp : s.engine.state = .running ∧ r.exits.temp = true ∧ (l.phase = .approach ∨ l.phase = .dwell)
  · rw [if_pos htemp] at he
    cases he
    rw [takeTempReached_temp hl hr htemp]
    exact endStep_log hl hr
  · rw [if_neg htemp] at he
    by_cases happroach : s.engine.state = .running ∧ l.phase = .approach
    · obtain ⟨hs, hp⟩ := happroach
      have ht : r.exits.temp = false := by
        by_contra hc
        exact htemp ⟨hs, by simpa using hc, .inl hp⟩
      rw [if_pos ⟨hs, hp⟩] at he
      rw [takeTempReached_dwell hl hr hreached hs hp ht, he, settleOutcome_some]
      exact endStep_log (s := s.withEngine { s.engine with live := some { l with phase := .dwell } })
        (l := { l with phase := .dwell }) rfl hr
    · rw [if_neg happroach] at he
      cases he

/-- R36: a target newly met that does not end the step. -/
theorem takeTempReached_goes_on (hreached : s.heat.reached = true) (he : tempEnd r l s = none) :
    takeTempReached s = s.withEngine { s.engine with live := some { l with
      phase := if s.engine.state = .running ∧ l.phase = .approach then .dwell else l.phase } } := by
  have htemp : ¬ (s.engine.state = .running ∧ r.exits.temp = true ∧ (l.phase = .approach ∨ l.phase = .dwell)) := by
    intro hc
    rw [tempEnd, if_pos hc] at he
    cases he
  rw [tempEnd, if_neg htemp] at he
  by_cases happroach : s.engine.state = .running ∧ l.phase = .approach
  · obtain ⟨hs, hp⟩ := happroach
    have ht : r.exits.temp = false := by
      by_contra hc
      exact htemp ⟨hs, by simpa using hc, .inl hp⟩
    rw [if_pos ⟨hs, hp⟩] at he
    rw [takeTempReached_dwell hl hr hreached hs hp ht, he, if_pos ⟨hs, hp⟩]
    rfl
  · rw [if_neg happroach, takeTempReached_still hl hr (not_and_or.mp happroach) htemp, ← hl]
    rfl

end

/-! ### The delivery (R72, R74, R122) -/

/-- R74: TB10 kept by the converter, looked at by the detectors, and taken by the live step's peak and the Heat Unit. -/
def tbWarmed (code : Nat) (s : State) : State :=
  let c := s.withConv (takeTbCode code s.scale.cal.offB s.conv)
  let d := detectorInput .dryPan (aboveAsserts (bandTb c.conv.tb))
    (probeInput .probeB (plausible code) (implausibleCount c.conv.tbHist) c)
  let e := d.mapLive (fun l => { l with peak := max l.peak c.conv.tb })
  e.withHeat (takeTb e.isRunning c.conv.tb c.conv.tbHeld e.heat)

theorem deliverTb_eq (code : Nat) (s : State) : deliverTb code s
    = (judgeDelivered (tbWarmed code s)).withStir
      { (judgeDelivered (tbWarmed code s)).stir with tb := (takeTbCode code s.scale.cal.offB s.conv).tb } := rfl

/-- R72: TB10 of a plausible code. -/
theorem takeTbCode_plausible {code : Nat} {offB : Int} {c : Converter} (hlo : 20 ≤ code) (hhi : code ≤ 4075) :
    takeTbCode code offB c = { c with
      tb := ((code * 2900 / 4096 : Nat) : Int) - 400 + offB, tbHeld := false, tbHist := shiftHistory c.tbHist true } := by
  have hplaus : plausible code = true := by simp [plausible, hlo, hhi]
  rw [takeTbCode, hplaus]
  rfl

/-- R74, R112: a TB10 of `v` taken while no detector changes by it. -/
structure Warmed (v : Int) (s u : State) : Prop where
  engine : u.engine = { s.engine with live := s.engine.live.map (fun l => { l with peak := max l.peak v }) }
  heat : u.heat = loopRun s.isRunning { s.heat with tb := v, tbHeld := false }
  conv : u.conv.tb = v
  boil : u.mon.boil = s.mon.boil
  reach : Touches [.engine, .heat, .conv, .mon] s u

theorem warmed_tbWarmed {code : Nat} {v : Int} {s : State} (hlo : 20 ≤ code) (hhi : code ≤ 4075)
    (hv : v = ((code * 2900 / 4096 : Nat) : Int) - 400 + s.scale.cal.offB) (hle : v ≤ 1750)
    (hprobe : s.mon.probeB.asserted = false) (hhist : implausibleCount s.conv.tbHist < 3)
    (hdry : s.mon.dryPan.asserted = false) : Warmed v s (tbWarmed code s) := by
  have hcode : takeTbCode code s.scale.cal.offB s.conv
      = { s.conv with tb := v, tbHeld := false, tbHist := shiftHistory s.conv.tbHist true } := by
    rw [takeTbCode_plausible hlo hhi, hv]
  have hplaus : plausible code = true := by simp [plausible, hlo, hhi]
  obtain ⟨m, hboil, hm⟩ := tbInputs_count
    (s := s.withConv { s.conv with tb := v, tbHeld := false, tbHist := shiftHistory s.conv.tbHist true })
    hle (lt_of_le_of_lt (implausibleCount_shift_le _) hhist) hprobe hdry
  have hwarmed : tbWarmed code s = (((s.withConv
      { s.conv with tb := v, tbHeld := false, tbHist := shiftHistory s.conv.tbHist true }).withMon m).withEngine
        { s.engine with live := s.engine.live.map (fun l => { l with peak := max l.peak v }) }).withHeat
          (loopRun s.isRunning { s.heat with tb := v, tbHeld := false }) := by
    unfold tbWarmed
    dsimp only
    rw [hcode, hplaus, State.withConv_conv, hm]
    rfl
  rw [hwarmed]
  exact ⟨rfl, rfl, rfl, hboil,
    ((((withConv_touches _ s).mono (by decide)).trans ((withMon_touches _ _).mono (by decide))).trans
      ((withEngine_touches _ _).mono (by decide))).trans ((withHeat_touches _ _).mono (by decide))⟩

/-- R122: a delivery that meets no target is not judged. -/
theorem judgeDelivered_not_met {s : State} (h : meetsTarget s.heat = false) : judgeDelivered s = s := by
  simp [judgeDelivered, h]

/-- R122: the target judged as met. -/
theorem judgeDelivered_met {s : State} (h : meetsTarget s.heat = true) : judgeDelivered s
    = post (.tempReached s.liveIndex s.heat.tb) (takeTempReached (s.withHeat { s.heat with reached := true })) := by
  simp [judgeDelivered, judgeTarget, h]

theorem live_of_liveRecord {s : State} {r : StepRecord} (h : s.liveRecord = some r) :
    ∃ l, s.engine.live = some l ∧ s.plan.steps[l.index]? = some r := by
  cases hl : s.engine.live with
  | none =>
    rw [State.liveRecord, hl] at h
    cases h
  | some l => exact ⟨l, rfl, (liveRecord_of_live hl).symm.trans h⟩

/-- R36, R122: what a delivery judged leaves where no step ends by it. -/
structure JudgedCalm (u j : State) : Prop where
  heat : j.heat = { u.heat with reached := u.heat.reached || meetsTarget u.heat }
  engine : ∀ l r, u.engine.live = some l → u.plan.steps[l.index]? = some r → j.engine = { u.engine with
    live := some { l with
      phase := if u.engine.state = .running ∧ meetsTarget u.heat = true ∧ l.phase = .approach then .dwell else l.phase } }
  notices : j.notices
    = if meetsTarget u.heat then (post (.tempReached u.liveIndex u.heat.tb) u).notices else u.notices
  reach : Touches [.engine, .heat, .notices] u j

theorem takeTempReached_calm {s : State} (hreached : s.heat.reached = true)
    (hn : ∀ l r, s.engine.live = some l → s.plan.steps[l.index]? = some r → tempEnd r l s = none) :
    Touches [.engine] s (takeTempReached s) := by
  cases hrec : s.liveRecord with
  | none =>
    rw [takeTempReached_no_record hrec]
    exact Touches.refl _ s
  | some r =>
    obtain ⟨l, hl, hr⟩ := live_of_liveRecord hrec
    rw [takeTempReached_goes_on hl hr hreached (hn l r hl hr)]
    exact withEngine_touches _ s

theorem judgeDelivered_calm {u : State}
    (hn : meetsTarget u.heat = true →
      ∀ l r, u.engine.live = some l → u.plan.steps[l.index]? = some r → tempEnd r l u = none) :
    JudgedCalm u (judgeDelivered u) := by
  cases hmet : meetsTarget u.heat
  · rw [judgeDelivered_not_met hmet]
    refine ⟨by rw [hmet, Bool.or_false], fun l r hl _ => ?_, by rw [hmet]; rfl, Touches.refl _ u⟩
    rw [hmet, if_neg (fun h => Bool.false_ne_true h.2.1), ← hl]
  · have hcalm := takeTempReached_calm (s := u.withHeat { u.heat with reached := true }) rfl (hn hmet)
    rw [judgeDelivered_met hmet]
    refine ⟨?_, fun l r hl hr => ?_, ?_, ?_⟩
    · rw [post_heat, hcalm .heat (by decide), hmet, Bool.or_true]
      rfl
    · rw [post_engine, takeTempReached_goes_on (s := u.withHeat { u.heat with reached := true }) hl hr rfl (hn hmet l r hl hr),
        hmet]
      simp only [true_and]
      rfl
    · rw [hmet, if_pos rfl]
      exact post_notices_congr _ (hcalm .notices (by decide))
    · exact ((withHeat_touches _ u).mono (by decide)).trans ((hcalm.mono (by decide)).trans ((post_touches _ _).mono (by decide)))

/-- R36, R58: a delivery that meets the target and ends the step. -/
theorem judgeDelivered_ends {u : State} {l : Live} {r : StepRecord} {e : StepEnd} (hmet : meetsTarget u.heat = true)
    (hl : u.engine.live = some l) (hr : u.plan.steps[l.index]? = some r) (he : tempEnd r l u = some e) :
    ∃ more, (judgeDelivered u).engine.log = u.engine.log ++ logEntryOf l r e :: more := by
  rw [judgeDelivered_met hmet, post_engine]
  exact takeTempReached_ends (s := u.withHeat { u.heat with reached := true }) hl hr rfl he

/-! ### The end of the sense conversion -/

/-- R65: the arbiter's choice keeps what was measured. -/
theorem afterSense_tb (now : Nat) (ch : Channel) (c : Converter) : (afterSense now ch c).tb = c.tb := by
  have hscan : (advanceScan ch c).tb = c.tb := by cases ch <;> rfl
  unfold afterSense
  dsimp only
  split
  · exact hscan
  · split <;> exact hscan

/-- R113: a loop run that gives no power. -/
theorem loopRun_zero {b : Bool} {h : Heat} (hz : b = false ∨ h.mode = .off) : loopRun b h = zeroRun h := by
  obtain rfl | hoff := hz
  · exact loopRun_not_running h
  · cases b
    · exact loopRun_not_running h
    · exact loopRun_off hoff

/-- R65, R74: the delivery of TB, before the arbiter chooses. -/
def tbDelivered (code : Nat) (s : State) : State :=
  (judgeDelivered (tbWarmed code s)).withStir
    { (judgeDelivered (tbWarmed code s)).stir with tb := (takeTbCode code s.scale.cal.offB s.conv).tb }

section
variable {cap : Int} {p2 : Nat} {pair : Nat × Nat} {h : Heat} (hcap : cap = heatCap h) (hpair : pair = powerPair p2)
include hcap hpair

/-- R112, R115: the loop run of a driven TEMP step by its power pair. -/
theorem loopRun_temp_pair {sp u : Int} (hm : h.mode = .temp) (hs : h.sp = some sp) (hu : u = 2 * (sp - h.tb) + h.integral / 8)
    (hp : (p2 : Int) = clampInt 0 cap u) :
    loopRun true h = { h with next := { n := pair.1, w := pair.2, step := .due (sp - h.tb) u cap } } := by
  have hp2 : (clampInt 0 (heatCap h) (2 * (sp - h.tb) + h.integral / 8)).toNat = p2 := by
    rw [← hcap, ← hu, ← hp, Int.toNat_natCast]
  rw [loopRun_temp hm hs, tempRun, hp2, ← hpair, ← hcap, ← hu]

/-- R113, R115: the loop run of a driven POWER step by its power pair. -/
theorem loopRun_power_pair {w : Nat} (hm : h.mode = .power) (hw : h.power = some w) (hp : (p2 : Int) = min (2 * (w : Int)) cap) :
    loopRun true h = { h with integral := 0, next := { n := pair.1, w := pair.2, step := .none } } := by
  have hp2 : (min (2 * ((h.power.getD 0 : Nat) : Int)) (heatCap h)).toNat = p2 := by
    rw [← hcap, hw, Option.getD_some, ← hp, Int.toNat_natCast]
  rw [loopRun_power hm, powerRun, hp2, ← hpair]

end

theorem exec_senseTb {dt code : Nat} {s : State} (hconv : s.conv.state = .sense .tb) (hkeep : s.conv.senseDiscard = false) :
    exec (.senseConversionEnd dt code) s = .next ((tbDelivered code (s.after dt)).withConv
      (afterSense (tbDelivered code (s.after dt)).now .tb (tbDelivered code (s.after dt)).conv)) := by
  have hdeliver : deliverSense .tb code (s.after dt) = tbDelivered code (s.after dt) := by
    unfold deliverSense
    rw [if_neg (by rw [State.after_conv, hkeep]; decide)]
    exact deliverTb_eq code (s.after dt)
  have hend : endSense code (s.after dt) = (tbDelivered code (s.after dt)).withConv
      (afterSense (tbDelivered code (s.after dt)).now .tb (tbDelivered code (s.after dt)).conv) := by
    unfold endSense
    rw [State.after_conv, hconv]
    dsimp only
    rw [hdeliver]
  exact congrArg Host.Outcome.next hend

/-- Settles O50: one loop run with the new TB10, and what the judgement of R122 then brings. -/
theorem tbDeliveryRunsTheHeatLoop : Obligations.TbDeliveryRunsTheHeatLoop := by
  unfold Obligations.TbDeliveryRunsTheHeatLoop
  intro dt code p2 v cap pair s hconv hkeep hlo hhi hv hle hprobe hhist hdry hcap hpair running met reached found
  have hw : Warmed v (s.after dt) (tbWarmed code (s.after dt)) :=
    warmed_tbWarmed (s := s.after dt) hlo hhi hv hle hprobe hhist hdry
  have hexec := exec_senseTb (dt := dt) (code := code) hconv hkeep
  have htb : (takeTbCode code (s.after dt).scale.cal.offB (s.after dt).conv).tb = v := by
    rw [takeTbCode_plausible hlo hhi, hv]
    rfl
  unfold tbDelivered at hexec
  rw [htb] at hexec
  generalize tbWarmed code (s.after dt) = u at hw hexec
  obtain ⟨hengine, hheat, hconvtb, hboil, hreach⟩ := hw
  have hmet : meetsTarget u.heat = met := by
    rw [hheat, meetsTarget_loopRun]
    rfl
  have hureached : u.heat.reached = s.heat.reached := by
    rw [hheat, reached_loopRun]
    rfl
  have hlive : ∀ l, s.engine.live = some l → u.engine.live = some { l with peak := max l.peak v } := fun l hl => by
    rw [hengine, State.after_engine, hl]
    rfl
  have hplan : u.plan = s.plan := hreach .plan (by decide)
  have hfound : ∀ l r, met = true → tempEnd r { l with peak := max l.peak v } u = found l r := fun l r hm => by
    have hasserts : u.asserts .boil = s.asserts .boil := congrArg DetState.asserted hboil
    have hstate : u.engine.state = s.engine.state := by rw [hengine]; rfl
    simp only [found, running, tempEnd, hasserts, hstate, hm, true_and, decide_eq_true_eq]
  have hplan' : (judgeDelivered u).plan = s.plan := (judgeDelivered_touches u .plan (by decide)).trans hplan
  have hscale : (judgeDelivered u).scale = s.scale :=
    (judgeDelivered_touches u .scale (by decide)).trans (hreach .scale (by decide))
  have hpermit : (judgeDelivered u).permit = s.permit :=
    (judgeDelivered_touches u .permit (by decide)).trans (hreach .permit (by decide))
  have hstore : (judgeDelivered u).store = s.store :=
    (judgeDelivered_touches u .store (by decide)).trans (hreach .store (by decide))
  have hconv' : (judgeDelivered u).conv = u.conv := judgeDelivered_touches u .conv (by decide)
  refine ⟨_, hexec, ?_, hplan', hscale, hpermit, hstore, fun l r e hl hr he => ?_, fun hnone => ?_⟩
  · rw [State.withConv_conv, afterSense_tb, State.withStir_conv, hconv', hconvtb]
  · have hm : met = true := by
      by_contra hno
      simp [found, hno] at he
    obtain ⟨more, hmore⟩ := judgeDelivered_ends (hmet.trans hm) (hlive l hl) (by rw [hplan]; exact hr)
      ((hfound l r hm).trans he)
    refine ⟨more, hmore.trans ?_⟩
    rw [hengine]
    rfl
  · have hcalm := judgeDelivered_calm (u := u) fun hm l' r hl' hr' => by
      rw [hengine, Option.map_eq_some_iff] at hl'
      obtain ⟨l, hl, rfl⟩ := hl'
      rw [hfound l r (hmet.symm.trans hm)]
      exact hnone l r hl (hplan ▸ hr')
    have hjheat : (judgeDelivered u).heat
        = { loopRun s.isRunning { s.heat with tb := v, tbHeld := false } with reached := reached } := by
      rw [hcalm.heat, hureached, hmet, hheat]
      rfl
    refine ⟨fun hz => ?_, fun sp x hs hm hsp hx hp => ?_, fun w hs hm hpow hp => ?_, fun l r hl hr => ?_, ?_, ?_, ?_⟩
    · have hzero : loopRun s.isRunning { s.heat with tb := v, tbHeld := false } = _ :=
        loopRun_zero (hz.imp_left fun hs => decide_eq_false hs)
      exact hjheat.trans (by rw [hzero]; rfl)
    · have hrun : s.isRunning = true := decide_eq_true hs
      refine hjheat.trans ?_
      rw [hrun, loopRun_temp_pair (h := { s.heat with tb := v, tbHeld := false }) hcap hpair hm hsp hx hp]
    · have hrun : s.isRunning = true := decide_eq_true hs
      have hno : met = false := by simp [met, hm]
      refine hjheat.trans ?_
      rw [hrun, loopRun_power_pair (h := { s.heat with tb := v, tbHeld := false }) hcap hpair hm hpow hp]
      simp only [reached, hno, Bool.or_false]
    · refine (hcalm.engine _ r (hlive l hl) (by rw [hplan]; exact hr)).trans ?_
      rw [hmet, hengine]
      simp only [running, decide_eq_true_eq]
      rfl
    · have hnotices : u.notices = s.notices := hreach .notices (by decide)
      have hindex : u.liveIndex = s.liveIndex := by
        rw [State.liveIndex, hengine, Option.map_map]
        rfl
      have htemp : u.heat.tb = v := by
        obtain ⟨_, _, hrun⟩ := loopRun_eq s.isRunning { s.heat with tb := v, tbHeld := false }
        rw [hheat]
        exact congrArg Heat.tb hrun
      refine hcalm.notices.trans ?_
      rw [hmet, hindex, htemp]
      split
      · exact post_notices_congr _ hnotices
      · exact hnotices
    · have hstir : (judgeDelivered u).stir = s.stir :=
        (hcalm.reach .stir (by decide)).trans (hreach .stir (by decide))
      exact congrArg (fun st => ({ st with tb := v } : Stir)) hstir
    · exact (hcalm.reach .lid (by decide)).trans (hreach .lid (by decide))

end Sys2Proof.Machine
end

section
/-! PROOFS. The converter's timers (O37), and the tach edges that time its weigh triggers (O47). -/

namespace Sys2Proof.Machine

/-! ### Weigh triggers and the sense timer (R63, R64) -/

section
variable {now : Nat} {c : Converter}

theorem weighTrigger_idle (h : c.state = .idle) : weighTrigger now c = { c with state := .weigh now, exc := true } := by
  rw [weighTrigger, h]
  rfl

theorem weighTrigger_sense {ch : Channel} (h : c.state = .sense ch) :
    weighTrigger now c = { c with weighWaiting := true } := by
  rw [weighTrigger, h]

theorem weighTrigger_weigh {began : Nat} (h : c.state = .weigh began) : weighTrigger now c = c := by
  rw [weighTrigger, h]

/-- R64: what a weigh trigger can change of the converter. -/
theorem weighTrigger_eq (now : Nat) (c : Converter) : ∃ state exc waiting,
    weighTrigger now c = { c with state := state, exc := exc, weighWaiting := waiting } := by
  cases h : c.state with
  | idle => exact ⟨_, _, c.weighWaiting, weighTrigger_idle h⟩
  | sense ch => exact ⟨c.state, c.exc, _, weighTrigger_sense h⟩
  | weigh began => exact ⟨c.state, c.exc, c.weighWaiting, weighTrigger_weigh h⟩

theorem senseExpiry_idle (h : c.state = .idle) : senseExpiry c = { c with state := .sense .tb, scanPos := some .tc } := by
  rw [senseExpiry, h]
  rfl

theorem senseExpiry_busy (h : c.state ≠ .idle) : senseExpiry c = { c with scanDue := true } := by
  unfold senseExpiry
  split
  next hidle => exact absurd hidle h
  · rfl
  · rfl

end

theorem exec_senseTimerExpiry (dt : Nat) (s : State) : exec (.senseTimerExpiry dt) s
    = .next ((s.after dt).withConv { senseExpiry s.conv with senseTimer := s.now + dt + 50000 }) := rfl

theorem exec_freeTrigger_stopped {dt : Nat} {s : State} (h : s.conv.freeTimer = none) :
    exec (.freeTrigger dt) s = .next (s.after dt) := by
  refine congrArg Host.Outcome.next (?_ : expireFree (s.after dt) = s.after dt)
  unfold expireFree
  rw [State.after_conv, h]

theorem exec_freeTrigger_runs {dt expiry : Nat} {s : State} (h : s.conv.freeTimer = some expiry) :
    exec (.freeTrigger dt) s = .next ((s.after dt).withConv
      (weighTrigger (s.now + dt) { s.conv with freeTimer := some (s.now + dt + 25000) })) := by
  refine congrArg Host.Outcome.next (?_ : expireFree (s.after dt) = _)
  unfold expireFree
  rw [State.after_conv, h]
  rfl

/-- Settles O37: each timer in each state of the converter. -/
theorem converterTimersStartItsWork : Obligations.ConverterTimersStartItsWork := by
  unfold Obligations.ConverterTimersStartItsWork
  refine fun dt s => ⟨?_, exec_freeTrigger_stopped, fun expiry hfree => ?_⟩
  · rw [exec_senseTimerExpiry]
    cases hstate : s.conv.state with
    | idle => rw [senseExpiry_idle hstate]
    | sense ch => rw [senseExpiry_busy (by rw [hstate]; exact ConvState.noConfusion)]
    | weigh began => rw [senseExpiry_busy (by rw [hstate]; exact ConvState.noConfusion)]
  · rw [exec_freeTrigger_runs hfree]
    generalize hc : ({ s.conv with freeTimer := some (s.now + dt + 25000) } : Converter) = c
    have hsame : c.state = s.conv.state := by rw [← hc]
    cases hstate : s.conv.state with
    | idle => rw [weighTrigger_idle (hsame.trans hstate), ← hc]
    | sense ch => rw [weighTrigger_sense (hsame.trans hstate), ← hc]
    | weigh began => rw [weighTrigger_weigh (hsame.trans hstate), ← hc]

/-! ### The trigger mode (R66) -/

section
variable {now old measured : Nat} {c : Converter}

theorem takeSpeed_of_same (h : modeOf measured = c.mode) : takeSpeed now measured c = c := if_pos h

theorem takeSpeed_changes (h : modeOf measured ≠ c.mode) : takeSpeed now measured c
    = { c with mode := modeOf measured, edges := 0
               freeTimer := if modeOf measured = .free then some (now + 25000) else none } := by
  unfold takeSpeed
  rw [if_neg h]
  cases modeOf measured <;> rfl

/-- R66: a blade at rest puts the converter in FREE mode. -/
theorem modeOf_zero : modeOf 0 = .free := rfl

/-- R66: before the sixth edge an edge is counted alone. -/
theorem countEdge_below (h : c.edges < 5) : countEdge now c = { c with edges := c.edges + 1 } := if_neg (by omega)

theorem countEdge_sixth (h : 5 ≤ c.edges) : countEdge now c = weighTrigger now { c with edges := 0 } := if_pos (by omega)

/-- R66: a counted edge leaves the trigger mode and its timer. -/
theorem countEdge_keeps (now : Nat) (c : Converter) :
    (countEdge now c).mode = c.mode ∧ (countEdge now c).freeTimer = c.freeTimer := by
  obtain hlt | hle := Nat.lt_or_ge c.edges 5
  · rw [countEdge_below hlt]
    exact ⟨rfl, rfl⟩
  · obtain ⟨_, _, _, htrigger⟩ := weighTrigger_eq now { c with edges := 0 }
    rw [countEdge_sixth hle, htrigger]
    exact ⟨rfl, rfl⟩

/-- R66: the mode that an edge leaves, from the speed before and after it. -/
def modeAfter (old measured : Nat) (mode : TriggerMode) : TriggerMode := if measured = old then mode else modeOf measured

/-- R66: an edge that keeps the mode is counted in TACH. -/
theorem takeEdge_of_same (h : modeAfter old measured c.mode = c.mode) :
    takeEdge now old measured c = if c.mode = .tach then countEdge now c else c := by
  have hspeed : (if measured = old then c else takeSpeed now measured c) = c := by
    unfold modeAfter at h
    split at h
    next hold => exact if_pos hold
    next hold => rw [if_neg hold, takeSpeed_of_same h]
  unfold takeEdge
  rw [hspeed]
  simp only [and_self]

/-- R66: an edge that changes the mode starts its count at 0 and is not counted. -/
theorem takeEdge_of_changed (h : modeAfter old measured c.mode ≠ c.mode) :
    takeEdge now old measured c = { c with
      mode := modeAfter old measured c.mode, edges := 0
      freeTimer := if modeAfter old measured c.mode = .free then some (now + 25000) else none } := by
  unfold modeAfter at h ⊢
  split at h
  next => exact absurd rfl h
  next hold =>
    have hmode : ¬ (c.mode = .tach ∧ modeOf measured = .tach) := fun hboth => h (hboth.2.trans hboth.1.symm)
    unfold takeEdge
    rw [if_neg hold, if_neg hold, takeSpeed_changes h, if_neg hmode]

theorem takeEdge_mode : (takeEdge now old measured c).mode = modeAfter old measured c.mode := by
  by_cases h : modeAfter old measured c.mode = c.mode
  · rw [takeEdge_of_same h, h]
    split
    · exact (countEdge_keeps now c).1
    · rfl
  · rw [takeEdge_of_changed h]

end

/-! ### The stopped indication at the Lid Controller (R134, R148) -/

theorem decideDemand_stopped (now : Nat) (l : Lid) : (decideDemand now l).stopped = l.stopped := by
  unfold decideDemand
  split <;> rfl

theorem decideDemand_demand (now : Nat) (l : Lid) : (decideDemand now l).demand = wantedDemand l := by
  unfold decideDemand
  split
  next h => exact h.symm
  · rfl

theorem tellStopped_stopped (b : Bool) (s : State) : (tellStopped b s).lid.stopped = b := by
  unfold tellStopped
  split
  next h => exact h
  · exact decideDemand_stopped _ _

theorem tellStopped_wish (b : Bool) (s : State) : (tellStopped b s).lid.wish = s.lid.wish := by
  unfold tellStopped
  split
  · rfl
  · exact decideDemand_wish _ _

/-- R148: a blade that moves releases no lock. -/
theorem tellStopped_false_demand {s : State} (h : s.lid.wish = false) : (tellStopped false s).lid.demand = s.lid.demand := by
  unfold tellStopped
  split
  · rfl
  · rw [State.withLid_lid, decideDemand_demand]
    simp [wantedDemand, h]

/-- R148: a blade that comes to rest releases a lock that nothing wants. -/
theorem tellStopped_true_demand {s : State} (hs : s.lid.stopped = false) (h : s.lid.wish = false) :
    (tellStopped true s).lid.demand = .unlocked := by
  unfold tellStopped
  rw [if_neg (by rw [hs]; decide), State.withLid_lid, decideDemand_demand]
  simp [wantedDemand, h]

/-! ### Edges and the timeout (R132 to R134) -/

/-- R133: measured speed over intervals that do not sum to 0. -/
theorem speedOf_of_sum {ring : List Nat} (h : ring.sum ≠ 0) : speedOf ring = 5000000 * ring.length / ring.sum := by
  have hne : ring ≠ [] := fun hnil => h (by rw [hnil]; rfl)
  unfold speedOf
  rw [if_neg hne, if_neg h]

/-- R132: the converter is told of the speed before and after the edge. -/
theorem tachEdge_eq (s : State) : tachEdge s = (tellStopped false (s.withStir (edgeStir s.now s.stir))).withConv
    (takeEdge s.now s.stir.measured (speedOf (ringAfterEdge s.now s.stir)) s.conv) := by
  have htold := tellStopped_touches false (s.withStir (edgeStir s.now s.stir))
  unfold tachEdge
  dsimp only
  rw [htold .now (by decide), htold .stir (by decide), htold .conv (by decide)]
  rfl

theorem noEdgeTimeout_stopped {s : State} (h : s.stir.noEdge = none) : noEdgeTimeout s = s := by
  unfold noEdgeTimeout
  rw [h]

theorem noEdgeTimeout_runs {s : State} {expiry : Nat} (h : s.stir.noEdge = some expiry) : noEdgeTimeout s
    = tellStopped true ((s.withStir (standStir s.stir)).withConv
        (if s.stir.measured = 0 then s.conv else takeSpeed s.now 0 s.conv)) := by
  unfold noEdgeTimeout
  rw [h]
  dsimp only
  split <;> rfl

/-- R66: a blade at rest is weighed in FREE mode. -/
theorem standing_conv (now measured : Nat) (c : Converter) :
    (if measured = 0 then c else takeSpeed now 0 c) = if measured = 0 ∨ c.mode = .free then c
      else { c with mode := .free, edges := 0, freeTimer := some (now + 25000) } := by
  by_cases hm : measured = 0
  · rw [if_pos hm, if_pos (.inl hm)]
  · by_cases hf : c.mode = .free
    · rw [if_neg hm, if_pos (.inr hf), takeSpeed_of_same (modeOf_zero.trans hf.symm)]
    · rw [if_neg hm, if_neg (by rintro (h | h) <;> contradiction), takeSpeed_changes (Ne.symm hf)]
      rfl

/-- Settles O47: an edge at the Stir Unit, the lid and the converter, then the timeout at the three of them. -/
theorem tachEdgesMeasureTheSpeed : Obligations.TachEdgesMeasureTheSpeed := by
  unfold Obligations.TachEdgesMeasureTheSpeed
  intro dt ring s now hring
  have hafter : ringAfterEdge now s.stir = ring := by
    rw [hring]
    unfold ringAfterEdge
    cases s.stir.lastEdge <;> rfl
  refine ⟨?_, fun h => congrArg Host.Outcome.next (noEdgeTimeout_stopped h), fun expiry h => ?_⟩
  · have hreach := tachEdge_touches (s.after dt)
    have htold := tellStopped_touches false ((s.after dt).withStir (edgeStir now s.stir))
    have hedge : tachEdge (s.after dt) = (tellStopped false ((s.after dt).withStir (edgeStir now s.stir))).withConv
        (takeEdge now s.stir.measured (speedOf ring) s.conv) := by
      rw [← hafter]
      exact tachEdge_eq (s.after dt)
    have hstir : (tachEdge (s.after dt)).stir = edgeStir now s.stir := by
      rw [hedge]
      exact htold .stir (by decide)
    have hspeed : (tachEdge (s.after dt)).stir.measured = speedOf ring := by
      rw [hstir, ← hafter]
      rfl
    have hconv : (tachEdge (s.after dt)).conv = takeEdge now s.stir.measured (speedOf ring) s.conv := by rw [hedge]; rfl
    refine ⟨tachEdge (s.after dt), rfl, ?_, fun hnil => ?_, fun hsum => ?_, ?_, ?_, fun hwish => ?_, ?_, fun hmode => ?_,
      fun hmode => ?_, hreach .engine (by decide), hreach .heat (by decide), hreach .scale (by decide),
      hreach .mon (by decide), hreach .notices (by decide), hreach .plan (by decide), hreach .permit (by decide),
      hreach .store (by decide)⟩
    · rw [hspeed, hstir, ← hafter]
      rfl
    · rw [hspeed, hnil]
      rfl
    · rw [hspeed, speedOf_of_sum hsum]
    · rw [hedge]
      exact tellStopped_stopped _ _
    · rw [hedge]
      exact tellStopped_wish _ _
    · rw [hedge]
      exact tellStopped_false_demand (s := (s.after dt).withStir (edgeStir now s.stir)) hwish
    · rw [hspeed, hconv, takeEdge_mode]
      rfl
    · rw [hconv] at hmode ⊢
      have hchanged := hmode
      rw [takeEdge_mode] at hchanged
      rw [takeEdge_of_changed hchanged]
      exact ⟨rfl, rfl⟩
    · rw [hconv, takeEdge_mode] at hmode
      rw [hconv, takeEdge_of_same hmode]
      refine ⟨?_, fun hfree => ?_, fun htach hlt => ?_, fun htach hle => ?_⟩
      · split
        · exact (countEdge_keeps now s.conv).2
        · rfl
      · rw [if_neg (by rw [hfree]; exact TriggerMode.noConfusion)]
      · rw [if_pos htach, countEdge_below hlt]
      · rw [if_pos htach, countEdge_sixth hle]
        obtain ⟨_, _, _, htrigger⟩ := weighTrigger_eq now { s.conv with edges := 0 }
        refine ⟨by rw [htrigger], fun hidle => ?_, fun ch hsense => ?_, fun began hweigh => ?_⟩
        · rw [weighTrigger_idle (c := { s.conv with edges := 0 }) hidle]
          exact ⟨rfl, rfl⟩
        · rw [weighTrigger_sense (c := { s.conv with edges := 0 }) hsense]
          exact ⟨hsense, rfl⟩
        · rw [weighTrigger_weigh (c := { s.conv with edges := 0 }) hweigh]
  · have hreach := noEdgeTimeout_touches (s.after dt)
    have hstand := noEdgeTimeout_runs (s := s.after dt) h
    have htold := tellStopped_touches true (((s.after dt).withStir (standStir (s.after dt).stir)).withConv
      (if (s.after dt).stir.measured = 0 then (s.after dt).conv else takeSpeed (s.after dt).now 0 (s.after dt).conv))
    refine ⟨noEdgeTimeout (s.after dt), rfl, ?_, ?_, fun hstopped hwish => ?_, ?_, hreach .engine (by decide),
      hreach .heat (by decide), hreach .scale (by decide), hreach .mon (by decide), hreach .notices (by decide),
      hreach .plan (by decide), hreach .permit (by decide), hreach .store (by decide)⟩
    · rw [hstand]
      exact htold .stir (by decide)
    · rw [hstand]
      exact tellStopped_stopped _ _
    · rw [hstand]
      exact tellStopped_true_demand (by exact hstopped) hwish
    · rw [hstand]
      exact (htold .conv (by decide)).trans (standing_conv now s.stir.measured s.conv)

end Sys2Proof.Machine
end

section
/-! PROOFS. The end of a weigh group: the arbiter's choice, the sample, the weighing chain and its bands (O39). -/

namespace Sys2Proof.Machine

/-! ### What a detector makes of an input (R76, R86, R150) -/

/-- R150: what an input leaves of the Condition Monitor goes by the monitor alone. -/
theorem detectorInput_mon_congr (d : Detector) (q : Qualifies) {s t : State} (h : t.mon = s.mon) :
    (detectorInput d q t).mon = (detectorInput d q s).mon := by
  cases hc : (countInput (setLength d) (clearLength d) q (s.mon.get d)).2
  · rw [detectorInput_counts hc, detectorInput_counts (by rw [h]; exact hc), State.withMon_mon, State.withMon_mon, h]
  · rw [detectorInput_changes hc, detectorInput_changes (by rw [h]; exact hc), changeDetector_mon, changeDetector_mon,
      State.asserts, State.asserts, h]

theorem aboveAsserts_band (lo hi v : Int) :
    aboveAsserts (band lo hi v) = if hi < v then .toAssert else if v < lo then .toClear else .neither := by
  unfold band
  split
  · rfl
  · split <;> rfl

theorem belowAsserts_band {lo hi : Int} (h : lo ≤ hi) (v : Int) :
    belowAsserts (band lo hi v) = if v < lo then .toAssert else if hi < v then .toClear else .neither := by
  unfold band
  by_cases hhi : hi < v
  · rw [if_pos hhi, if_neg (by omega), if_pos hhi]
    rfl
  · rw [if_neg hhi, if_neg hhi]
    split <;> rfl

/-! ### STABLE (R85) -/

theorem le_grossMax : ∀ {w : List GrossEntry} {e : GrossEntry}, e ∈ w → e.gross ≤ grossMax w
  | [a], e, h => by
    rw [List.mem_singleton.mp h]
    exact le_rfl
  | a :: b :: rest, e, h => by
    obtain rfl | hrest := List.mem_cons.mp h
    · exact le_max_left _ _
    · exact (le_grossMax hrest).trans (le_max_right _ _)

theorem grossMin_le : ∀ {w : List GrossEntry} {e : GrossEntry}, e ∈ w → grossMin w ≤ e.gross
  | [a], e, h => by
    rw [List.mem_singleton.mp h]
    exact le_rfl
  | a :: b :: rest, e, h => by
    obtain rfl | hrest := List.mem_cons.mp h
    · exact min_le_left _ _
    · exact (min_le_right _ _).trans (grossMin_le hrest)

theorem grossMax_mem : ∀ {w : List GrossEntry}, w ≠ [] → ∃ e ∈ w, e.gross = grossMax w
  | [a], _ => ⟨a, List.mem_singleton_self a, rfl⟩
  | a :: b :: rest, _ => by
    obtain ⟨e, he, hmax⟩ := grossMax_mem (List.cons_ne_nil b rest)
    obtain hle | hle := le_total a.gross (grossMax (b :: rest))
    · exact ⟨e, List.mem_cons_of_mem a he, hmax.trans (max_eq_right hle).symm⟩
    · exact ⟨a, List.mem_cons_self, (max_eq_left hle).symm⟩

theorem grossMin_mem : ∀ {w : List GrossEntry}, w ≠ [] → ∃ e ∈ w, e.gross = grossMin w
  | [a], _ => ⟨a, List.mem_singleton_self a, rfl⟩
  | a :: b :: rest, _ => by
    obtain ⟨e, he, hmin⟩ := grossMin_mem (List.cons_ne_nil b rest)
    obtain hle | hle := le_total a.gross (grossMin (b :: rest))
    · exact ⟨a, List.mem_cons_self, (min_eq_left hle).symm⟩
    · exact ⟨e, List.mem_cons_of_mem a he, hmin.trans (min_eq_right hle).symm⟩

/-- R85: the spread of a window by its pairs of entries. -/
theorem grossSpread_le_iff {w : List GrossEntry} (hw : w ≠ []) (k : Int) :
    grossMax w - grossMin w ≤ k ↔ ∀ a ∈ w, ∀ b ∈ w, a.gross - b.gross ≤ k := by
  constructor
  · intro hle a ha b hb
    have hmax := le_grossMax ha
    have hmin := grossMin_le hb
    omega
  · intro hpairs
    obtain ⟨a, ha, hmax⟩ := grossMax_mem hw
    obtain ⟨b, hb, hmin⟩ := grossMin_mem hw
    rw [← hmax, ← hmin]
    exact hpairs a ha b hb

/-- R85: STABLE over a full window. -/
theorem stableFlag_iff (w : List GrossEntry) : stableFlag w = true ↔ w.length = 8
    ∧ (∀ a ∈ w, ∀ b ∈ w, a.gross - b.gross ≤ 20) ∧ ∀ a ∈ w, a.motion = false ∧ a.overrange = false := by
  by_cases hlen : w.length = 8
  · have hw : w ≠ [] := fun hnil => by
      rw [hnil] at hlen
      cases hlen
    rw [← grossSpread_le_iff hw]
    simp [stableFlag, hlen]
  · simp [stableFlag, hlen]

/-! ### The arbiter after a weigh group (R65) -/

section
variable {c : Converter}

theorem afterWeigh_scan {ch : Channel} (h : c.scanPos = some ch) :
    afterWeigh c = { c with state := .sense ch, scanPos := nextChannel ch } := by
  rw [afterWeigh, h]
  rfl

theorem afterWeigh_due (h : c.scanPos = none) (hdue : c.scanDue = true) :
    afterWeigh c = { c with state := .sense .tb, scanPos := some .tc, scanDue := false } := by
  simp only [afterWeigh, h, hdue, if_true]
  rfl

theorem afterWeigh_idle (h : c.scanPos = none) (hdue : c.scanDue = false) : afterWeigh c = { c with state := .idle } := by
  simp only [afterWeigh, h, hdue, Bool.false_eq_true, if_false]

/-- R65: what the arbiter's choice can change of the converter. -/
theorem afterWeigh_eq (c : Converter) : ∃ state pos due,
    afterWeigh c = { c with state := state, scanPos := pos, scanDue := due } := by
  cases hpos : c.scanPos with
  | some ch => exact ⟨_, _, c.scanDue, afterWeigh_scan hpos⟩
  | none =>
    cases hdue : c.scanDue
    · exact ⟨_, c.scanPos, c.scanDue, afterWeigh_idle hpos hdue⟩
    · exact ⟨_, _, _, afterWeigh_due hpos hdue⟩

end

/-! ### The sample (R68 to R70, R81 to R83) -/

theorem motionFlag_eq (measured ramped : Nat) :
    motionFlag measured ramped = decide (600 < measured ∨ (ramped ≠ 0 ∧ measured = 0)) := by
  simp [motionFlag]

theorem atExtreme_eq (c : Int) : atExtreme c = decide (c = -524288 ∨ c = 524287) := by
  exact (Bool.decide_or (c = -524288) (c = 524287)).symm

/-- R83, R85, with G not 0: what the chain leaves of the scale. -/
theorem weighChain_calibrated {tc : Int} {x : Sample} {sc : Scale} (h : sc.cal.span ≠ 0) :
    weighChain tc x sc = chainCalibrated tc x sc := if_neg h

theorem weighChain_uncalibrated {tc : Int} {x : Sample} {sc : Scale} (h : sc.cal.span = 0) :
    weighChain tc x sc = chainUncalibrated x sc := if_pos h

/-! ### The sequence number at the scale (R70) -/

theorem completeCapture_lastSeq (body : CaptureBody) (savg : Int) (s : State) :
    (completeCapture body savg s).scale.lastSeq = s.scale.lastSeq := by
  have hend : (endCapture .range s).scale.lastSeq = s.scale.lastSeq := by rw [endCapture_scale]
  have hcal : ∀ (cal : Calibration) (a : Answer), (answerPending .panel a (changeCalibration cal
      (s.withScale { s.scale with pendingCapture := none }))).scale.lastSeq = s.scale.lastSeq := fun cal a => by
    rw [answerPending_touches _ _ _ .scale (by decide), changeCalibration_scale]
    rfl
  cases body with
  | zero calId drift offB offC => exact hcal _ _
  | span known calId =>
    unfold completeCapture
    dsimp only
    split
    · exact hend
    · split
      · exact hend
      · exact hcal _ _

theorem captureSample_lastSeq (x : Sample) (s : State) : (captureSample x s).scale.lastSeq = s.scale.lastSeq := by
  unfold captureSample
  split
  · rfl
  · split
    · rw [endCapture_scale]
    · split
      · exact completeCapture_lastSeq _ _ s
      · rfl

theorem tareSample_lastSeq (x : Sample) (s : State) : (tareSample x s).scale.lastSeq = s.scale.lastSeq := by
  unfold tareSample
  split
  · rfl
  · split
    · dsimp only
      rw [answerPending_touches _ _ _ .scale (by decide)]
      rfl
    · rfl

/-- R70: a delivered sample leaves its sequence number at the scale. -/
theorem takeSample_lastSeq (x : Sample) (s : State) : (takeSample x s).scale.lastSeq = some x.seq := by
  obtain ⟨_, _, _, _, _, hchain⟩ := weighChain_eq s.conv.tc x s.scale
  have htaken : takeSample x s = tareSample x (takeWeight (captureSample x (bandInputs (chained x s))).scale.net
      (captureSample x (bandInputs (chained x s))).scale.stable (captureSample x (bandInputs (chained x s)))) := rfl
  rw [htaken, tareSample_lastSeq, takeWeight_touches _ _ _ .scale (by decide), captureSample_lastSeq,
    bandInputs_touches _ .scale (by decide), chained_scale, hchain]

/-! ### The group that ends (R62, R71) -/

section
variable (c0 c1 c2 c3 : Int) (s : State)

/-- R62, R70, R71: what the end of a group leaves of the converter, before the arbiter chooses. -/
theorem finishWeigh_conv : (finishWeigh c0 c1 c2 c3 s).conv = { s.conv with
    exc := false, weighDiscard := false
    nextSeq := if s.conv.weighDiscard then s.conv.nextSeq else seqAfter s.conv.nextSeq } := by
  unfold finishWeigh
  dsimp only
  cases s.conv.weighDiscard
  · refine (takeSample_touches _ _ .conv (by decide)).trans ?_
    simp only [State.withConv_conv, Bool.false_eq_true, if_false]
  · rfl

theorem finishWeigh_discarded (h : s.conv.weighDiscard = true) :
    finishWeigh c0 c1 c2 c3 s = s.withConv { s.conv with exc := false, weighDiscard := false } := if_pos h

theorem finishWeigh_lastSeq (h : s.conv.weighDiscard = false) :
    (finishWeigh c0 c1 c2 c3 s).scale.lastSeq = some s.conv.nextSeq := by
  unfold finishWeigh
  rw [h]
  exact takeSample_lastSeq _ _

theorem endWeigh_weigh {began : Nat} (h : s.conv.state = .weigh began) : endWeigh c0 c1 c2 c3 s
    = (finishWeigh c0 c1 c2 c3 s).withConv (afterWeigh (finishWeigh c0 c1 c2 c3 s).conv) := by
  unfold endWeigh
  rw [h]

theorem endWeigh_none (h : ∀ began, s.conv.state ≠ .weigh began) : endWeigh c0 c1 c2 c3 s = s := by
  unfold endWeigh
  split
  next began hstate => exact absurd hstate (h began)
  · rfl
  · rfl

end

/-! ### A sample with no tare and no capture pending (R81 to R87) -/

/-- R39: outside RUNNING a weigh sample reaches nothing, with or without a live step. -/
theorem takeWeight_at_rest {net : Int} {stable : Bool} {s : State} (hs : s.engine.state ≠ .running) :
    takeWeight net stable s = s := by
  cases hl : s.engine.live with
  | some l => exact takeWeight_not_running hl hs
  | none =>
    unfold takeWeight
    rw [hl]

section
variable {x : Sample} {s : State}

theorem weighTaken_scale_eq (htare : s.scale.pendingTare = none) :
    (weighTaken x s).scale = weighChain s.conv.tc x s.scale := by
  rw [weighTaken_no_tare htare, takeWeight_touches _ _ _ .scale (by decide), weighDelivered_scale]

theorem weighTaken_mon_uncalibrated (h : s.scale.cal.span = 0) : (weighTaken x s).mon = s.mon := by
  have hspan : (chained x (groupEnded s)).scale.cal.span = 0 := by
    obtain ⟨_, _, _, _, _, hchain⟩ := weighChain_eq s.conv.tc x s.scale
    rw [chained_scale]
    exact (congrArg (·.cal.span) hchain).trans h
  rw [weighTaken_mon, weighDelivered, bandInputs, if_pos hspan, chained_mon]

/-- R86, R160, R161: the bands of F are the inputs of OVERLOAD and BOWL_ABSENT. -/
theorem weighTaken_mon_calibrated {f : Int} (h : s.scale.cal.span ≠ 0) (hf : f = (weighChain s.conv.tc x s.scale).gross) :
    (weighTaken x s).mon = (detectorInput .bowlAbsent
      (if f < 5000 then .toAssert else if 6000 < f then .toClear else .neither)
      (detectorInput .overload (if 100000 < f then .toAssert else if f < 95000 then .toClear else .neither) s)).mon := by
  have hscale : (chained x (groupEnded s)).scale = weighChain s.conv.tc x s.scale := chained_scale x (groupEnded s)
  have hspan : (chained x (groupEnded s)).scale.cal.span ≠ 0 := by
    obtain ⟨_, _, _, _, _, hchain⟩ := weighChain_eq s.conv.tc x s.scale
    rw [hscale, hchain]
    exact h
  rw [weighTaken_mon, weighDelivered, bandInputs, if_neg hspan, ← aboveAsserts_band 95000 100000 f,
    ← belowAsserts_band (by decide : (5000 : Int) ≤ 6000) f, hf, ← hscale]
  exact detectorInput_mon_congr _ _ (detectorInput_mon_congr _ _ (chained_mon x s))

/-- R80, R105: outside RUNNING a sample that no detector changes by reaches the scale, the counts and SCALE_EVENT alone. -/
theorem weighTaken_at_rest (htare : s.scale.pendingTare = none) (hs : s.engine.state ≠ .running)
    (hb : (weighTaken x s).asserts .bowlAbsent = s.asserts .bowlAbsent)
    (ho : (weighTaken x s).asserts .overload = s.asserts .overload) :
    weighTaken x s = { s with
      scale := (weighTaken x s).scale, mon := (weighTaken x s).mon, conv := (weighTaken x s).conv
      notices := if (weighTaken x s).scale.status = s.scale.status then s.notices
        else (post (.scaleEvent (weighTaken x s).scale.status s.scale.cal.calId (some x.seq)) s).notices } := by
  have hasserts : ∀ d, (weighDelivered x s).asserts d = (weighTaken x s).asserts d := fun d => by
    rw [State.asserts, State.asserts, weighTaken_mon]
  have hcalm := weighDelivered_calm ((hasserts _).trans hb) ((hasserts _).trans ho)
  have hengine : (weighDelivered x s).engine.state ≠ .running := by
    rw [hcalm]
    exact hs
  have hrest : weighTaken x s = weighDelivered x s := by rw [weighTaken_no_tare htare, takeWeight_at_rest hengine]
  rw [hrest]
  exact hcalm

end

/-- Settles O39: the arbiter's choice, then the discarded group and the group that is weighed. -/
theorem weighGroupEndsAndIsWeighed : Obligations.WeighGroupEndsAndIsWeighed := by
  unfold Obligations.WeighGroupEndsAndIsWeighed
  intro dt began c0 c1 c2 c3 s
  refine ⟨fun h => congrArg Host.Outcome.next (endWeigh_none c0 c1 c2 c3 (s.after dt) h), fun hstate => ?_⟩
  have hexec := endWeigh_weigh c0 c1 c2 c3 (s.after dt) hstate
  have hconv := finishWeigh_conv c0 c1 c2 c3 (s.after dt)
  have htconv : (endWeigh c0 c1 c2 c3 (s.after dt)).conv = afterWeigh (finishWeigh c0 c1 c2 c3 (s.after dt)).conv := by
    rw [hexec]
    rfl
  obtain ⟨_, _, _, harbiter⟩ := afterWeigh_eq (finishWeigh c0 c1 c2 c3 (s.after dt)).conv
  refine ⟨endWeigh c0 c1 c2 c3 (s.after dt), rfl, ?_, ?_, ?_, fun hdiscard => ?_,
    fun hkeep => ⟨?_, ?_, fun htare hcap => ?_⟩⟩
  · rw [htconv, harbiter, hconv]
  · rw [htconv, harbiter, hconv]
  · rw [htconv]
    have hpos : (finishWeigh c0 c1 c2 c3 (s.after dt)).conv.scanPos = s.conv.scanPos := by rw [hconv]; rfl
    have hdue : (finishWeigh c0 c1 c2 c3 (s.after dt)).conv.scanDue = s.conv.scanDue := by rw [hconv]; rfl
    cases hscan : s.conv.scanPos with
    | some ch =>
      rw [afterWeigh_scan (hpos.trans hscan)]
      exact ⟨rfl, rfl, hdue⟩
    | none =>
      cases hs : s.conv.scanDue
      · rw [afterWeigh_idle (hpos.trans hscan) (hdue.trans hs)]
        rfl
      · rw [afterWeigh_due (hpos.trans hscan) (hdue.trans hs)]
        exact ⟨rfl, rfl, rfl⟩
  · rw [hexec, State.withConv_conv, harbiter, finishWeigh_discarded c0 c1 c2 c3 (s.after dt) hdiscard]
    exact ⟨rfl, rfl, rfl, rfl⟩
  · rw [htconv, harbiter, hconv, State.after_conv, hkeep]
    rfl
  · rw [hexec]
    exact finishWeigh_lastSeq c0 c1 c2 c3 (s.after dt) hkeep
  · obtain ⟨x, hx⟩ : ∃ x, x = formSample c0 c1 c2 c3 (s.after dt) := ⟨_, rfl⟩
    have hend := endWeigh_delivers (c0 := c0) (c1 := c1) (c2 := c2) (c3 := c3) (s := s.after dt) hstate hkeep hcap
    rw [← hx] at hend
    have hscale : (endWeigh c0 c1 c2 c3 (s.after dt)).scale = weighChain s.conv.tc x s.scale := by
      rw [hend]
      exact weighTaken_scale_eq (s := s.after dt) htare
    have hmon : (endWeigh c0 c1 c2 c3 (s.after dt)).mon = (weighTaken x (s.after dt)).mon := by rw [hend]; rfl
    obtain ⟨_, _, _, _, _, hchain⟩ := weighChain_eq s.conv.tc x s.scale
    refine ⟨?_, ?_, fun hspan => ?_, fun hspan => ?_, fun hs ho hb => ?_⟩
    · rw [hscale, hchain]
    · rw [hscale, hchain]
    · rw [hmon, hscale, weighChain_uncalibrated hspan]
      exact ⟨rfl, rfl, rfl, rfl, rfl, weighTaken_mon_uncalibrated (s := s.after dt) hspan⟩
    · have hbands := weighTaken_mon_calibrated (x := x) (s := s.after dt) hspan rfl
      rw [hmon, hscale]
      refine ⟨?_, ?_, ?_, ?_, ?_, ?_⟩
      · rw [weighChain_calibrated hspan, hx, ← motionFlag_eq]
        simp only [List.any_cons, List.any_nil, Bool.or_false, ← atExtreme_eq, ← Bool.or_assoc]
        rfl
      · rw [weighChain_calibrated hspan]
        rfl
      · rw [weighChain_calibrated hspan]
        rfl
      · rw [weighChain_calibrated hspan]
        exact stableFlag_iff _
      · rw [weighChain_calibrated hspan]
        rfl
      · refine hbands.trans ?_
        exact detectorInput_mon_congr _ _ (detectorInput_mon_congr _ _ rfl)
    · have hasserts : ∀ d, (weighTaken x (s.after dt)).asserts d = (endWeigh c0 c1 c2 c3 (s.after dt)).asserts d :=
        fun d => by rw [State.asserts, State.asserts, hmon]
      have hrest := weighTaken_at_rest (s := s.after dt) htare hs ((hasserts _).trans hb) ((hasserts _).trans ho)
      have hseq : x.seq = s.conv.nextSeq := by rw [hx]; rfl
      rw [hend, ← hseq, hrest]
      exact ⟨rfl, rfl, rfl, rfl, rfl⟩

end Sys2Proof.Machine
end

section
/-! PROOFS. The end of a sense conversion: what is delivered, the detectors it feeds and the arbiter's choice (O38). -/

namespace Sys2Proof.Machine

/-! ### The TB that the Heat Unit holds (R74) -/

/-- R74: the TB delivered last to the Heat Unit, with its HELD flag. -/
def Heat.lastTb (h : Heat) : Int × Bool := (h.tb, h.tbHeld)

@[simp] theorem loopRun_lastTb (b : Bool) (h : Heat) : (loopRun b h).lastTb = h.lastTb := by
  obtain ⟨_, _, hrun⟩ := loopRun_eq b h
  rw [hrun]
  rfl

@[simp] theorem heatEntry_lastTb (b : Bool) (now : Nat) (r : StepRecord) (h : Heat) :
    (heatEntry b now r h).lastTb = h.lastTb := by
  obtain ⟨_, _, _, _, _, _, _, _, hfields⟩ := takeHeatFields_frame b now r h
  rw [heatEntry, loopRun_lastTb, hfields]
  rfl

@[simp] theorem judgeTarget_lastTb (h : Heat) : (judgeTarget h).lastTb = h.lastTb := by
  unfold judgeTarget
  split <;> rfl

@[simp] theorem entryActions_lastTb (s : State) : (entryActions s).heat.lastTb = s.heat.lastTb := by
  unfold entryActions
  dsimp only
  rw [syncWish_touches _ .heat (by decide)]
  rfl

@[simp] theorem enterTripped_lastTb (d : Detector) (s : State) : (enterTripped d s).heat.lastTb = s.heat.lastTb :=
  entryActions_lastTb _

@[simp] theorem enterEnded_lastTb (r : EndReason) (s : State) : (enterEnded r s).heat.lastTb = s.heat.lastTb :=
  entryActions_lastTb _

@[simp] theorem judgeAndPost_lastTb (s : State) : (judgeAndPost s).heat.lastTb = s.heat.lastTb := by
  unfold judgeAndPost
  split
  · exact judgeTarget_lastTb _
  · rfl

@[simp] theorem handOver_lastTb (r : StepRecord) (s : State) : (handOver r s).heat.lastTb = s.heat.lastTb := by
  have hwish : (handOver r s).heat
      = (judgeAndPost ((syncHold s).withHeat (heatEntry (syncHold s).isRunning (syncHold s).now r (syncHold s).heat))).heat :=
    syncWish_touches _ .heat (by decide)
  rw [hwish, judgeAndPost_lastTb, State.withHeat_heat, heatEntry_lastTb]
  rfl

@[simp] theorem enterStep_lastTb (i : Nat) (r : StepRecord) (s : State) : (enterStep i r s).heat.lastTb = s.heat.lastTb := by
  have hannounced : ∀ f, (announceStep i r f (handOver r (s.withEngine
      { s.engine with live := some (newLive i r f s.conv.tb) }))).heat.lastTb = s.heat.lastTb := fun f => by
    rw [announceStep_touches i r f _ .heat (by decide), handOver_lastTb]
    rfl
  unfold enterStep
  dsimp only
  split
  · rw [enterTripped_lastTb, hannounced]
  · exact hannounced _

@[simp] theorem closeStep_lastTb (e : StepEnd) (s : State) : (closeStep e s).heat.lastTb = s.heat.lastTb := by
  unfold closeStep
  split <;> rfl

theorem endStepAt_lastTb : ∀ (rest : List StepRecord) (i : Nat) (e : StepEnd) (s : State),
    (endStepAt rest i e s).heat.lastTb = s.heat.lastTb
  | [], _, e, s => (enterEnded_lastTb _ _).trans (closeStep_lastTb e s)
  | r :: rest, i, e, s => by
    have hentered : (enterStep (i + 1) r (closeStep e s)).heat.lastTb = s.heat.lastTb := by
      rw [enterStep_lastTb, closeStep_lastTb]
    have hcome : (comeIn (enterStep (i + 1) r (closeStep e s))).1.heat.lastTb = s.heat.lastTb :=
      (congrArg Heat.lastTb (comeIn_touches _ .heat (by decide))).trans hentered
    unfold endStepAt
    dsimp only
    split
    · split
      next heq => rwa [heq] at hcome
      next heq =>
        rw [heq] at hcome
        exact (endStepAt_lastTb rest (i + 1) _ _).trans hcome
    · exact hentered

@[simp] theorem endStep_lastTb (e : StepEnd) (s : State) : (endStep e s).heat.lastTb = s.heat.lastTb := by
  unfold endStep
  split
  · exact endStepAt_lastTb _ _ e s
  · rfl

theorem takeTempReached_lastTb (s : State) : (takeTempReached s).heat.lastTb = s.heat.lastTb := by
  have hchecks : (settleOutcome (phaseChecks (toPhase .dwell s))).heat.lastTb = s.heat.lastTb := by
    have hphase : (phaseChecks (toPhase .dwell s)).1.heat = s.heat := phaseChecks_touches _ .heat (by decide)
    unfold settleOutcome
    split
    next heq =>
      rw [heq] at hphase
      rw [endStep_lastTb, hphase]
    next heq =>
      rw [heq] at hphase
      rw [hphase]
  unfold takeTempReached
  split
  · split
    · split
      · exact endStep_lastTb _ s
      · split
        · exact hchecks
        · rfl
    · rfl
  · rfl

/-- R74, R122: whatever a target newly met ends or begins, the Heat Unit holds the TB delivered. -/
theorem judgeDelivered_lastTb (s : State) : (judgeDelivered s).heat.lastTb = s.heat.lastTb := by
  unfold judgeDelivered
  split
  · exact (takeTempReached_lastTb _).trans (judgeTarget_lastTb _)
  · rfl

/-! ### The converter takes a code (R72, R73, R75) -/

theorem plausible_eq (code : Nat) : plausible code = decide (20 ≤ code ∧ code ≤ 4075) :=
  (Bool.decide_and (20 ≤ code) (code ≤ 4075)).symm

/-- R72 to R75: the converter with a code of channel `ch` taken. -/
def takeCode (ch : Channel) (code : Nat) (cal : Calibration) (c : Converter) : Converter :=
  match ch with
  | .tb => takeTbCode code cal.offB c
  | .tc => takeTcCode code cal.offC c
  | .im => { c with im := imValue code, imSeen := true }
  | .vs => { c with vs := vsValue code, vsSeen := true }

section
variable (ch : Channel) (code : Nat) (cal : Calibration) (c : Converter)

/-- R72, R73: what each channel's code leaves of TB. -/
theorem takeCode_tb :
    (takeCode ch code cal c).tb = (if ch = .tb ∧ plausible code = true then probeValue code cal.offB else c.tb)
      ∧ (takeCode ch code cal c).tbHeld = (if ch = .tb then !plausible code else c.tbHeld)
      ∧ (takeCode ch code cal c).tbHist = if ch = .tb then c.tbHist.drop 1 ++ [plausible code] else c.tbHist := by
  cases ch
  case tb => exact ⟨by simp [takeCode, takeTbCode], rfl, rfl⟩
  all_goals exact ⟨rfl, rfl, rfl⟩

/-- R72, R73, R102: what each channel's code leaves of TC. -/
theorem takeCode_tc :
    (takeCode ch code cal c).tc = (if ch = .tc ∧ plausible code = true then probeValue code cal.offC else c.tc)
      ∧ (takeCode ch code cal c).tcHeld = (if ch = .tc then !plausible code else c.tcHeld)
      ∧ (takeCode ch code cal c).tcHist = (if ch = .tc then c.tcHist.drop 1 ++ [plausible code] else c.tcHist)
      ∧ (takeCode ch code cal c).tcOffset = if ch = .tc ∧ plausible code = true then cal.offC else c.tcOffset := by
  cases ch
  case tc => exact ⟨by simp [takeCode, takeTcCode], rfl, rfl, by simp [takeCode, takeTcCode]⟩
  all_goals exact ⟨rfl, rfl, rfl, rfl⟩

/-- R75: what each channel's code leaves of IM and VS. -/
theorem takeCode_im_vs : (takeCode ch code cal c).im = (if ch = .im then code * 4 else c.im)
    ∧ (takeCode ch code cal c).vs = if ch = .vs then code * 1200 / 4096 else c.vs := by
  cases ch <;> exact ⟨rfl, rfl⟩

/-- R65: a code taken leaves what the arbiter chooses by. -/
theorem takeCode_arbiter : (takeCode ch code cal c).scanDue = c.scanDue
    ∧ (takeCode ch code cal c).weighWaiting = c.weighWaiting
    ∧ (takeCode ch code cal c).senseDiscard = c.senseDiscard := by
  cases ch <;> exact ⟨rfl, rfl, rfl⟩

end

/-! ### The delivery (R71, R74, R75) -/

/-- R71: the first scan is discarded. -/
theorem deliverSense_discarded {ch : Channel} {code : Nat} {s : State} (h : s.conv.senseDiscard = true) :
    deliverSense ch code s = s := if_pos h

/-- R71: past the first scan a code is delivered. -/
theorem deliverSense_delivers {ch : Channel} {code : Nat} {s : State} (h : s.conv.senseDiscard = false) :
    deliverSense ch code s = match ch with
      | .tb => deliverTb code s
      | .tc => deliverTc code s
      | .im => deliverIm code s
      | .vs => deliverVs code s := if_neg (by rw [h]; decide)

section
variable (code : Nat) (s : State)

theorem tbWarmed_conv : (tbWarmed code s).conv = takeTbCode code s.scale.cal.offB s.conv := by
  unfold tbWarmed probeInput
  dsimp only
  exact (detectorInput_touches .dryPan _ _ .conv (by decide)).trans (detectorInput_touches .probeB _ _ .conv (by decide))

theorem tbWarmed_lastTb : (tbWarmed code s).heat.lastTb
    = ((takeTbCode code s.scale.cal.offB s.conv).tb, (takeTbCode code s.scale.cal.offB s.conv).tbHeld) := by
  unfold tbWarmed
  dsimp only
  rw [State.withHeat_heat, takeTb, loopRun_lastTb]
  rfl

theorem deliverTb_conv : (deliverTb code s).conv = takeTbCode code s.scale.cal.offB s.conv := by
  rw [deliverTb_eq, State.withStir_conv, judgeDelivered_touches _ .conv (by decide), tbWarmed_conv]

/-- R74: TB10 at the Heat Unit and the Stir Unit. -/
theorem deliverTb_units : (deliverTb code s).heat.tb = (takeTbCode code s.scale.cal.offB s.conv).tb
    ∧ (deliverTb code s).heat.tbHeld = (takeTbCode code s.scale.cal.offB s.conv).tbHeld
    ∧ (deliverTb code s).stir.tb = (takeTbCode code s.scale.cal.offB s.conv).tb := by
  have hheat : (deliverTb code s).heat.lastTb = ((takeTbCode code s.scale.cal.offB s.conv).tb,
      (takeTbCode code s.scale.cal.offB s.conv).tbHeld) := by
    rw [deliverTb_eq, State.withStir_heat, judgeDelivered_lastTb, tbWarmed_lastTb]
  exact ⟨congrArg Prod.fst hheat, congrArg Prod.snd hheat, by rw [deliverTb_eq, State.withStir_stir]⟩

theorem deliverTc_conv : (deliverTc code s).conv = takeTcCode code s.scale.cal.offC s.conv := by
  unfold deliverTc probeInput
  dsimp only
  exact (detectorInput_touches .overheat _ _ .conv (by decide)).trans (detectorInput_touches .probeC _ _ .conv (by decide))

theorem deliverIm_conv : (deliverIm code s).conv = { s.conv with im := imValue code, imSeen := true } :=
  stallCurrentInput_touches _ _ .conv (by decide)

theorem deliverVs_conv : (deliverVs code s).conv = { s.conv with vs := vsValue code, vsSeen := true } :=
  detectorInput_touches .supplyLow _ _ .conv (by decide)

variable {s} in
/-- R71 to R75: past the first scan, a code reaches the converter as its channel's. -/
theorem deliverSense_conv {ch : Channel} (h : s.conv.senseDiscard = false) :
    (deliverSense ch code s).conv = takeCode ch code s.scale.cal s.conv := by
  rw [deliverSense_delivers h]
  cases ch
  · exact deliverTb_conv code s
  · exact deliverTc_conv code s
  · exact deliverIm_conv code s
  · exact deliverVs_conv code s

end

/-! ### The detectors' inputs (R73 to R76, R158) -/

theorem bandIm_eq (im : Nat) : bandIm im = if 12000 < im then .above else if im < 10000 then .below else .inside := by
  unfold bandIm band
  norm_cast

theorem bandIm_ne_above_iff (im : Nat) : bandIm im ≠ .above ↔ im ≤ 12000 := by
  rw [bandIm_eq]
  by_cases h : 12000 < im
  · simp [h]
  · rw [if_neg h]
    refine ⟨fun _ => not_lt.mp h, fun _ => ?_⟩
    split <;> exact Band.noConfusion

theorem bandVs_qualifies (v : Nat) :
    belowAsserts (bandVs v) = if v < 900 then .toAssert else if 930 < v then .toClear else .neither := by
  unfold bandVs
  rw [belowAsserts_band (by decide)]
  norm_cast

/-- R158: an IM conversion at STALL's current count. -/
theorem stallCurrentInput_mon (b : Band) (s : State) : (stallCurrentInput b s).mon
    = if s.mon.stall.asserted then s.mon
      else if b ≠ .above then { s.mon with stallCurrent := 0 }
      else if s.mon.stallCurrent + 1 < 10 then { s.mon with stallCurrent := s.mon.stallCurrent + 1 }
      else { s.mon with
        stall := { asserted := true, latched := true, setCount := 0, clearCount := 0 }, stallCurrent := 0 } := by
  have hset : (changeDetector .stall true s).mon = { s.mon with
      stall := { asserted := true, latched := true, setCount := 0, clearCount := 0 }, stallCurrent := 0 } := by
    rw [changeDetector_mon]
    simp [changedMonitor, Monitor.put, Monitor.get, DetState.changed]
  unfold stallCurrentInput stallCurrentLength
  by_cases hstall : s.mon.stall.asserted = true
  · rw [if_pos hstall, if_pos (by exact hstall)]
  · rw [if_neg hstall, if_neg (by exact hstall)]
    by_cases hb : b = .above
    · rw [if_pos hb, if_neg (not_not_intro hb)]
      by_cases hcount : s.mon.stallCurrent + 1 < 10
      · rw [if_pos hcount, if_neg (by omega)]
        rfl
      · rw [if_neg hcount, if_pos (by omega), hset]
    · rw [if_neg hb, if_pos hb]
      rfl

section
variable {code : Nat} {s u : State} (h : u.mon = s.mon)
include h

/-- R73, R74: TB at PROBE_FAULT_B and DRY_PAN. -/
theorem deliverTb_mon {tb : Int} {hist : List Bool} (htb : tb = (takeTbCode code u.scale.cal.offB u.conv).tb)
    (hhist : hist = (takeTbCode code u.scale.cal.offB u.conv).tbHist) : (deliverTb code u).mon
    = (detectorInput .dryPan (if 1750 < tb then .toAssert else if tb < 1500 then .toClear else .neither)
        (detectorInput .probeB (probeQualifies (s.asserts .probeB) (plausible code) (implausibleCount hist)) s)).mon := by
  have hasserts : u.asserts .probeB = s.asserts .probeB := by rw [State.asserts, State.asserts, h]
  rw [deliverTb_eq, State.withStir_mon, judgeDelivered_touches _ .mon (by decide), ← aboveAsserts_band, ← hasserts, htb,
    hhist]
  unfold tbWarmed probeInput
  dsimp only
  exact detectorInput_mon_congr _ _ (detectorInput_mon_congr _ _ h)

/-- R73, R74: TC at PROBE_FAULT_C and OVERHEAT. -/
theorem deliverTc_mon {tc : Int} {hist : List Bool} (htc : tc = (takeTcCode code u.scale.cal.offC u.conv).tc)
    (hhist : hist = (takeTcCode code u.scale.cal.offC u.conv).tcHist) : (deliverTc code u).mon
    = (detectorInput .overheat (if 2300 < tc then .toAssert else if tc < 2000 then .toClear else .neither)
        (detectorInput .probeC (probeQualifies (s.asserts .probeC) (plausible code) (implausibleCount hist)) s)).mon := by
  have hasserts : u.asserts .probeC = s.asserts .probeC := by rw [State.asserts, State.asserts, h]
  rw [← aboveAsserts_band, ← hasserts, htc, hhist]
  unfold deliverTc probeInput
  dsimp only
  exact detectorInput_mon_congr _ _ (detectorInput_mon_congr _ _ h)

/-- R75, R158: IM at STALL's current count. -/
theorem deliverIm_mon : (deliverIm code u).mon
    = if s.mon.stall.asserted then s.mon
      else if code * 4 ≤ 12000 then { s.mon with stallCurrent := 0 }
      else if s.mon.stallCurrent + 1 < 10 then { s.mon with stallCurrent := s.mon.stallCurrent + 1 }
      else { s.mon with
        stall := { asserted := true, latched := true, setCount := 0, clearCount := 0 }, stallCurrent := 0 } := by
  refine (stallCurrentInput_mon (bandIm (imValue code)) _).trans ?_
  simp only [bandIm_ne_above_iff, imValue, State.withConv_mon, h]

/-- R75: VS at SUPPLY_LOW. -/
theorem deliverVs_mon {v : Nat} (hv : v = code * 1200 / 4096) : (deliverVs code u).mon
    = (detectorInput .supplyLow (if v < 900 then .toAssert else if 930 < v then .toClear else .neither) s).mon := by
  rw [← bandVs_qualifies, hv]
  exact detectorInput_mon_congr _ _ h

end

/-! ### The arbiter after a sense conversion (R65) -/

/-- R62, R65: where the scan stands after the conversion of `ch`. -/
def scanAfter (ch : Channel) (due : Bool) : Option Channel :=
  match ch with
  | .tb => some .tc
  | .tc => some .im
  | .im => some .vs
  | .vs => if due then some .tb else none

section
variable (now : Nat) (ch : Channel) (c : Converter)

/-- R65, R71: what moving the scan on can change of the converter. -/
theorem advanceScan_eq : ∃ due, advanceScan ch c = { c with
    scanPos := scanAfter ch c.scanDue, scanDue := due
    senseDiscard := if ch = .vs then false else c.senseDiscard } := by
  cases ch
  case vs => exact ⟨false, rfl⟩
  all_goals exact ⟨c.scanDue, rfl⟩

/-- R65: what the arbiter's choice can change of the converter. -/
theorem afterSense_eq : ∃ state pos due waiting exc, afterSense now ch c = { c with
    state := state, scanPos := pos, scanDue := due, weighWaiting := waiting, exc := exc
    senseDiscard := if ch = .vs then false else c.senseDiscard } := by
  obtain ⟨due, hscan⟩ := advanceScan_eq ch c
  unfold afterSense
  rw [hscan]
  dsimp only
  split
  · exact ⟨_, _, _, _, _, rfl⟩
  · split
    · exact ⟨_, _, _, c.weighWaiting, c.exc, rfl⟩
    · exact ⟨_, _, _, c.weighWaiting, c.exc, rfl⟩

/-- R65: the arbiter's choice: a waiting weigh trigger, the scan, or IDLE. -/
theorem afterSense_chooses :
    if c.weighWaiting then
      (afterSense now ch c).state = .weigh now ∧ (afterSense now ch c).exc = true
        ∧ (afterSense now ch c).weighWaiting = false ∧ (afterSense now ch c).scanPos = scanAfter ch c.scanDue
    else match scanAfter ch c.scanDue with
      | some ch' => (afterSense now ch c).state = .sense ch' ∧ (afterSense now ch c).scanPos = nextChannel ch'
      | none => (afterSense now ch c).state = .idle ∧ (afterSense now ch c).scanPos = none := by
  obtain ⟨due, hscan⟩ := advanceScan_eq ch c
  unfold afterSense
  rw [hscan]
  dsimp only
  cases c.weighWaiting
  · rw [if_neg Bool.false_ne_true, if_neg Bool.false_ne_true]
    cases scanAfter ch c.scanDue with
    | some ch' => exact ⟨rfl, rfl⟩
    | none => exact ⟨rfl, rfl⟩
  · rw [if_pos rfl, if_pos rfl]
    exact ⟨rfl, rfl, rfl, rfl⟩

end

/-! ### The end of the conversion -/

theorem endSense_sense {ch : Channel} {code : Nat} {s : State} (h : s.conv.state = .sense ch) : endSense code s
    = (deliverSense ch code s).withConv (afterSense s.now ch (deliverSense ch code s).conv) := by
  have hnow : (deliverSense ch code s).now = s.now := deliverSense_touches ch code s .now (by decide)
  unfold endSense
  rw [h]
  dsimp only
  rw [hnow]

theorem endSense_none {code : Nat} {s : State} (h : ∀ ch, s.conv.state ≠ .sense ch) : endSense code s = s := by
  unfold endSense
  split
  next ch hstate => exact absurd hstate (h ch)
  · rfl
  · rfl

/-- R65: whether or not it is delivered, a code leaves what the arbiter chooses by. -/
theorem deliverSense_arbiter (ch : Channel) (code : Nat) (s : State) :
    (deliverSense ch code s).conv.scanDue = s.conv.scanDue
      ∧ (deliverSense ch code s).conv.weighWaiting = s.conv.weighWaiting
      ∧ (deliverSense ch code s).conv.senseDiscard = s.conv.senseDiscard := by
  cases h : s.conv.senseDiscard
  · rw [deliverSense_conv code h]
    obtain ⟨hdue, hwait, hdiscard⟩ := takeCode_arbiter ch code s.scale.cal s.conv
    exact ⟨hdue, hwait, hdiscard.trans h⟩
  · rw [deliverSense_discarded h]
    exact ⟨rfl, rfl, h⟩

/-- Settles O38: the values, the detectors' inputs channel by channel, then the arbiter's choice. -/
theorem senseConversionEndsAndIsDelivered : Obligations.SenseConversionEndsAndIsDelivered := by
  unfold Obligations.SenseConversionEndsAndIsDelivered
  intro dt code s _
  refine ⟨fun h => congrArg Host.Outcome.next (endSense_none (s := s.after dt) h), fun ch hstate => ?_⟩
  have hexec : exec (.senseConversionEnd dt code) s = .next ((deliverSense ch code (s.after dt)).withConv
      (afterSense (s.now + dt) ch (deliverSense ch code (s.after dt)).conv)) :=
    congrArg Host.Outcome.next (endSense_sense (s := s.after dt) hstate)
  have hreach := deliverSense_touches ch code (s.after dt)
  obtain ⟨hdue, hwait, hdiscard⟩ := deliverSense_arbiter ch code (s.after dt)
  obtain ⟨_, _, _, _, _, harbiter⟩ := afterSense_eq (s.now + dt) ch (deliverSense ch code (s.after dt)).conv
  refine ⟨_, hexec, ?_, ?_, ?_, hreach .plan (by decide), hreach .scale (by decide), hreach .permit (by decide),
    hreach .store (by decide)⟩
  · intro good value c
    rw [State.withConv_conv, harbiter]
    have hgood : good = plausible code := (plausible_eq code).symm
    cases hfirst : c.senseDiscard
    · rw [if_neg Bool.false_ne_true]
      have hconv := deliverSense_conv (s := s.after dt) (ch := ch) code hfirst
      have hdelivers := deliverSense_delivers (s := s.after dt) (ch := ch) (code := code) hfirst
      obtain ⟨htb, htbHeld, htbHist⟩ := takeCode_tb ch code s.scale.cal s.conv
      obtain ⟨htc, htcHeld, htcHist, htcOffset⟩ := takeCode_tc ch code s.scale.cal s.conv
      obtain ⟨him, hvs⟩ := takeCode_im_vs ch code s.scale.cal s.conv
      rw [hconv, hgood]
      refine ⟨htb, htbHeld, htbHist, htc, htcHeld, htcHist, him, hvs, htcOffset, fun htbch => ?_, ?_⟩
      · subst htbch
        rw [hdelivers, State.withConv_heat, State.withConv_stir]
        exact deliverTb_units code (s.after dt)
      · rw [hdelivers, State.withConv_mon, State.withConv_stir]
        cases ch
        case tb => exact deliverTb_mon (s := s) (u := s.after dt) rfl rfl rfl
        case tc => exact deliverTc_mon (s := s) (u := s.after dt) rfl rfl rfl
        case im =>
          have hband := bandIm_eq (code * 4)
          exact ⟨deliverIm_mon (s := s) (u := s.after dt) rfl, congrArg (fun b => some (code * 4, b)) hband⟩
        case vs => exact deliverVs_mon (s := s) (u := s.after dt) rfl rfl
    · rw [if_pos rfl, deliverSense_discarded (s := s.after dt) hfirst]
      exact ⟨rfl, rfl, rfl, rfl, rfl, rfl, rfl, rfl, rfl, rfl, rfl, rfl, rfl⟩
  · rw [State.withConv_conv, harbiter, hdiscard]
    rfl
  · have hchoice := afterSense_chooses (s.now + dt) ch (deliverSense ch code (s.after dt)).conv
    rw [hwait, hdue] at hchoice
    intro next
    have hnext : next = scanAfter ch s.conv.scanDue := by cases ch <;> rfl
    rw [hnext]
    exact hchoice

end Sys2Proof.Machine
end

section
/-! PROOFS. The commands that leave the Scale Unit and the ports alone: what any unit's event but the end of a weigh group, the
scale's two deadlines and the end of the scan can change, and what the owner of a request that is not the scale's can. -/

namespace Sys2Proof.Machine

/-- The parts of the state other than the Scale Unit, the ports with their receiver and PSDO, and the queue. -/
def offScale : List Block :=
  [.now, .free, .plan, .engine, .conv, .heat, .stir, .lid, .mon, .permit, .notices, .store]

theorem engineReach_offScale : engineReach ⊆ offScale := by decide
theorem monitorReach_offScale : monitorReach ⊆ offScale := by decide
theorem converterReach_offScale : converterReach ⊆ offScale := by decide

/-! ### The units' events -/

theorem countTenths_offScale (s : State) : Touches offScale s (countTenths s) :=
  (((withEngine_touches _ s).mono (by decide)).trans ((useFree_touches _).mono (by decide))).trans
    ((useFree_touches _).mono (by decide))

theorem endSense_offScale (code : Nat) (s : State) : Touches offScale s (endSense code s) := by
  unfold endSense
  split
  · exact ((deliverSense_touches _ code s).mono converterReach_offScale).trans ((withConv_touches _ _).mono (by decide))
  · exact Touches.refl _ s
  · exact Touches.refl _ s

theorem controlUpdate_offScale (s : State) : Touches offScale s (controlUpdate s) :=
  ((((withStir_touches _ s).mono (by decide)).trans ((updateApplied_touches _).mono (by decide))).trans
    ((withStir_touches _ _).mono (by decide))).trans
      (((withStir_touches _ _).mono (by decide)).trans ((stallHandover_touches _ _ _).mono monitorReach_offScale))

theorem lidSample_offScale (a b : Bool) (s : State) : Touches offScale s (lidSample a b s) := by
  have hfed := fun x => (((withLid_touches x s).mono (us := offScale) (by decide)).trans
    ((lidOpenInput_touches a _).mono monitorReach_offScale)).trans ((lockFaultInput_touches b _).mono monitorReach_offScale)
  exact Touches.ite _ ((hfed _).trans ((takeLockConfirmation_touches _).mono engineReach_offScale)) (hfed _)

theorem expirePlateau_offScale (s : State) : Touches offScale s (expirePlateau s) :=
  ((withHeat_touches _ s).mono (by decide)).trans ((detectorInput_touches _ _ _).mono monitorReach_offScale)

theorem lapsePermit_offScale (r : LapseReason) (s : State) : Touches offScale s (lapsePermit r s) :=
  (((withPermit_touches _ s).mono (by decide)).trans ((post_touches _ _).mono (by decide))).trans
    ((takeLapse_touches _).mono engineReach_offScale)

theorem comeDue_offScale (s : State) : Touches offScale s (comeDue s) := by
  unfold comeDue
  split
  · exact ((withPermit_touches _ s).mono (by decide)).trans ((postPanel_touches _ _).mono (by decide))
  · exact Touches.refl _ s

theorem endLoad_offScale (s : State) : Touches offScale s (endLoad s) := by
  obtain ⟨_, he⟩ | ⟨slot, _, ⟨r, rev, he⟩ | ⟨planId, steps, _, he⟩⟩ := endLoad_cases s
  all_goals rw [he]
  · exact Touches.refl _ s
  · exact (endOperation_touches _ _ _ _ s).mono (by decide)
  · have hplan : Touches offScale s (replacePlan slot planId steps s) :=
      ((withPlan_touches _ s).mono (by decide)).trans ((post_touches _ _).mono (by decide))
    exact hplan.trans ((endOperation_touches _ _ _ _ _).mono (by decide))

/-- The unit events that reach the Scale Unit (R62, R91, R97, R101). -/
def scaleEvent : Instr → Bool
  | .weighGroupEnd _ _ _ _ _ | .tareDeadline _ | .captureDeadline _ | .scanEnd _ => true
  | _ => false

/-- Every other unit event leaves the Scale Unit and the ports alone. -/
theorem unitEvent_offScale {c : Instr} {s t : State} (hu : unitEvent c = true) (hs : scaleEvent c = false)
    (he : exec c s = .next t) : Touches offScale s t := by
  have hafter : ∀ dt, Touches offScale s (s.after dt) := fun dt => (after_touches dt s).mono (by decide)
  cases c
  case timeBaseTick dt =>
    cases he
    exact (hafter dt).trans ((countTenths_offScale _).trans ((testTimer_touches _).mono engineReach_offScale))
  case settleDeadline dt => cases he; exact (hafter dt).trans ((settleRunsOut_touches _).mono engineReach_offScale)
  case senseTimerExpiry dt => cases he; exact (hafter dt).trans ((withConv_touches _ _).mono (by decide))
  case senseConversionEnd dt code => cases he; exact (hafter dt).trans (endSense_offScale code _)
  case freeTrigger dt => cases he; exact (hafter dt).trans ((expireFree_touches _).mono (by decide))
  case tachEdge dt => cases he; exact (hafter dt).trans ((tachEdge_touches _).mono (by decide))
  case noEdgeTimeout dt => cases he; exact (hafter dt).trans ((noEdgeTimeout_touches _).mono (by decide))
  case controlUpdate dt => cases he; exact (hafter dt).trans (controlUpdate_offScale _)
  case lidSample dt a b => cases he; exact (hafter dt).trans (lidSample_offScale a b _)
  case plateauTimer dt => cases he; exact (hafter dt).trans (expirePlateau_offScale _)
  case frameEnd dt => cases he; exact (hafter dt).trans ((withHeat_touches _ _).mono (by decide))
  case slotBoundary dt => cases he; exact (hafter dt).trans ((withHeat_touches _ _).mono (by decide))
  case rampRise dt => cases he; exact (hafter dt).trans ((withHeat_touches _ _).mono (by decide))
  case permitExpiry dt =>
    cases he
    exact (hafter dt).trans (Touches.ite _ (lapsePermit_offScale _ _) (Touches.refl _ _))
  case permitDueTimer dt => cases he; exact (hafter dt).trans (comeDue_offScale _)
  case uptimeTick dt => cases he; exact (hafter dt).trans ((withNotices_touches _ _).mono (by decide))
  case wordWriteEnd dt a b => cases he; exact (hafter dt).trans ((endWordWrite_touches a b _).mono (by decide))
  case loadReadEnd dt => cases he; exact (hafter dt).trans (endLoad_offScale _)
  all_goals simp [unitEvent, scaleEvent] at hu hs

/-! ### The requests' owners -/

theorem serveEdit_offScale (p : Port) {r : Request} (hr : editsPlan r = true) (s : State) :
    Touches offScale s (serveRequest p r s).1 := by
  have hedit : ∀ planId steps, Touches offScale s (acceptEdit p planId steps s) := fun planId steps =>
    (acceptEdit_touches p planId steps s).mono (by decide)
  cases r
  case insertStep rev i raw =>
    obtain he | ⟨_, _, _, _, _, _, he⟩ := serveInsertStep_cases p rev i raw s
    all_goals rw [serveRequest, he]
    · exact Touches.refl _ s
    · exact hedit _ _
  case replaceStep rev i raw =>
    obtain he | ⟨_, _, _, _, _, _, _, he⟩ := serveReplaceStep_cases p rev i raw s
    all_goals rw [serveRequest, he]
    · exact Touches.refl _ s
    · exact (replaceAt_touches p i _ _ s).mono (by decide)
  case removeStep rev i =>
    obtain he | ⟨_, _, _, he⟩ := serveRemoveStep_cases p rev i s
    all_goals rw [serveRequest, he]
    · exact Touches.refl _ s
    · exact hedit _ _
  case clearPlan rev =>
    obtain he | ⟨_, _, he⟩ := serveClearPlan_cases p rev s
    all_goals rw [serveRequest, he]
    · exact Touches.refl _ s
    · exact hedit _ _
  case setPlanId rev i =>
    obtain he | ⟨_, he⟩ := serveSetPlanId_cases p rev i s
    all_goals rw [serveRequest, he]
    · exact Touches.refl _ s
    · exact hedit _ _
  all_goals cases hr

theorem servePermit_offScale (key : Byte) (s : State) : Touches offScale s (servePermit key s).1 :=
  servePermit_keeps (P := Touches offScale s) (Touches.refl _ s) (fun r _ => lapsePermit_offScale r s)
    (fun _ => (withPermit_touches _ s).mono (by decide))
    (((withPermit_touches _ s).mono (by decide)).trans ((takeRearm_touches _).mono engineReach_offScale)) key

/-- R50: a run begun reaches the Scale Unit and the panel by the capture it aborts alone. -/
theorem beginRun_offScale (i : Nat) (r : StepRecord) (s : State) :
    Touches offScale (endCapture .aborted s) (beginRun i r s) := by
  have hentered : Touches offScale (endCapture .aborted s)
      (enterStep i r (post (.engineState .running (some i) 0) (freshRun s))) :=
    (((withEngine_touches _ _).mono (by decide)).trans ((post_touches _ _).mono (by decide))).trans
      ((enterStep_touches i r _).mono engineReach_offScale)
  rw [beginRun_eq]
  exact Touches.ite _ (hentered.trans ((settleOutcome_touches ((comeIn_touches _).mono reach_engine)).mono
    engineReach_offScale)) hentered

/-- The requests whose owners reach the Scale Unit: its own, and START_RUN by the capture it aborts. -/
def scaleRequest : Request → Bool
  | .startRun _ _ | .tarePush | .tarePop | .tareClear | .restartScale | .calZero _ _ _ _ | .calSpan _ _ => true
  | _ => false

/-- Every other request's owner leaves the Scale Unit and the ports alone. -/
theorem serveRequest_offScale (p : Port) {r : Request} (hr : scaleRequest r = false) (s : State) :
    Touches offScale s (serveRequest p r s).1 := by
  have hstore : startsStore r = true → Touches offScale s (serveRequest p r s).1 := fun h =>
    (serveRequest_store_touches p h s).mono (by decide)
  cases r
  case readStatus => exact Touches.refl _ s
  case takeNotice => exact (serveTakeNotice_touches p s).mono (by decide)
  case setNoticeMask => exact (withNotices_touches _ s).mono (by decide)
  case readPlanHeader => exact Touches.refl _ s
  case readStep i => exact (serveReadStep_touches i s).mono (by decide)
  case insertStep => exact serveEdit_offScale p rfl s
  case replaceStep => exact serveEdit_offScale p rfl s
  case removeStep => exact serveEdit_offScale p rfl s
  case clearPlan => exact serveEdit_offScale p rfl s
  case setPlanId => exact serveEdit_offScale p rfl s
  case pause => exact (servePause_touches s).mono engineReach_offScale
  case resume => exact (serveResume_touches s).mono engineReach_offScale
  case abort => exact (serveAbort_touches s).mono engineReach_offScale
  case skipStep i => exact (serveSkipStep_touches i s).mono engineReach_offScale
  case confirm i => exact (serveConfirm_touches i s).mono engineReach_offScale
  case clearTrip => exact (serveClearTrip_touches s).mono engineReach_offScale
  case readRunLog i => exact (serveReadRunLog_touches i s).mono (by decide)
  case readCal => exact Touches.refl _ s
  case permit key => exact servePermit_offScale key s
  case clearLatched x => exact (serveClearLatched_touches x s).mono (by decide)
  case libSave => exact hstore rfl
  case libLoad => exact hstore rfl
  case libErase => exact hstore rfl
  case libInfo => exact Touches.refl _ s
  case libWriteCal => exact hstore rfl
  all_goals cases hr

end Sys2Proof.Machine
end

section
/-! PROOFS. The Scale Unit's figures (O45): each operation of the Scale Unit keeps them in agreement and in range, and no other
command reaches them. -/

namespace Sys2Proof.Machine

/-! ### Rounded averages (R101, R103) -/

theorem roundDiv_nonneg {n : Int} (h : 0 ≤ n) (d : Nat) : 0 ≤ roundDiv n d :=
  mul_nonneg (Int.sign_nonneg_iff.mpr h) (Int.natCast_nonneg _)

/-- The rounded average of eight raw sums lies between the least and the greatest raw sum. -/
theorem roundDiv_eight_range {n : Int} (h : -2097152 * 8 ≤ n ∧ n ≤ 2097148 * 8) :
    -2097152 ≤ roundDiv n 8 ∧ roundDiv n 8 ≤ 2097148 := by
  unfold roundDiv
  obtain hneg | rfl | hpos := lt_trichotomy n 0
  · rw [Int.sign_eq_neg_one_of_neg hneg]
    omega
  · decide
  · rw [Int.sign_eq_one_of_pos hpos]
    omega

theorem clampInt_range {lo hi : Int} (h : lo ≤ hi) (x : Int) : lo ≤ clampInt lo hi x ∧ clampInt lo hi x ≤ hi := by
  unfold clampInt
  split_ifs <;> omega

/-- R68, R81: the raw sum of four clipped counts. -/
theorem rawSum_formSample_range (c0 c1 c2 c3 : Int) (s : State) :
    -2097152 ≤ rawSum (formSample c0 c1 c2 c3 s) ∧ rawSum (formSample c0 c1 c2 c3 s) ≤ 2097148 := by
  have hclip : ∀ c, -524288 ≤ clipCount c ∧ clipCount c ≤ 524287 := clampInt_range (by decide)
  have h0 := hclip c0
  have h1 := hclip c1
  have h2 := hclip c2
  have h3 := hclip c3
  unfold rawSum formSample
  dsimp only
  omega

/-! ### The figures, clause by clause -/

/-- R79 to R101: the invariant of O45. -/
structure Scale.Ok (sc : Scale) : Prop where
  cal : sc.cal.inRange = true
  capture : ∀ x, sc.pendingCapture = some x → x.safe = true
  levels : sc.tare.length ≤ 4
  window : sc.window.length ≤ 8
  room : sc.pendingTare.isSome = true → sc.tare.length < 4 ∧ sc.pendingCapture = none
  net : sc.netHeld = true ∨ sc.net = sc.gross - sc.tare.headD 0
  stable : sc.stable = true → sc.window.length = 8 ∧ sc.cal.span ≠ 0
  ready : sc.status = .ready → sc.cal.span ≠ 0
  uncalibrated : sc.status = .uncalibrated → sc.cal.span = 0
  levelled : sc.cal.span = 0 → sc.tare = []

/-- A clause of the invariant that is written as a choice. -/
theorem not_or_decide (p q : Prop) [Decidable p] [Decidable q] : (decide (¬p) || decide q) = true ↔ (p → q) := by
  simp only [Bool.or_eq_true, decide_eq_true_eq, imp_iff_not_or]

theorem Scale.safe_iff (sc : Scale) : sc.safe = true ↔ sc.Ok := by
  have hcapture : (match sc.pendingCapture with | some x => x.safe | none => true) = true
      ↔ ∀ x, sc.pendingCapture = some x → x.safe = true := by
    cases sc.pendingCapture <;> simp
  have hroom : (sc.pendingTare.isNone || (decide (sc.tare.length < 4) && sc.pendingCapture.isNone)) = true
      ↔ (sc.pendingTare.isSome = true → sc.tare.length < 4 ∧ sc.pendingCapture = none) := by
    cases sc.pendingTare <;> simp
  have hnet : (sc.netHeld || decide (sc.net = sc.gross - sc.tare.headD 0)) = true
      ↔ sc.netHeld = true ∨ sc.net = sc.gross - sc.tare.headD 0 := by
    rw [Bool.or_eq_true, decide_eq_true_eq]
  have hstable : (!sc.stable || (decide (sc.window.length = 8) && decide (sc.cal.span ≠ 0))) = true
      ↔ (sc.stable = true → sc.window.length = 8 ∧ sc.cal.span ≠ 0) := by
    cases sc.stable <;> simp
  have hready := not_or_decide (sc.status = .ready) (sc.cal.span ≠ 0)
  have hzero := not_or_decide (sc.status = .uncalibrated) (sc.cal.span = 0)
  have hlevelled := not_or_decide (sc.cal.span = 0) (sc.tare = [])
  unfold Scale.safe
  simp only [Bool.and_eq_true]
  constructor
  · rintro ⟨⟨⟨⟨⟨⟨⟨⟨⟨cal, capture⟩, levels⟩, window⟩, room⟩, net⟩, stable⟩, ready⟩, zero⟩, levelled⟩
    exact ⟨cal, hcapture.mp capture, of_decide_eq_true levels, of_decide_eq_true window, hroom.mp (by simpa using room),
      hnet.mp net, hstable.mp (by simpa using stable), hready.mp ready, hzero.mp zero, hlevelled.mp levelled⟩
  · rintro ⟨cal, capture, levels, window, room, net, stable, ready, zero, levelled⟩
    exact ⟨⟨⟨⟨⟨⟨⟨⟨⟨cal, hcapture.mpr capture⟩, decide_eq_true levels⟩, decide_eq_true window⟩,
      by simpa using hroom.mpr room⟩, hnet.mpr net⟩, by simpa using hstable.mpr stable⟩, hready.mpr ready⟩,
      hzero.mpr zero⟩, hlevelled.mpr levelled⟩

/-- R98: what a held net goes with. -/
theorem Scale.netHeld_iff (sc : Scale) :
    sc.netHeld = true ↔ sc.status = .restarting ∧ sc.cal.span ≠ 0 ∧ sc.tare = [] ∧ sc.window = [] := by
  simp [Scale.netHeld, and_assoc]

/-! ### The Scale Unit's operations -/

theorem restartStatus_ready (cal : Calibration) : restartStatus cal ≠ .ready := by
  unfold restartStatus
  split <;> simp

theorem restartStatus_uncalibrated {cal : Calibration} (hs : restartStatus cal = .uncalibrated) : cal.span = 0 := by
  by_contra hne
  rw [restartStatus, if_neg hne] at hs
  cases hs

section
variable {sc : Scale} (h : sc.Ok)
include h

theorem Scale.Ok.endTare : ({ sc with pendingTare := none } : Scale).Ok :=
  { h with
    room := fun hx => by cases hx }

theorem Scale.Ok.endCapture : ({ sc with pendingCapture := none } : Scale).Ok :=
  { h with
    capture := fun _ hx => by cases hx
    room := fun hx => ⟨(h.room hx).1, rfl⟩ }

/-- R90: a tare waits where there is room for its level. -/
theorem Scale.Ok.pushTare (x : PendingTare) (hlen : sc.tare.length < 4) (hcap : sc.pendingCapture = none) :
    ({ sc with pendingTare := some x } : Scale).Ok :=
  { h with room := fun _ => ⟨hlen, hcap⟩ }

/-- R100, R101: a capture waits where no tare does. -/
theorem Scale.Ok.beginCapture {x : PendingCapture} (hx : x.safe = true) (htare : sc.pendingTare = none) :
    ({ sc with pendingCapture := some x } : Scale).Ok :=
  { h with
    capture := fun y hy => by cases hy; exact hx
    room := fun hs => by
      change sc.pendingTare.isSome = true at hs
      rw [htare] at hs
      cases hs }

/-- R84, R89: the stack changes and the net is formed again; no tare waits any longer. -/
theorem Scale.Ok.retare {tare : List Int} {pt : Option PendingTare} (hlen : tare.length ≤ 4)
    (hspan : sc.cal.span = 0 → tare = []) (hpt : pt = none) :
    (formNet { sc with tare := tare, pendingTare := pt }).Ok :=
  { h with
    levels := hlen
    room := fun hs => by
      subst hpt
      cases hs
    net := .inr rfl
    levelled := hspan }

/-- R80, R88: a restart empties the window; a net that was held is held still. -/
theorem Scale.Ok.restart : (restartScale sc).Ok :=
  { h with
    window := Nat.zero_le 8
    net := by
      obtain hheld | hnet := h.net
      · obtain ⟨_, hspan, htare, _⟩ := (Scale.netHeld_iff sc).mp hheld
        exact .inl ((Scale.netHeld_iff _).mpr ⟨if_neg hspan, hspan, htare, rfl⟩)
      · exact .inr hnet
    stable := fun hs => by cases hs
    ready := fun hs => absurd hs (restartStatus_ready sc.cal)
    uncalibrated := restartStatus_uncalibrated }

/-- R98: a change of calibration keeps the figures, the net held where G is not 0. -/
theorem Scale.Ok.recalibrate {cal : Calibration} (hcal : cal.inRange = true) : (recalibrated cal sc).Ok where
  cal := hcal
  capture := h.capture
  levels := Nat.zero_le 4
  window := Nat.zero_le 8
  room hs := by cases hs
  net := by
    by_cases hspan : cal.span = 0
    · refine .inr ?_
      simp [recalibrated, hspan]
    · exact .inl ((Scale.netHeld_iff _).mpr ⟨if_neg hspan, hspan, rfl, rfl⟩)
  stable hs := by cases hs
  ready hs := absurd hs (restartStatus_ready cal)
  uncalibrated := restartStatus_uncalibrated
  levelled _ := rfl

/-- R81, with G of 0: F and the net are 0, and there is no level. -/
theorem Scale.Ok.chainUncalibrated (x : Sample) (hspan : sc.cal.span = 0) : (chainUncalibrated x sc).Ok :=
  { h with
    net := by
      refine .inr ?_
      simp [Machine.chainUncalibrated, h.levelled hspan]
    stable := fun hs => by cases hs
    ready := fun hs => by
      unfold Machine.chainUncalibrated at hs
      dsimp only at hs
      split at hs
      · cases hs
      · exact h.ready hs
    uncalibrated := fun _ => hspan }

omit h in
theorem joinWindow_length (w : List GrossEntry) (e : GrossEntry) (hw : w.length ≤ 8) : (joinWindow w e).length ≤ 8 := by
  unfold joinWindow
  split
  · rw [List.length_append, List.length_singleton]
    omega
  · rw [List.length_append, List.length_drop, List.length_singleton]
    omega

/-- R81 to R85, with G not 0: the net is formed, and STABLE needs a full window. -/
theorem Scale.Ok.chainCalibrated (tc : Int) (x : Sample) (hspan : sc.cal.span ≠ 0) : (chainCalibrated tc x sc).Ok :=
  { h with
    window := joinWindow_length _ _ h.window
    net := .inr rfl
    stable := fun hs => ⟨((stableFlag_iff _).mp hs).1, hspan⟩
    ready := fun _ => hspan
    uncalibrated := fun hs => by
      unfold Machine.chainCalibrated formNet at hs
      dsimp only at hs
      split at hs
      · cases hs
      · exact h.uncalibrated hs }

theorem Scale.Ok.weighChain (tc : Int) (x : Sample) : (weighChain tc x sc).Ok := by
  by_cases hspan : sc.cal.span = 0
  · rw [weighChain_uncalibrated hspan]
    exact h.chainUncalibrated x hspan
  · rw [weighChain_calibrated hspan]
    exact h.chainCalibrated tc x hspan

end

/-! ### The whole part -/

/-- The invariant of O45 as a property of the part. -/
def State.scaleOk (s : State) : Prop := s.scale.Ok

section
variable {s : State} (h : s.scaleOk)
include h

theorem State.scaleOk.touches {ts : List Block} {t : State} (k : Touches ts s t) (hs : .scale ∉ ts) : t.scaleOk := by
  unfold State.scaleOk
  rw [show t.scale = s.scale from k .scale hs]
  exact h

theorem endTare_scaleOk (r : Result) : (endTare r s).scaleOk := by
  unfold State.scaleOk
  rw [endTare_scale]
  exact h.endTare

theorem endCapture_scaleOk (r : Result) : (endCapture r s).scaleOk := by
  unfold State.scaleOk
  rw [endCapture_scale]
  exact h.endCapture

theorem changeCalibration_scaleOk {cal : Calibration} (hcal : cal.inRange = true) : (changeCalibration cal s).scaleOk := by
  unfold State.scaleOk
  rw [changeCalibration_scale]
  exact h.recalibrate hcal

theorem answerPending_scaleOk (p : Port) (a : Answer) : (answerPending p a s).scaleOk :=
  State.scaleOk.touches h (answerPending_touches p a s) (by decide)

theorem postTareChanged_scaleOk (c : TareCause) (p : Option Port) : (postTareChanged c p s).scaleOk := h

/-! Captures (R101 to R103). -/

/-- R102, R103: a capture that completes sets fields in their ranges alone. -/
theorem completeCapture_scaleOk {body : CaptureBody} {savg : Int} (hbody : body.inRange = true)
    (havg : -2097152 ≤ savg ∧ savg ≤ 2097148) : (completeCapture body savg s).scaleOk := by
  have hcal := (Calibration.inRange_iff _).mp h.cal
  have hended : (s.withScale { s.scale with pendingCapture := none }).scaleOk := h.endCapture
  cases body with
  | zero calId drift offB offC =>
    refine answerPending_scaleOk (changeCalibration_scaleOk hended ((Calibration.inRange_iff _).mpr ?_)) _ _
    simp only [CaptureBody.inRange, zeroInRange, Bool.and_eq_true, decide_eq_true_eq] at hbody
    have htcal := clampInt_range (by decide : (0 : Int) ≤ 600) (s.conv.tc - s.conv.tcOffset + offC)
    simp only [zeroCalibration]
    omega
  | span known calId =>
    unfold completeCapture
    dsimp only
    split
    · exact endCapture_scaleOk h _
    split
    · exact endCapture_scaleOk h _
    · refine answerPending_scaleOk (changeCalibration_scaleOk hended ((Calibration.inRange_iff _).mpr ?_)) _ _
      simp only [CaptureBody.inRange, spanInRange, Bool.and_eq_true, decide_eq_true_eq] at hbody
      dsimp only
      omega

theorem captureSample_scaleOk {x : Sample} (hx : -2097152 ≤ rawSum x ∧ rawSum x ≤ 2097148) :
    (captureSample x s).scaleOk := by
  unfold captureSample
  split
  · exact h
  next c hc =>
    have hsafe := h.capture c hc
    simp only [PendingCapture.safe, Bool.and_eq_true, decide_eq_true_eq] at hsafe
    obtain ⟨⟨hbody, hcount⟩, hsum⟩ := hsafe
    have htare : s.scale.pendingTare = none := by
      by_contra hne
      have hnone := (h.room (Option.isSome_iff_ne_none.mpr hne)).2
      rw [hc] at hnone
      cases hnone
    split
    · exact endCapture_scaleOk h _
    split
    · exact completeCapture_scaleOk h hbody (roundDiv_eight_range (by omega))
    · refine Scale.Ok.beginCapture h ?_ htare
      simp only [PendingCapture.safe, Bool.and_eq_true, decide_eq_true_eq]
      push_cast
      exact ⟨⟨hbody, by omega⟩, by omega⟩

/-! Samples and tares (R87, R91). -/

theorem tareSample_scaleOk (x : Sample) : (tareSample x s).scaleOk := by
  unfold tareSample
  split
  · exact h
  next t ht =>
    split
    next hstable =>
      have hlen := (h.room (by rw [ht]; rfl)).1
      have hspan := (h.stable hstable).2
      exact answerPending_scaleOk (postTareChanged_scaleOk (s := s.withScale _)
        (h.retare (tare := s.scale.gross :: s.scale.tare) hlen (fun h0 => absurd h0 hspan) rfl) _ _) _ _
    · exact h

theorem takeSample_scaleOk {x : Sample} (hx : -2097152 ≤ rawSum x ∧ rawSum x ≤ 2097148) : (takeSample x s).scaleOk := by
  have hchained : (chained x s).scaleOk := by
    unfold State.scaleOk
    rw [chained_scale]
    exact h.weighChain _ x
  have hcapture := captureSample_scaleOk (hchained.touches (bandInputs_touches _) (by decide)) hx
  exact tareSample_scaleOk (hcapture.touches (takeWeight_touches _ _ _) (by decide)) x

theorem endWeigh_scaleOk (c0 c1 c2 c3 : Int) : (endWeigh c0 c1 c2 c3 s).scaleOk := by
  have hfinish : (finishWeigh c0 c1 c2 c3 s).scaleOk := by
    unfold finishWeigh
    dsimp only
    split
    · exact h
    · have hconv : ∀ x, (s.withConv x).scaleOk := fun _ => h
      exact takeSample_scaleOk (hconv _) (rawSum_formSample_range c0 c1 c2 c3 s)
  unfold endWeigh
  split
  · exact hfinish
  · exact h
  · exact h

/-- R97: the end of the scan offers a calibration in range. -/
theorem endScan_scaleOk : (endScan s).scaleOk := by
  have hoffered : ∀ m, (offeredCalibration m).inRange = true := fun m => by
    unfold offeredCalibration
    split
    next hvalid => exact hvalid.2
    · decide
  unfold endScan
  split
  · have hstore : ∀ x, (s.withStore x).scaleOk := fun _ => h
    exact changeCalibration_scaleOk (hstore _) (hoffered _)
  all_goals exact h

/-! The scale's own requests (R88 to R94, R100). -/

omit h in
/-- R90, R100: neither a tare nor a capture waits. -/
theorem scaleBusy_false {sc : Scale} (hb : ¬scaleBusy sc = true) : sc.pendingTare = none ∧ sc.pendingCapture = none := by
  simpa [scaleBusy] using hb

theorem serveTarePush_scaleOk (p : Port) : (serveTarePush p s).1.scaleOk := by
  unfold serveTarePush
  split_ifs with _ hbusy hlen
  case neg => exact h.pushTare _ (by omega) (scaleBusy_false hbusy).2
  all_goals exact h

theorem serveTarePop_scaleOk (p : Port) : (serveTarePop p s).1.scaleOk := by
  unfold serveTarePop
  split_ifs with hbusy
  case neg =>
    have hlen := h.levels
    refine postTareChanged_scaleOk (s := s.withScale _) (h.retare ?_ (fun h0 => ?_) (scaleBusy_false hbusy).1) _ _
    · rw [List.length_drop]
      omega
    · rw [h.levelled h0]
      rfl
  all_goals exact h

theorem serveTareClear_scaleOk (p : Port) : (serveTareClear p s).1.scaleOk := by
  unfold serveTareClear
  split_ifs with hbusy
  · exact h
  · exact postTareChanged_scaleOk (s := s.withScale _)
      (h.retare (tare := []) (Nat.zero_le 4) (fun _ => rfl) (scaleBusy_false hbusy).1) _ _

theorem serveRestartScale_scaleOk : (serveRestartScale s).1.scaleOk := by
  have hended := endCapture_scaleOk (endTare_scaleOk (s := s.withScale (restartScale s.scale)) h.restart .aborted) .aborted
  unfold serveRestartScale
  dsimp only
  split
  · exact hended
  · exact hended

theorem beginCapture_scaleOk (body : CaptureBody) : (beginCapture body body.inRange s).1.scaleOk := by
  unfold beginCapture
  split_ifs with _ hbusy hbody
  case neg =>
    refine Scale.Ok.beginCapture h ?_ (scaleBusy_false hbusy).1
    simpa [PendingCapture.safe] using hbody
  all_goals exact h

theorem serveStartRun_scaleOk (rev i : Nat) : (serveStartRun rev i s).1.scaleOk := by
  obtain he | ⟨r, _, _, _, he⟩ := serveStartRun_cases rev i s
  all_goals rw [he]
  · exact h
  · exact (endCapture_scaleOk h .aborted).touches (beginRun_offScale i r s) (by decide)

theorem serveRequest_scaleOk (p : Port) (r : Request) : (serveRequest p r s).1.scaleOk := by
  cases hr : scaleRequest r
  · exact State.scaleOk.touches h (serveRequest_offScale p hr s) (by decide)
  cases r
  case startRun rev i => exact serveStartRun_scaleOk h rev i
  case tarePush => exact serveTarePush_scaleOk h p
  case tarePop => exact serveTarePop_scaleOk h p
  case tareClear => exact serveTareClear_scaleOk h p
  case restartScale => exact serveRestartScale_scaleOk h
  case calZero calId drift offB offC => exact beginCapture_scaleOk h (.zero calId drift offB offC)
  case calSpan known calId => exact beginCapture_scaleOk h (.span known calId)
  all_goals cases hr

end

theorem scaleOk_portFree : PortFree State.scaleOk where
  port p _ h := by cases p <;> exact h
  rx _ h := h
  psdo _ h := h
  after _ h := h

theorem unitEvent_scaleOk {c : Instr} {s t : State} (hu : unitEvent c = true) (h : s.scaleOk) (he : exec c s = .next t) :
    t.scaleOk := by
  cases hs : scaleEvent c
  · exact State.scaleOk.touches h (unitEvent_offScale hu hs he) (by decide)
  cases c
  case weighGroupEnd dt a b c d => cases he; exact endWeigh_scaleOk (s := s.after dt) h a b c d
  case tareDeadline dt => cases he; exact endTare_scaleOk (s := s.after dt) h .unstable
  case captureDeadline dt => cases he; exact endCapture_scaleOk (s := s.after dt) h .unstable
  case scanEnd dt => cases he; exact endScan_scaleOk (s := s.after dt) h
  all_goals cases hs

theorem exec_scaleOk {c : Instr} {s t : State} (h : s.scaleOk) (he : exec c s = .next t) : t.scaleOk := by
  by_cases hc : c = .reset
  · subst hc
    cases he
    exact (Scale.safe_iff Scale.reset).mp (by decide)
  · exact scaleOk_portFree.exec (W := fun _ => True) (fun _ _ => trivial) (fun p r _ _ hu => serveRequest_scaleOk hu p r)
      (fun _ _ _ => unitEvent_scaleOk) hc (fun _ _ => trivial) h he

/-- Settles O45: the operations of the Scale Unit keep its figures, and no other command reaches them. -/
theorem everyStepKeepsTheScaleSafe : Obligations.EveryStepKeepsTheScaleSafe := by
  intro s t h hstep
  rw [Scale.safe_iff] at h ⊢
  unfold step at hstep
  split at hstep
  · cases hstep
    exact h
  · rename_i c rest _
    exact exec_scaleOk (s := { s with pending := rest }) h hstep

end Sys2Proof.Machine
end

section
/-! PROOFS. The ports and what waits on them (O46): a request that is answered later stands on its port until its answer, and a
reply is formed on a port only where nothing waits. -/

namespace Sys2Proof.Machine

/-! ### Reading a port -/

@[simp] theorem setPort_port (p : Port) (x : PortState) (s : State) : (s.setPort p x).port p = x := by cases p <;> rfl

theorem setPort_port_ne {p q : Port} (h : q ≠ p) (x : PortState) (s : State) : (s.setPort p x).port q = s.port q := by
  cases p <;> cases q
  · exact absurd rfl h
  · rfl
  · rfl
  · exact absurd rfl h

@[simp] theorem setPort_scale (p : Port) (x : PortState) (s : State) : (s.setPort p x).scale = s.scale := by
  cases p <;> rfl

@[simp] theorem withScale_port (sc : Scale) (s : State) (p : Port) : (s.withScale sc).port p = s.port p := by
  cases p <;> rfl

theorem Touches.port {ts : List Block} {s t : State} (k : Touches ts s t) {p : Port} (hp : portBlock p ∉ ts) :
    t.port p = s.port p := by
  cases p
  · exact k .panel hp
  · exact k .link hp

/-- R186: a port that holds a request is OUTSTANDING, with no reply. -/
theorem PortState.safe_of_buffer {p : Port} {x : PortState} (h : x.safe p = true) (hb : x.buffer.isSome = true) :
    x.state = .outstanding ∧ x.reply = none := by
  unfold PortState.safe at h
  have hne : x.buffer.isNone = false := by rw [← Option.not_isSome, hb]; rfl
  split at h
  · simp [hne] at h
  next hs =>
    simp only [hne, Bool.and_false, Bool.false_and, Bool.or_false, Bool.and_eq_true, Option.isNone_iff_eq_none] at h
    exact ⟨hs, h.2⟩
  · simp [hne] at h

/-- R188, R190: a reply stands in a port's slot without a request in its buffer. -/
theorem PortState.buffer_of_reply {p : Port} {x : PortState} (h : x.safe p = true) (hr : x.reply.isSome = true) :
    x.buffer = none := by
  by_contra hne
  have hnone := (PortState.safe_of_buffer h (Option.isSome_iff_ne_none.mpr hne)).2
  rw [hnone] at hr
  cases hr

theorem PortState.safe_free {p : Port} {x : PortState} (h : x.safe p = true) (hs : x.state = .free) :
    x.buffer = none ∧ x.reply = none := by
  simpa [PortState.safe, hs] using h

/-! ### What waits -/

/-- R90, R100: a tare or a capture waits whose request stands on port `p`. -/
def Scale.waitsOn (sc : Scale) (p : Port) : Prop :=
  sc.pendingTare.map (·.port) = some p ∨ (p = .panel ∧ sc.pendingCapture.isSome = true)

theorem Scale.not_waitsOn {sc : Scale} (ht : sc.pendingTare = none) (hc : sc.pendingCapture = none) (p : Port) :
    ¬sc.waitsOn p := by
  simp [Scale.waitsOn, ht, hc]

/-- R90, R100, R186: the invariant of O46, clause by clause. -/
structure State.PortOk (s : State) : Prop where
  ports : ∀ p, (s.port p).safe p = true
  held : ∀ p, s.scale.waitsOn p → (s.port p).buffer.isSome = true
  one : s.scale.pendingTare.isSome = true → s.scale.pendingCapture = none

theorem State.portSafe_iff (s : State) : s.portSafe = true ↔ s.PortOk := by
  have htare : (match s.scale.pendingTare with
        | some x => (s.port x.port).buffer.isSome && s.scale.pendingCapture.isNone
        | none => true) = true
      ↔ ∀ x, s.scale.pendingTare = some x → (s.port x.port).buffer.isSome = true ∧ s.scale.pendingCapture = none := by
    cases s.scale.pendingTare <;> simp
  have hcapture : (s.scale.pendingCapture.isNone || s.panel.buffer.isSome) = true
      ↔ (s.scale.pendingCapture.isSome = true → s.panel.buffer.isSome = true) := by
    cases s.scale.pendingCapture <;> simp
  unfold State.portSafe
  simp only [Bool.and_eq_true]
  constructor
  · rintro ⟨⟨⟨panel, link⟩, tare⟩, capture⟩
    refine ⟨fun p => by cases p <;> assumption, fun p hw => ?_, fun hsome => ?_⟩
    · obtain hw | ⟨rfl, hw⟩ := hw
      · obtain ⟨x, hx, rfl⟩ := Option.map_eq_some_iff.mp hw
        exact (htare.mp tare x hx).1
      · exact hcapture.mp capture hw
    · obtain ⟨x, hx⟩ := Option.isSome_iff_exists.mp hsome
      exact (htare.mp tare x hx).2
  · rintro ⟨ports, held, one⟩
    refine ⟨⟨⟨ports .panel, ports .link⟩, htare.mpr fun x hx => ⟨held x.port (.inl (by rw [hx]; rfl)), ?_⟩⟩,
      hcapture.mpr fun hw => held .panel (.inr ⟨rfl, hw⟩)⟩
    exact one (by rw [hx]; rfl)

/-! ### Changes that the invariant allows -/

section
variable {s : State} (h : s.PortOk)
include h

theorem State.PortOk.touches {ts : List Block} {t : State} (k : Touches ts s t) (hs : .scale ∉ ts) (hp : .panel ∉ ts)
    (hl : .link ∉ ts) : t.PortOk := by
  have hscale : t.scale = s.scale := k .scale hs
  have hport : ∀ p, t.port p = s.port p := fun p => by
    cases p
    · exact k .panel hp
    · exact k .link hl
  refine ⟨fun p => ?_, fun p hw => ?_, ?_⟩
  · rw [hport]; exact h.ports p
  · rw [hport]; exact h.held p (hscale ▸ hw)
  · rw [hscale]; exact h.one

theorem State.PortOk.offScale {t : State} (k : Touches offScale s t) : t.PortOk :=
  h.touches k (by decide) (by decide) (by decide)

/-- A port takes a state that keeps what waits on it. -/
theorem State.PortOk.setPort {p : Port} {x : PortState} (hx : x.safe p = true)
    (hw : s.scale.waitsOn p → x.buffer.isSome = true) : (s.setPort p x).PortOk := by
  refine ⟨fun q => ?_, fun q hq => ?_, by rw [setPort_scale]; exact h.one⟩
  · by_cases hqp : q = p
    · subst hqp; rw [setPort_port]; exact hx
    · rw [setPort_port_ne hqp]; exact h.ports q
  · rw [setPort_scale] at hq
    by_cases hqp : q = p
    · subst hqp; rw [setPort_port]; exact hw hq
    · rw [setPort_port_ne hqp]; exact h.held q hq

/-- The Scale Unit changes, and nothing waits that did not wait before. -/
theorem State.PortOk.rescale {sc : Scale} (hw : ∀ p, sc.waitsOn p → s.scale.waitsOn p)
    (ho : sc.pendingTare.isSome = true → sc.pendingCapture = none) : (s.withScale sc).PortOk where
  ports p := by rw [withScale_port]; exact h.ports p
  held p hp := by rw [withScale_port]; exact h.held p (hw p hp)
  one := ho

/-- R186, R191: a reply formed where nothing waits. -/
theorem State.PortOk.formReply {p : Port} (hw : ¬s.scale.waitsOn p) (k t : Byte) (a : Answer) :
    (formReply p k t a s).PortOk :=
  h.setPort (by cases p <;> rfl) fun hwait => absurd hwait hw

theorem State.PortOk.answerPending {p : Port} (hw : ¬s.scale.waitsOn p) (a : Answer) : (answerPending p a s).PortOk := by
  unfold Machine.answerPending
  split
  · exact h.formReply hw _ _ a
  · exact h

/-- R90, R100: what waits stands on a port that is OUTSTANDING. -/
theorem State.PortOk.not_waitsOn {p : Port} (hs : (s.port p).state ≠ .outstanding) : ¬s.scale.waitsOn p := fun hw =>
  hs (PortState.safe_of_buffer (h.ports p) (h.held p hw)).1

/-! ### The Scale Unit's operations -/

theorem State.PortOk.noTare (hc : s.scale.pendingCapture.isSome = true) : s.scale.pendingTare = none := by
  by_contra hne
  have hnone := h.one (Option.isSome_iff_ne_none.mpr hne)
  rw [hnone] at hc
  cases hc

theorem endTare_portOk (r : Result) : (endTare r s).PortOk := by
  unfold endTare
  split
  next x hx =>
    have hone := h.one (by rw [hx]; rfl)
    have hended : (s.withScale { s.scale with pendingTare := none }).PortOk :=
      h.rescale (fun p hp => .inr (hp.resolve_left (by simp))) (fun hs => by cases hs)
    exact hended.answerPending (Scale.not_waitsOn (sc := { s.scale with pendingTare := none }) rfl hone _) _
  · exact h

theorem captureAbsent_portOk : (s.withScale { s.scale with pendingCapture := none }).PortOk :=
  h.rescale (fun p hp => .inl (hp.resolve_right (by simp))) (fun _ => rfl)

theorem endCapture_portOk (r : Result) : (endCapture r s).PortOk := by
  unfold endCapture
  split
  next x hx =>
    have hnone := h.noTare (by rw [hx]; rfl)
    exact (captureAbsent_portOk h).answerPending
      (Scale.not_waitsOn (sc := { s.scale with pendingCapture := none }) hnone rfl _) _
  · exact h

theorem clearTare_portOk : (clearTareForCalibration s).PortOk := by
  unfold clearTareForCalibration
  split
  · exact h
  · have hcleared : (s.withScale { s.scale with tare := [] }).PortOk := h.rescale (fun _ hw => hw) h.one
    exact hcleared.touches (post_touches _ _) (by decide) (by decide) (by decide)

theorem changeCalibration_portOk (cal : Calibration) : (changeCalibration cal s).PortOk := by
  have hcal : (s.withScale { s.scale with cal := cal }).PortOk := h.rescale (fun _ hw => hw) h.one
  have hcleared := clearTare_portOk (endTare_portOk hcal .aborted)
  refine State.PortOk.touches (State.PortOk.rescale hcleared ?_ ?_) (post_touches _ _) (by decide) (by decide) (by decide)
  · split
    · exact fun _ hw => hw
    · exact fun _ hw => hw
  · split
    · exact hcleared.one
    · exact hcleared.one

/-- R98, R102, R103: the calibration that a capture sets, with the capture's own answer. -/
theorem calibrationSet_portOk (cal : Calibration) (a : Answer) : (answerPending .panel a
    (changeCalibration cal (s.withScale { s.scale with pendingCapture := none }))).PortOk := by
  refine (changeCalibration_portOk (captureAbsent_portOk h) cal).answerPending ?_ a
  rw [changeCalibration_scale]
  exact Scale.not_waitsOn rfl rfl _

theorem completeCapture_portOk (body : CaptureBody) (savg : Int) : (completeCapture body savg s).PortOk := by
  cases body with
  | zero calId drift offB offC => exact calibrationSet_portOk h _ _
  | span known calId =>
    unfold completeCapture
    dsimp only
    split
    · exact endCapture_portOk h _
    split
    · exact endCapture_portOk h _
    · exact calibrationSet_portOk h _ _

theorem captureSample_portOk (x : Sample) : (captureSample x s).PortOk := by
  unfold captureSample
  split
  · exact h
  next c hc =>
    split
    · exact endCapture_portOk h _
    split
    · exact completeCapture_portOk h _ _
    · have hcap : s.scale.pendingCapture.isSome = true := by rw [hc]; rfl
      refine h.rescale (fun p hp => hp.imp id fun hpanel => ⟨hpanel.1, hcap⟩) fun hsome => ?_
      change s.scale.pendingTare.isSome = true at hsome
      rw [h.noTare hcap] at hsome
      cases hsome

/-- R91: the Scale Unit once a pending tare has taken F as its level. -/
def tareTaken (sc : Scale) : Scale := formNet { sc with tare := sc.gross :: sc.tare, pendingTare := none }

theorem tareSample_portOk (x : Sample) : (tareSample x s).PortOk := by
  unfold tareSample
  split
  · exact h
  next t ht =>
    split
    · have hone := h.one (by rw [ht]; rfl)
      have hpushed : (s.withScale (tareTaken s.scale)).PortOk :=
        h.rescale (fun p hp => .inr (hp.resolve_left (by simp [tareTaken, formNet]))) (fun hs => by cases hs)
      exact (hpushed.touches (post_touches _ _) (by decide) (by decide) (by decide)).answerPending
        (Scale.not_waitsOn (sc := tareTaken s.scale) rfl hone _) _
    · exact h

theorem takeSample_portOk (x : Sample) : (takeSample x s).PortOk := by
  have hchained : (chained x s).PortOk := by
    obtain ⟨_, _, _, _, _, hchain⟩ := weighChain_eq s.conv.tc x s.scale
    have hscale : (s.withScale (weighChain s.conv.tc x s.scale)).PortOk := by
      rw [hchain]
      exact h.rescale (fun _ hw => hw) h.one
    unfold chained
    split
    · exact hscale
    · exact hscale.touches (post_touches _ _) (by decide) (by decide) (by decide)
  have hcapture := captureSample_portOk (hchained.touches (bandInputs_touches _) (by decide) (by decide) (by decide)) x
  exact tareSample_portOk (hcapture.touches (takeWeight_touches _ _ _) (by decide) (by decide) (by decide)) x

end

/-! ### The requests' owners -/

/-- R186, R192: what the owner of a request on port `p` works in: nothing waits on `p` but the request itself. -/
structure State.Asked (p : Port) (s : State) : Prop where
  ok : s.PortOk
  clear : ¬s.scale.waitsOn p

/-- R90, R100, R192: what the owner of a request on port `p` leaves: where it answers, nothing waits on `p`. -/
structure Concludes (p : Port) (v : Served) : Prop where
  ok : v.1.PortOk
  clear : v.2.isSome = true → ¬v.1.scale.waitsOn p

theorem State.Asked.concludes {p : Port} {v : Served} (h : v.1.Asked p) : Concludes p v := ⟨h.ok, fun _ => h.clear⟩

/-- R192: the owner's answer is formed where nothing waits. -/
theorem conclude_portOk {p : Port} {v : Served} (h : Concludes p v) (k t : Byte) : (conclude p k t v).PortOk := by
  obtain ⟨u, _ | a⟩ := v
  · exact h.ok
  · exact h.ok.formReply (h.clear rfl) k t a

section
variable {p : Port} {s : State} (h : s.Asked p)
include h

theorem State.Asked.offScale {t : State} (k : Touches offScale s t) : t.Asked p :=
  ⟨h.ok.offScale k, by rw [show t.scale = s.scale from k .scale (by decide)]; exact h.clear⟩

theorem State.Asked.posted (n : Notice) : (post n s).Asked p := h.offScale ((post_touches n s).mono (by decide))

theorem endTare_asked (r : Result) : (endTare r s).Asked p := by
  refine ⟨endTare_portOk h.ok r, ?_⟩
  rw [endTare_scale]
  exact fun hw => h.clear (.inr (hw.resolve_left (by simp)))

theorem endCapture_asked (r : Result) : (endCapture r s).Asked p := by
  refine ⟨endCapture_portOk h.ok r, ?_⟩
  rw [endCapture_scale]
  exact fun hw => h.clear (.inl (hw.resolve_right (by simp)))

/-- The Scale Unit's figures change, and what waits stays. -/
theorem State.Asked.rescale {sc : Scale} (ht : sc.pendingTare = s.scale.pendingTare)
    (hc : sc.pendingCapture = s.scale.pendingCapture) : (s.withScale sc).Asked p := by
  have hwaits : ∀ q, sc.waitsOn q → s.scale.waitsOn q := fun q hq => by
    rwa [Scale.waitsOn, ht, hc] at hq
  exact ⟨h.ok.rescale hwaits (by rw [ht, hc]; exact h.ok.one), fun hw => h.clear (hwaits p hw)⟩

/-- R90: an accepted TARE_PUSH waits on its own port. -/
theorem serveTarePush_concludes (hb : (s.port p).buffer.isSome = true) : Concludes p (serveTarePush p s) := by
  unfold serveTarePush
  split_ifs with _ hbusy
  case neg =>
    have hfree := (scaleBusy_false hbusy).2
    refine ⟨⟨fun q => ?_, fun q hq => ?_, fun _ => hfree⟩, fun hs => by cases hs⟩
    · rw [withScale_port]; exact h.ok.ports q
    · obtain hq | ⟨_, hq⟩ := hq
      · cases hq
        rw [withScale_port]
        exact hb
      · change s.scale.pendingCapture.isSome = true at hq
        rw [hfree] at hq
        cases hq
  all_goals exact h.concludes

/-- R84, R95: a change of the stack, and its notice. -/
theorem retare_asked (tare : List Int) (c : TareCause) (q : Option Port) :
    (postTareChanged c q (s.withScale (formNet { s.scale with tare := tare }))).Asked p := by
  have hscale : (s.withScale (formNet { s.scale with tare := tare })).Asked p := h.rescale rfl rfl
  exact hscale.posted _

theorem serveTarePop_concludes : Concludes p (serveTarePop p s) := by
  unfold serveTarePop
  split_ifs
  case neg => exact State.Asked.concludes (retare_asked h _ _ _)
  all_goals exact h.concludes

theorem serveTareClear_concludes : Concludes p (serveTareClear p s) := by
  unfold serveTareClear
  split_ifs
  · exact h.concludes
  · exact State.Asked.concludes (retare_asked h _ _ _)

theorem serveRestartScale_concludes : Concludes p (serveRestartScale s) := by
  have hrestarted : (s.withScale (restartScale s.scale)).Asked p := h.rescale rfl rfl
  have hended := endCapture_asked (endTare_asked hrestarted .aborted) .aborted
  unfold serveRestartScale
  dsimp only
  split
  · exact hended.concludes
  · exact (hended.posted _).concludes

/-- R100: an accepted capture waits on the panel. -/
theorem beginCapture_concludes (hp : p = .panel) (hb : (s.port p).buffer.isSome = true) (body : CaptureBody)
    (inRange : Bool) : Concludes p (beginCapture body inRange s) := by
  subst hp
  unfold beginCapture
  split_ifs with _ hbusy
  case neg =>
    have hfree := (scaleBusy_false hbusy).1
    refine ⟨⟨fun q => ?_, fun q hq => ?_, fun hs => ?_⟩, fun hs => by cases hs⟩
    · rw [withScale_port]; exact h.ok.ports q
    · obtain hq | ⟨rfl, _⟩ := hq
      · change s.scale.pendingTare.map _ = _ at hq
        rw [hfree] at hq
        cases hq
      · rw [withScale_port]
        exact hb
    · change s.scale.pendingTare.isSome = true at hs
      rw [hfree] at hs
      cases hs
  all_goals exact h.concludes

theorem serveStartRun_concludes (rev i : Nat) : Concludes p (serveStartRun rev i s) := by
  refine State.Asked.concludes ?_
  obtain he | ⟨r, _, _, _, he⟩ := serveStartRun_cases rev i s
  all_goals rw [he]
  · exact h
  · exact (endCapture_asked h .aborted).offScale (beginRun_offScale i r s)

/-- Every owner, with the request in its port's buffer, and the panel's own requests on the panel. -/
theorem serveRequest_concludes {r : Request} (hp : panelRequestOnly r = true → p = .panel)
    (hb : (s.port p).buffer.isSome = true) : Concludes p (serveRequest p r s) := by
  cases hr : scaleRequest r
  · exact (h.offScale (serveRequest_offScale p hr s)).concludes
  cases r
  case startRun rev i => exact serveStartRun_concludes h rev i
  case tarePush => exact serveTarePush_concludes h hb
  case tarePop => exact serveTarePop_concludes h
  case tareClear => exact serveTareClear_concludes h
  case restartScale => exact serveRestartScale_concludes h
  case calZero => exact beginCapture_concludes h (hp rfl) hb _ _
  case calSpan => exact beginCapture_concludes h (hp rfl) hb _ _
  all_goals cases hr

end

/-! ### Requests through their ports (R186 to R193) -/

/-- R194: a body of a kind's own length spells a request of that kind. -/
theorem requestOf_kind {k : Byte} {body : List Byte} {row : KindRow} {r : Request} (hk : kindRow k = some row)
    (hl : row.length = body.length) (h : requestOf k body = some r) : r.kind = k := by
  have hself : k = BitVec.ofNat 8 k.toNat := by simp
  unfold kindRow at hk
  split at hk
  case h_33 => cases hk
  all_goals
    rename_i hn
    rw [hn] at hself
    subst hself
    cases hk
  case h_6.refl | h_7.refl =>
    obtain ⟨b0, b1, b2, bs, rfl⟩ : ∃ b0 b1 b2 bs, body = b0 :: b1 :: b2 :: bs := by
      match body, hl with
      | b0 :: b1 :: b2 :: bs, _ => exact ⟨b0, b1, b2, bs, rfl⟩
    obtain ⟨_, _, rfl⟩ := Option.map_eq_some_iff.mp h
    rfl
  all_goals
    rcases body with _ | ⟨b0, _ | ⟨b1, _ | ⟨b2, _ | ⟨b3, _ | ⟨b4, _ | ⟨b5, _ | ⟨b6, bs⟩⟩⟩⟩⟩⟩⟩
    all_goals cases h
    all_goals rfl

/-- R192: a request that passes the port's checks and is the panel's alone has come on the panel. -/
theorem panel_of_portCheck_none {p : Port} {r : Request} {n : Nat} {s : State} (hc : portCheck p r.kind n s = none)
    (hr : panelRequestOnly r = true) : p = .panel := by
  cases p
  · rfl
  · simp only [portCheck, kindRow_kind, hr, and_self, if_true] at hc
    split at hc <;> cases hc

section
variable {s : State} (h : s.PortOk)
include h

/-- R186, R192: a port that takes a request holds it, and nothing else waits there. -/
theorem State.PortOk.heldState {p : Port} (hs : (s.port p).state ≠ .outstanding) (k t : Byte) :
    (heldState p k t s).Asked p := by
  rw [heldState_eq]
  refine ⟨h.setPort ?_ (fun _ => rfl), by rw [setPort_scale]; exact h.not_waitsOn hs⟩
  have hreply : (if (s.port p).state = .replyReady then none else (s.port p).reply) = none := by
    split
    · rfl
    next hne =>
      refine (PortState.safe_free (h.ports p) ?_).2
      cases hstate : (s.port p).state
      · rfl
      · exact absurd hstate hs
      · exact absurd hstate hne
  rw [hreply]
  rfl

theorem discardFrame_portOk (p : Port) : (discardFrame p s).PortOk :=
  h.setPort (h.ports p) (h.held p)

theorem takeRequest_portOk {p : Port} {k t : Byte} {n : Nat} {owner : State → Served}
    (ho : portCheck p k n s = none → ∀ u : State, u.Asked p → (u.port p).buffer.isSome = true → Concludes p (owner u)) :
    (takeRequest p k t n owner s).PortOk := by
  by_cases hs : (s.port p).state = .outstanding
  · rw [takeRequest_outstanding hs]
    exact discardFrame_portOk h p
  cases hc : portCheck p k n s with
  | some r =>
    rw [takeRequest_refused hs hc]
    exact h.formReply (h.not_waitsOn hs) _ _ _
  | none =>
    rw [takeRequest_passed hs hc]
    exact conclude_portOk (ho hc _ (h.heldState hs k t) (by rw [held_own_port]; rfl)) k t

theorem takeFrame_portOk (p : Port) (frame : List Byte) : (takeFrame p frame s).PortOk := by
  refine takeRequest_portOk h fun hc u hu hb => ?_
  unfold serveFrame
  split
  next r hr =>
    obtain ⟨row, hrow, hlen⟩ := row_of_portCheck_none hc
    rw [← requestOf_kind hrow hlen hr] at hc
    exact serveRequest_concludes hu (panel_of_portCheck_none hc) hb
  · exact hu.concludes

theorem withRx_portOk (x : LinkRx) : (s.withRx x).PortOk := ⟨h.ports, h.held, h.one⟩
theorem withPsdo_portOk (x : List Byte) : (s.withPsdo x).PortOk := ⟨h.ports, h.held, h.one⟩
theorem after_portOk (dt : Nat) : (s.after dt).PortOk := ⟨h.ports, h.held, h.one⟩

theorem linkByte_portOk (b : Byte) : (linkByte b s).PortOk := by
  unfold linkByte linkComplete
  split
  · split
    · exact takeFrame_portOk (withRx_portOk h _) .link _
    · exact withRx_portOk h _
  · exact withRx_portOk h _

omit h in
theorem linkBytes_portOk (bytes : List Byte) {s : State} (h : s.PortOk) : (linkBytes bytes s).PortOk := by
  induction bytes generalizing s with
  | nil => exact h
  | cons b bs ih => exact ih (linkByte_portOk h b)

/-- R187: a damaged frame is discarded or answered. -/
theorem takeDamaged_portOk (bytes : List Byte) : (takeDamaged bytes s).PortOk := by
  have hreply : s.panel.state ≠ .outstanding →
      (Machine.formReply .panel (bytes.getD 1 0) (bytes.getD 2 0) (refuse .frameCheck) s).PortOk := fun hs =>
    h.formReply (h.not_waitsOn (p := .panel) hs) _ _ _
  unfold takeDamaged
  split
  · exact discardFrame_portOk h .panel
  next hs => exact hreply (by rw [hs]; decide)
  next hs =>
    have hover : ∀ k t a, Machine.formReply .panel k t a (dropReply .panel s) = Machine.formReply .panel k t a s :=
      fun _ _ _ => formReply_of_port (fun _ => rfl) rfl
    rw [hover]
    exact hreply (by rw [hs]; decide)

theorem panelRequest_portOk (bytes : List Byte) : (panelRequest bytes s).PortOk := by
  have h' := withPsdo_portOk h (List.replicate bytes.length 0)
  unfold panelRequest
  dsimp only
  split
  · exact takeFrame_portOk h' .panel _
  · exact takeDamaged_portOk h' bytes

/-- R188: a reply read whole leaves the panel FREE. -/
theorem panelRead_portOk (n : Nat) : (panelRead n s).PortOk := by
  unfold panelRead
  split
  next r hs hr =>
    have hbuffer : s.panel.buffer = none := PortState.buffer_of_reply (h.ports .panel)
      (Option.isSome_iff_exists.mpr ⟨r, hr⟩)
    dsimp only
    split
    · refine State.PortOk.setPort (p := .panel) (withPsdo_portOk h _) ?_ (h.held .panel)
      simp [PortState.safe, hbuffer]
    · exact withPsdo_portOk h _
  · exact withPsdo_portOk h _

/-- R190: a reply that has been sent leaves the Link Port FREE. -/
theorem linkSent_portOk : (linkSent s).PortOk := by
  unfold linkSent
  split
  next r hr =>
    have hbuffer : s.link.buffer = none := PortState.buffer_of_reply (h.ports .link)
      (Option.isSome_iff_exists.mpr ⟨r, hr⟩)
    refine State.PortOk.setPort (p := .link) h rfl fun hw => ?_
    have hheld := h.held .link hw
    rw [show (s.port .link).buffer = none from hbuffer] at hheld
    cases hheld
  · exact h

/-! ### Every command -/

theorem endWeigh_portOk (c0 c1 c2 c3 : Int) : (endWeigh c0 c1 c2 c3 s).PortOk := by
  have hconv : ∀ {u : State} x, u.PortOk → (u.withConv x).PortOk := fun x hu =>
    hu.offScale ((withConv_touches x _).mono (by decide))
  have hfinish : (finishWeigh c0 c1 c2 c3 s).PortOk := by
    unfold finishWeigh
    dsimp only
    split
    · exact hconv _ h
    · exact takeSample_portOk (hconv _ h) _
  unfold endWeigh
  split
  · exact hconv _ hfinish
  · exact h
  · exact h

theorem endScan_portOk : (endScan s).PortOk := by
  unfold endScan
  split
  · exact changeCalibration_portOk (h.offScale ((withStore_touches _ s).mono (by decide))) _
  all_goals exact h

theorem unitEvent_portOk {c : Instr} {t : State} (hu : unitEvent c = true) (he : exec c s = .next t) : t.PortOk := by
  cases hs : scaleEvent c
  · exact h.offScale (unitEvent_offScale hu hs he)
  cases c
  case weighGroupEnd dt a b c d => cases he; exact endWeigh_portOk (after_portOk h dt) a b c d
  case tareDeadline dt => cases he; exact endTare_portOk (after_portOk h dt) .unstable
  case captureDeadline dt => cases he; exact endCapture_portOk (after_portOk h dt) .unstable
  case scanEnd dt => cases he; exact endScan_portOk (after_portOk h dt)
  all_goals cases hs

theorem exec_portOk {c : Instr} {t : State} (he : exec c s = .next t) : t.PortOk := by
  cases hreq : c.request with
  | some r =>
    obtain ⟨dt, p, tag, rfl⟩ := command_of_request hreq
    rw [exec_command] at he
    cases he
    exact takeRequest_portOk (after_portOk h dt) fun hc u hu hb =>
      serveRequest_concludes hu (panel_of_portCheck_none hc) hb
  | none =>
    by_cases hu : unitEvent c = true
    · exact unitEvent_portOk h hu he
    cases c
    case reset => cases he; exact (State.portSafe_iff _).mp rfl
    case panelRequestFrame dt bytes => cases he; exact panelRequest_portOk (after_portOk h dt) bytes
    case panelReplyRead dt n => cases he; exact panelRead_portOk (after_portOk h dt) n
    case linkFrameComplete dt bytes => cases he; exact linkBytes_portOk bytes (after_portOk h dt)
    case linkByteReceived dt b => cases he; exact linkByte_portOk (after_portOk h dt) b
    case linkByteGapTimeout dt => cases he; exact withRx_portOk (after_portOk h dt) _
    case linkStopBitMissing dt => cases he; exact withRx_portOk (after_portOk h dt) _
    case linkReplySent dt => cases he; exact linkSent_portOk (after_portOk h dt)
    all_goals simp [unitEvent, Instr.request] at hu hreq

end

/-- Settles O46: what waits stands on its port until it is answered, and an owner answers only where nothing waits. -/
theorem everyStepKeepsThePortsSafe : Obligations.EveryStepKeepsThePortsSafe := by
  intro s t h hstep
  rw [State.portSafe_iff] at h ⊢
  unfold step at hstep
  split at hstep
  · cases hstep
    exact h
  · rename_i c rest _
    exact exec_portOk (s := { s with pending := rest }) ⟨h.ports, h.held, h.one⟩ hstep

end Sys2Proof.Machine
end

section
/-! PROOFS. The scale's requests and deadlines: the tare requests (O40), what a restart or a deadline answers (O41), and the
captures' requests (O42). -/

namespace Sys2Proof.Machine

/-! ### Requests with checks in order -/

/-- A request with its checks in order: the first that fails refuses it, and `v` is what it comes to where all pass. -/
def checked (checks : List (Bool × Result)) (s : State) (v : Served) : Served :=
  match firstFailure checks with
  | some res => refused res s
  | none => v

section
variable {checks : List (Bool × Result)} {s : State} {v : Served}

theorem checked_refused {res : Result} (h : firstFailure checks = some res) : checked checks s v = refused res s := by
  rw [checked, h]

theorem checked_passed (h : firstFailure checks = none) : checked checks s v = v := by
  rw [checked, h]

@[simp] theorem checked_nil : checked [] s v = v := rfl

@[simp] theorem checked_cons (b : Bool) (r : Result) :
    checked ((b, r) :: checks) s v = if b then refused r s else checked checks s v := by
  cases b <;> rfl

end

theorem setPort_withScale (p : Port) (x : PortState) (sc : Scale) (s : State) :
    (s.setPort p x).withScale sc = (s.withScale sc).setPort p x := by cases p <;> rfl

/-- A reply formed over a changed scale does not see the request that its port held. -/
theorem formReply_rescaled_held (p : Port) (k t : Byte) (a : Answer) (n : Notice) (sc : Scale) (s : State) :
    formReply p k t a (post n ((heldState p k t s).withScale sc)) = formReply p k t a (post n (s.withScale sc)) := by
  rw [heldState_eq]
  cases p <;> rfl

/-! ### The tare requests (O40) -/

section
variable (p : Port) (s : State)

/-- R90: the checks of TARE_PUSH, and the tare that waits. -/
theorem serveTarePush_checked : serveTarePush p s
    = checked [(decide (s.scale.status = .uncalibrated), .wrongState), (scaleBusy s.scale, .busy),
        (decide (4 ≤ s.scale.tare.length), .full)] s
      (s.withScale { s.scale with pendingTare := some { port := p, deadline := s.now + tarePeriod } }, none) := by
  simp only [checked_cons, checked_nil, decide_eq_true_eq]
  rfl

/-- R93, R95: the checks of TARE_POP, and the level it takes off. -/
theorem serveTarePop_checked {tare : List Int} (ht : s.scale.tare.drop 1 = tare) : serveTarePop p s
    = checked [(scaleBusy s.scale, .busy), (decide (s.scale.tare = []), .range)] s
      (post (.tareChanged tare.length tare.head? .pop (some p))
          (s.withScale { s.scale with tare := tare, net := s.scale.gross - tare.headD 0 }),
        some (okWith (byte tare.length ++ sle32 (tare.headD 0)))) := by
  subst ht
  simp only [checked_cons, checked_nil, decide_eq_true_eq]
  rfl

/-- R94, R95: the check of TARE_CLEAR, and the empty stack. -/
theorem serveTareClear_checked : serveTareClear p s
    = checked [(scaleBusy s.scale, .busy)] s
      (post (.tareChanged 0 none .clear (some p)) (s.withScale { s.scale with tare := [], net := s.scale.gross }),
        some (okWith (byte 0))) := by
  have hnet : formNet { s.scale with tare := [] } = { s.scale with tare := [], net := s.scale.gross } :=
    congrArg (fun n => ({ s.scale with tare := [], net := n } : Scale)) (Int.sub_zero _)
  simp only [checked_cons, checked_nil, serveTareClear, hnet]
  rfl

end

/-- R90, R100: a request that is answered later leaves its request in its port's buffer. -/
theorem exec_waits {r : Request} {p : Port} {s : State} (h : s.admits p = true)
    (hk : panelRequestOnly r = false ∨ p = .panel) {dt : Nat} {tag : Byte} {sc : Scale}
    (hr : serveRequest p r (heldState p r.kind tag (s.after dt))
      = ((heldState p r.kind tag (s.after dt)).withScale sc, none)) :
    exec (r.command dt p tag) s = .next (((s.after dt).withScale sc).setPort p
      { state := .outstanding, buffer := some { kind := r.kind, tag := tag }, overrun := (s.port p).overrun,
        reply := if (s.port p).state = .replyReady then none else (s.port p).reply }) := by
  rw [exec_served h hk, hr, conclude_waiting, heldState_eq, setPort_withScale, after_port]

/-- R93, R94: a request that changes the scale and posts a notice is answered over both. -/
theorem exec_rescales {r : Request} {p : Port} {s : State} (h : s.admits p = true)
    (hk : panelRequestOnly r = false ∨ p = .panel) {dt : Nat} {tag : Byte} {sc : Scale} {n : Notice} {a : Answer}
    (hr : serveRequest p r (heldState p r.kind tag (s.after dt))
      = (post n ((heldState p r.kind tag (s.after dt)).withScale sc), some a)) :
    exec (r.command dt p tag) s = .next (formReply p r.kind tag a (post n ((s.after dt).withScale sc))) := by
  rw [exec_served h hk, hr, conclude_answered, formReply_rescaled_held]

/-- Settles O40: each tare request by its checks, and what it comes to where they pass. -/
theorem tareRequestsChangeTheStack : Obligations.TareRequestsChangeTheStack := by
  unfold Obligations.TareRequestsChangeTheStack
  intro dt p tag s hadm busy refused
  have hbusy : scaleBusy s.scale = busy := rfl
  refine ⟨fun res h => ?_, fun hstatus hb hlen => ?_, fun res h => ?_, fun top rest hb ht => ?_, fun hb => ?_, fun hb => ?_⟩
  · refine exec_runRefused (r := .tarePush) hadm (.inl rfl) ((serveTarePush_checked _ _).trans (checked_refused ?_))
    rw [held_scale]
    exact h
  · refine exec_waits (r := .tarePush) hadm (.inl rfl) (((serveTarePush_checked _ _).trans (checked_passed ?_)).trans ?_)
    · rw [held_scale, State.after_scale, hbusy, hb]
      simp [firstFailure, hstatus, hlen]
    · rw [held_scale, held_now]
      rfl
  · refine exec_runRefused (r := .tarePop) hadm (.inl rfl) ((serveTarePop_checked _ _ rfl).trans (checked_refused ?_))
    rw [held_scale]
    exact h
  · have hdrop : (heldState p 0x31 tag (s.after dt)).scale.tare.drop 1 = rest := by
      rw [held_scale, State.after_scale, ht]
      rfl
    refine exec_rescales (r := .tarePop) hadm (.inl rfl)
      (((serveTarePop_checked _ _ hdrop).trans (checked_passed ?_)).trans ?_)
    · rw [held_scale, State.after_scale, hbusy, hb, ht]
      rfl
    · rw [held_scale]
      rfl
  · refine exec_runRefused (r := .tareClear) hadm (.inl rfl) ((serveTareClear_checked _ _).trans (checked_refused ?_))
    rw [held_scale, State.after_scale, hbusy, hb]
    rfl
  · refine exec_rescales (r := .tareClear) hadm (.inl rfl)
      (((serveTareClear_checked _ _).trans (checked_passed ?_)).trans ?_)
    · rw [held_scale, State.after_scale, hbusy, hb]
      rfl
    · rw [held_scale]
      rfl

/-! ### The captures' requests (O42) -/

/-- R100: the checks of a capture, and the capture that waits. -/
theorem beginCapture_checked (body : CaptureBody) (inRange : Bool) (s : State) : beginCapture body inRange s
    = checked [(s.inRun, .wrongState), (scaleBusy s.scale, .busy), (!inRange, .range),
        (decide (s.stir.measured ≠ 0), .unstable)] s
      (s.withScale { s.scale with
        pendingCapture := some { body := body, sum := 0, count := 0, deadline := s.now + capturePeriod } }, none) := by
  simp only [checked_cons, checked_nil, decide_eq_true_eq]
  rfl

theorem zeroInRange_eq (calId : Nat) (drift offB offC : Int) : zeroInRange calId drift offB offC
    = decide (calId ≤ 65535 ∧ -500 ≤ drift ∧ drift ≤ 500 ∧ -50 ≤ offB ∧ offB ≤ 50 ∧ -50 ≤ offC ∧ offC ≤ 50) := by
  simp only [zeroInRange, Bool.decide_and, Bool.and_assoc]

theorem spanInRange_eq (known calId : Nat) :
    spanInRange known calId = decide (1000 ≤ known ∧ known ≤ 100000 ∧ calId ≤ 65535) := by
  simp only [spanInRange, Bool.decide_and, Bool.and_assoc]

/-- R100: a capture's request on the panel, refused by the first check that fails or waiting. -/
theorem exec_capture {r : Request} {body : CaptureBody} {inRange : Bool} {s : State} (h : s.admits .panel = true)
    (hr : ∀ u, serveRequest .panel r u = beginCapture body inRange u) (dt : Nat) (tag : Byte) :
    let checks := [(s.inRun, Result.wrongState), (scaleBusy s.scale, .busy), (!inRange, .range),
      (decide (s.stir.measured ≠ 0), .unstable)]
    (∀ res, firstFailure checks = some res → exec (r.command dt .panel tag) s
      = .next (formReply .panel r.kind tag { result := res, clamped := false, body := [] } (s.after dt)))
    ∧ (firstFailure checks = none → exec (r.command dt .panel tag) s = .next (((s.after dt).withScale
        { s.scale with
          pendingCapture := some { body := body, sum := 0, count := 0, deadline := s.now + dt + 5000000 } }).withPanel
        { state := .outstanding, buffer := some { kind := r.kind, tag := tag }, overrun := s.panel.overrun,
          reply := if s.panel.state = .replyReady then none else s.panel.reply })) := by
  have hserve := (hr (heldState .panel r.kind tag (s.after dt))).trans (beginCapture_checked _ _ _)
  rw [held_scale, held_inRun, held_stir, held_now] at hserve
  exact ⟨fun res hf => exec_runRefused h (.inr rfl) (hserve.trans (checked_refused hf)),
    fun hf => exec_waits h (.inr rfl) (hserve.trans (checked_passed hf))⟩

/-- Settles O42: both requests by the checks of a capture. -/
theorem captureRequestsWaitForSamples : Obligations.CaptureRequestsWaitForSamples := by
  unfold Obligations.CaptureRequestsWaitForSamples
  rintro dt tag kind c body inRange s hadm (⟨calId, drift, offB, offC, rfl, rfl, rfl, rfl⟩ | ⟨known, calId, rfl, rfl, rfl, rfl⟩)
  · rw [← zeroInRange_eq]
    exact exec_capture (r := .calZero calId drift offB offC) hadm (fun _ => rfl) dt tag
  · rw [← spanInRange_eq]
    exact exec_capture (r := .calSpan known calId) hadm (fun _ => rfl) dt tag

/-! ### What a restart or a deadline answers (O41) -/

section
variable {s : State} {r : Result}

theorem endTare_none (ht : s.scale.pendingTare = none) : endTare r s = s := by
  simp only [endTare, ht]

/-- R92: a pending tare is answered on the port its request stands on. -/
theorem endTare_pending {x : PendingTare} {q : ReqId} (ht : s.scale.pendingTare = some x)
    (hq : (s.port x.port).buffer = some q) : endTare r s = formReply x.port q.kind q.tag
      { result := r, clamped := false, body := [] } (s.withScale { s.scale with pendingTare := none }) := by
  simp only [endTare, ht, answerPending, withScale_port, hq]
  rfl

/-- R101: a pending capture is answered on the panel. -/
theorem endCapture_pending {x : PendingCapture} {q : ReqId} (hc : s.scale.pendingCapture = some x)
    (hq : s.panel.buffer = some q) : endCapture r s = formReply .panel q.kind q.tag
      { result := r, clamped := false, body := [] } (s.withScale { s.scale with pendingCapture := none }) := by
  simp only [endCapture, hc, answerPending, State.port, State.withScale_panel, hq]
  rfl

/-- A port on which no tare waits is left as it was. -/
theorem endTare_port_ne {p : Port} (h : s.scale.pendingTare.map (·.port) ≠ some p) : (endTare r s).port p = s.port p := by
  unfold endTare
  split
  next x hx =>
    have hne : p ≠ x.port := fun heq => h (by rw [hx, heq]; rfl)
    unfold answerPending
    split
    · rw [formReply, setPort_port_ne hne, withScale_port]
    · rw [withScale_port]
  · rfl

theorem endCapture_port {p : Port} (h : ¬(p = .panel ∧ s.scale.pendingCapture.isSome = true)) :
    (endCapture r s).port p = s.port p := by
  cases p
  · rw [endCapture_none (Option.not_isSome_iff_eq_none.mp fun hc => h ⟨rfl, hc⟩)]
  · exact endCapture_reach r s .link (by decide)

end

/-- R88: the Scale Unit restarted, and what waited answered ABORTED. -/
def restarted (s : State) : State := endCapture .aborted (endTare .aborted (s.withScale (restartScale s.scale)))

section
variable {s : State}

theorem serveRestartScale_eq (s : State) : serveRestartScale s = (if (restarted s).scale.status = s.scale.status
    then restarted s else postScaleEvent (restarted s), some (okWith [])) := rfl

theorem restarted_scale (s : State) : (restarted s).scale = { s.scale with
    window := [], stable := false, pendingTare := none, pendingCapture := none, status := restartStatus s.scale.cal } := by
  rw [restarted, endCapture_scale, endTare_scale]
  rfl

theorem restarted_reach (s : State) : Touches [.scale, .panel, .link] s (restarted s) :=
  (((withScale_touches _ s).mono (by decide)).trans (endTare_reach _ _)).trans
    ((endCapture_reach _ _).mono (by decide))

/-- R88, R105: SCALE_EVENT where a restart changes the status. -/
theorem serveRestartScale_notices (s : State) : (serveRestartScale s).1.notices
    = if restartStatus s.scale.cal = s.scale.status then s.notices
      else (post (.scaleEvent (restartStatus s.scale.cal) s.scale.cal.calId s.scale.lastSeq) s).notices := by
  have hnotices : (restarted s).notices = s.notices := restarted_reach s .notices (by decide)
  rw [serveRestartScale_eq]
  unfold postScaleEvent
  rw [restarted_scale]
  dsimp only
  split
  · exact hnotices
  · exact post_notices_congr _ hnotices

theorem serveRestartScale_scale (s : State) : (serveRestartScale s).1.scale = { s.scale with
    window := [], stable := false, pendingTare := none, pendingCapture := none, status := restartStatus s.scale.cal } := by
  rw [← restarted_scale, serveRestartScale_eq]
  dsimp only
  split <;> rfl

theorem serveRestartScale_port (s : State) (p : Port) : (serveRestartScale s).1.port p = (restarted s).port p := by
  rw [serveRestartScale_eq]
  dsimp only
  split
  · rfl
  · exact post_port _ _ p

/-- R88: a port on which nothing waits is left as it was. -/
theorem restarted_port {p : Port} (h : ¬s.scale.waitsOn p) : (restarted s).port p = s.port p := by
  unfold restarted
  rw [endCapture_port, endTare_port_ne, withScale_port]
  · exact fun ht => h (.inl ht)
  · rw [endTare_scale]
    exact fun hc => h (.inr hc)

/-- R88, R92: the reply to a tare that waited. -/
theorem restarted_tare {x : PendingTare} {q : ReqId} (hok : s.PortOk) (ht : s.scale.pendingTare = some x)
    (hq : (s.port x.port).buffer = some q) : (restarted s).port x.port
      = (formReply x.port q.kind q.tag { result := .aborted, clamped := false, body := [] } s).port x.port := by
  have hnone := hok.one (by rw [ht]; rfl)
  unfold restarted
  rw [endTare_pending (s := s.withScale (restartScale s.scale)) ht (by rw [withScale_port]; exact hq), endCapture_none]
  · exact formReply_own_port (by rw [withScale_port, withScale_port])
  · rw [formReply, setPort_scale]
    exact hnone

/-- R88, R101: the reply to a capture that waited. -/
theorem restarted_capture {x : PendingCapture} {q : ReqId} (hok : s.PortOk) (hc : s.scale.pendingCapture = some x)
    (hq : s.panel.buffer = some q) : (restarted s).panel
      = (formReply .panel q.kind q.tag { result := .aborted, clamped := false, body := [] } s).panel := by
  have hnone := hok.noTare (by rw [hc]; rfl)
  unfold restarted
  rw [endTare_none (s := s.withScale (restartScale s.scale)) hnone,
    endCapture_pending (s := s.withScale (restartScale s.scale)) hc hq]
  rfl

end

/-- A reply on one port does not see what another port held. -/
theorem formReply_port_congr {q : Port} {k t : Byte} {a : Answer} {s u : State} (h : u.port q = s.port q) :
    (formReply q k t a u).port q = (formReply q k t a s).port q := formReply_own_port (by rw [h])

/-- R88: the part after a RESTART_SCALE that port `p` holds in state `u`. -/
def restartReplied (p : Port) (tag : Byte) (u : State) : State := formReply p 0x33 tag (okWith []) (serveRestartScale u).1

section
variable (p : Port) (tag : Byte) (s : State)

theorem restartReplied_scale : (restartReplied p tag s).scale = { s.scale with
    window := [], stable := false, pendingTare := none, pendingCapture := none, status := restartStatus s.scale.cal } := by
  rw [restartReplied, formReply, setPort_scale, serveRestartScale_scale]

theorem restartReplied_notices : (restartReplied p tag s).notices
    = if restartStatus s.scale.cal = s.scale.status then s.notices
      else (post (.scaleEvent (restartStatus s.scale.cal) s.scale.cal.calId s.scale.lastSeq) s).notices :=
  (formReply_touches p 0x33 tag (okWith []) (serveRestartScale s).1 .notices (by cases p <;> decide)).trans
    (serveRestartScale_notices s)

theorem restartReplied_port {q : Port} (h : q ≠ p) : (restartReplied p tag s).port q = (restarted s).port q := by
  rw [restartReplied, formReply, setPort_port_ne h, serveRestartScale_port]

theorem restartReplied_touches : Touches [.scale, .notices, .panel, .link] s (restartReplied p tag s) :=
  ((serveRestartScale_touches s).mono (by decide)).trans ((formReply_touches p _ _ _ _).mono (by cases p <;> decide))

end

/-- Settles O41: a restart answers what waits on the other port or on the panel, and so does a deadline. -/
theorem restartsAndDeadlinesEndWhatWaits : Obligations.RestartsAndDeadlinesEndWhatWaits := by
  unfold Obligations.RestartsAndDeadlinesEndWhatWaits
  intro dt p tag s hsafe
  have hok := (State.portSafe_iff s).mp hsafe
  refine ⟨fun hadm => ?_, fun ht => ?_, fun x q ht hq => ?_, fun hc => ?_, fun x q hc hq => ?_⟩
  · obtain ⟨u, hu⟩ : ∃ u, u = heldState p 0x33 tag (s.after dt) := ⟨_, rfl⟩
    have hasked : u.Asked p := hu ▸ (after_portOk hok dt).heldState
      (by rw [after_port]; exact (State.admits_iff.mp hadm).1) 0x33 tag
    have hscale : u.scale = s.scale := by rw [hu, held_scale, State.after_scale]
    have hnotices : u.notices = s.notices := by rw [hu, held_notices, State.after_notices]
    have hother : ∀ q, q ≠ p → u.port q = s.port q := fun q hq => by
      rw [hu, heldState_eq, setPort_port_ne hq, after_port]
    have hwaits : ∀ q, s.scale.waitsOn q → q ≠ p := fun q hw heq => hasked.clear (by rw [hscale, ← heq]; exact hw)
    have hunits : Touches [.now, .scale, .notices, .panel, .link] s (restartReplied p tag u) := by
      have hheld : Touches [.now, .scale, .notices, .panel, .link] s u := hu ▸
        ((after_touches dt s).mono (by decide)).trans ((heldState_touches p 0x33 tag _).mono (by cases p <;> decide))
      exact hheld.trans ((restartReplied_touches p tag u).mono (by decide))
    refine ⟨restartReplied p tag u, ?_, ?_, ?_, ?_, fun x q ht hq => ?_,
      fun x q hc hq => ?_, hunits .engine (by decide), hunits .conv (by decide), hunits .heat (by decide),
      hunits .stir (by decide), hunits .mon (by decide), hunits .plan (by decide), hunits .permit (by decide),
      hunits .store (by decide), hunits .lid (by decide)⟩
    · rw [hu]
      exact exec_served (r := .restartScale) hadm (.inl rfl) dt tag
    · rw [restartReplied_scale, hscale]
      rfl
    · rw [restartReplied_scale, restartReplied_notices, hscale, hnotices, post_notices_congr _ hnotices]
    · refine formReply_own_port ?_
      rw [serveRestartScale_port, restarted_port hasked.clear, hu, held_own_port, after_port]
    · have hne := hwaits x.port (.inl (by rw [ht]; rfl))
      rw [restartReplied_port p tag u hne, restarted_tare hasked.ok (hscale ▸ ht) (by rw [hother _ hne]; exact hq)]
      exact formReply_port_congr (hother _ hne)
    · have hne := hwaits .panel (.inr ⟨rfl, by rw [hc]; rfl⟩)
      have hpanel : u.panel = s.panel := hother .panel hne
      refine (restartReplied_port p tag u hne).trans ((restarted_capture hasked.ok (hscale ▸ hc) (hpanel ▸ hq)).trans ?_)
      exact formReply_port_congr (q := .panel) hpanel
  · exact congrArg Host.Outcome.next (endTare_none (s := s.after dt) ht)
  · exact congrArg Host.Outcome.next (endTare_pending (s := s.after dt) ht (by rw [after_port]; exact hq))
  · exact congrArg Host.Outcome.next (endCapture_none (s := s.after dt) hc)
  · exact congrArg Host.Outcome.next (endCapture_pending (s := s.after dt) hc hq)

end Sys2Proof.Machine
end

section
/-! PROOFS. A delivered weigh sample at a pending tare (O43) and at a pending capture (O44). -/

namespace Sys2Proof.Machine

theorem weighDelivered_port (x : Sample) (s : State) (p : Port) : (weighDelivered x s).port p = s.port p := by
  have hgroup : (groupEnded s).port p = s.port p := by cases p <;> rfl
  rw [weighDelivered, (bandInputs_touches _).port (by cases p <;> decide),
    (chained_reach x (groupEnded s)).port (by cases p <;> decide), hgroup]

theorem weighDelivered_cal (x : Sample) (s : State) : (weighDelivered x s).scale.cal = s.scale.cal := by
  obtain ⟨_, _, _, _, _, hchain⟩ := weighChain_eq s.conv.tc x s.scale
  rw [weighDelivered_scale, hchain]

theorem weighDelivered_tare (x : Sample) (s : State) : (weighDelivered x s).scale.tare = s.scale.tare := by
  obtain ⟨_, _, _, _, _, hchain⟩ := weighChain_eq s.conv.tc x s.scale
  rw [weighDelivered_scale, hchain]

theorem weighDelivered_pendingCapture (x : Sample) (s : State) :
    (weighDelivered x s).scale.pendingCapture = s.scale.pendingCapture := by
  obtain ⟨_, _, _, _, _, hchain⟩ := weighChain_eq s.conv.tc x s.scale
  rw [weighDelivered_scale, hchain]

/-! ### A pending tare (O43) -/

section
variable {x : Sample} {s : State}

/-- R91: a sample that is not STABLE leaves the tare waiting. -/
theorem tareSample_waits (h : s.scale.stable = false) : tareSample x s = s := by
  unfold tareSample
  rw [h]
  split
  · rfl
  · rfl

/-- R91, R95: a STABLE sample completes the tare, with F as its level. -/
theorem tareSample_completes {y : PendingTare} {q : ReqId} (ht : s.scale.pendingTare = some y)
    (hq : (s.port y.port).buffer = some q) (hs : s.scale.stable = true) :
    tareSample x s = formReply y.port q.kind q.tag
      (okWith (sle32 s.scale.gross ++ byte (s.scale.tare.length + 1) ++ le16 x.seq))
      (postTareChanged .push (some y.port) (s.withScale (tareTaken s.scale))) := by
  have hpushed : ((postTareChanged .push (some y.port) (s.withScale (tareTaken s.scale))).port y.port).buffer = some q := by
    rw [postTareChanged, post_port, withScale_port, hq]
  unfold tareSample
  rw [ht, hs]
  change answerPending y.port (okWith _) (postTareChanged .push (some y.port) (s.withScale (tareTaken s.scale))) = _
  rw [answerPending, hpushed]
  rfl

variable {y : PendingTare} (ht : s.scale.pendingTare = some y)
include ht

/-- R87, R91: a sample that is not STABLE at a pending tare. -/
theorem weighTaken_waits (hs : (weighTaken x s).scale.stable = false) :
    (weighTaken x s).scale.pendingTare = some y ∧ (weighTaken x s).scale.tare = s.scale.tare
      ∧ (weighTaken x s).port y.port = s.port y.port := by
  obtain ⟨u, hu⟩ : ∃ u, u = takeWeight (weighDelivered x s).scale.net (weighDelivered x s).scale.stable
    (weighDelivered x s) := ⟨_, rfl⟩
  have hreach : Touches engineReach (weighDelivered x s) u := hu ▸ takeWeight_touches _ _ _
  have hscale : u.scale = (weighDelivered x s).scale := hreach .scale (by decide)
  have htaken : weighTaken x s = u := by
    rw [(weighTaken_scale x s).2, ← hscale] at hs
    rw [weighTaken, ← hu, tareSample_waits hs]
  rw [htaken, hscale, weighDelivered_pendingTare, weighDelivered_tare, hreach.port (by cases y.port <;> decide),
    weighDelivered_port]
  exact ⟨ht, rfl, rfl⟩

/-- R87, R91: a STABLE sample at a pending tare. -/
theorem weighTaken_completes {q : ReqId} (hq : (s.port y.port).buffer = some q)
    (hs : (weighTaken x s).scale.stable = true) : (weighTaken x s).scale.pendingTare = none
      ∧ (weighTaken x s).scale.tare = (weighTaken x s).scale.gross :: s.scale.tare ∧ (weighTaken x s).scale.net = 0
      ∧ (weighTaken x s).port y.port = (formReply y.port q.kind q.tag (okWith (sle32 (weighTaken x s).scale.gross
          ++ byte (s.scale.tare.length + 1) ++ le16 x.seq)) s).port y.port := by
  obtain ⟨u, hu⟩ : ∃ u, u = takeWeight (weighDelivered x s).scale.net (weighDelivered x s).scale.stable
    (weighDelivered x s) := ⟨_, rfl⟩
  have hreach : Touches engineReach (weighDelivered x s) u := hu ▸ takeWeight_touches _ _ _
  have hscale : u.scale = (weighDelivered x s).scale := hreach .scale (by decide)
  have hport : u.port y.port = s.port y.port := by
    rw [hreach.port (by cases y.port <;> decide), weighDelivered_port]
  have htare : u.scale.tare = s.scale.tare := by rw [hscale, weighDelivered_tare]
  have hgross : (weighTaken x s).scale.gross = u.scale.gross := by rw [(weighTaken_scale x s).1, hscale]
  rw [(weighTaken_scale x s).2, ← hscale] at hs
  have htaken := tareSample_completes (x := x) (s := u) (by rw [hscale, weighDelivered_pendingTare, ht])
    (by rw [hport, hq]) hs
  have hstack : (weighTaken x s).scale = tareTaken u.scale := by
    rw [weighTaken, ← hu, htaken, formReply, setPort_scale]
    rfl
  rw [hgross, hstack, ← htare]
  refine ⟨rfl, rfl, Int.sub_self _, ?_⟩
  rw [weighTaken, ← hu, htaken]
  refine formReply_own_port ?_
  rw [postTareChanged, post_port, withScale_port, hport]

end

/-- R91: a pending tare leaves the working calibration. -/
theorem tareSample_cal (x : Sample) (s : State) : (tareSample x s).scale.cal = s.scale.cal := by
  unfold tareSample
  split
  · rfl
  · split
    · exact (congrArg Scale.cal (answerPending_touches _ _ _ .scale (by decide))).trans rfl
    · rfl

theorem weighTaken_cal (x : Sample) (s : State) : (weighTaken x s).scale.cal = s.scale.cal := by
  rw [weighTaken, tareSample_cal, takeWeight_touches _ _ _ .scale (by decide), weighDelivered_cal]

/-- Settles O43: the sample goes to the pending tare last, with the STABLE verdict of the chain. -/
theorem stableSampleCompletesTheTare : Obligations.StableSampleCompletesTheTare := by
  unfold Obligations.StableSampleCompletesTheTare
  intro dt began c0 c1 c2 c3 y q s hconv hkeep _ ht hc hq
  have hend := endWeigh_delivers (c0 := c0) (c1 := c1) (c2 := c2) (c3 := c3) (s := s.after dt) hconv hkeep hc
  have hport : ∀ (u : State) (c : Converter), (u.withConv c).port y.port = u.port y.port := fun u c => by
    cases y.port <;> rfl
  refine ⟨endWeigh c0 c1 c2 c3 (s.after dt), rfl, ?_, fun hs => ?_, fun hs => ?_⟩
  all_goals rw [hend] at *
  · exact weighTaken_cal _ (s.after dt)
  · obtain ⟨htare, hstack, hnet, hreply⟩ := weighTaken_completes (s := s.after dt) ht (by rw [after_port]; exact hq) hs
    refine ⟨htare, hstack, hnet, ?_⟩
    rw [hport]
    exact hreply.trans (formReply_port_congr (after_port s dt _))
  · obtain ⟨htare, hstack, hwaits⟩ := weighTaken_waits (s := s.after dt) ht hs
    refine ⟨htare, hstack, ?_⟩
    rw [hport]
    exact hwaits.trans (after_port s dt _)

/-! ### A pending capture (O44) -/

/-- R86, R151: no change of a detector of R86 changes the measured speed. -/
theorem takeTrip_measured (d : Detector) (s : State) : (takeTrip d s).stir.measured = s.stir.measured := by
  have hentered : (enterTripped d s).stir.measured = s.stir.measured := by rw [(enterTripped_rest d s).2.1]
  unfold takeTrip
  split
  · split
    · exact hentered
    · split
      · rfl
      · exact hentered
    · split
      · rfl
      · exact congrArg Stir.measured (joinTrip_reach d s .stir (by decide))
    · rfl
    · rfl
  · rfl

theorem bandInputs_measured (s : State) : (bandInputs s).stir.measured = s.stir.measured := by
  have hover : ∀ (q : Qualifies) (u : State), (detectorInput .overload q u).stir.measured = u.stir.measured :=
    fun q u => by
      unfold detectorInput
      dsimp only
      split <;> rfl
  have hbowl : ∀ (q : Qualifies) (u : State), (detectorInput .bowlAbsent q u).stir.measured = u.stir.measured :=
    fun q u => by
      cases hc : (countInput (setLength .bowlAbsent) (clearLength .bowlAbsent) q (u.mon.get .bowlAbsent)).2
      · rw [detectorInput_counts hc]
        rfl
      · rw [detectorInput_changes hc, changeDetector_eq]
        cases u.asserts .bowlAbsent
        · exact (takeTrip_measured .bowlAbsent (conditionTold .bowlAbsent true u)).trans rfl
        · rfl
  unfold bandInputs
  split
  · rfl
  · exact (hbowl _ _).trans (hover _ _)

theorem weighDelivered_measured (x : Sample) (s : State) : (weighDelivered x s).stir.measured = s.stir.measured :=
  (bandInputs_measured _).trans (congrArg Stir.measured (chained_reach x (groupEnded s) .stir (by decide)))

/-- R87, R101: a pending capture has taken the sample, before the Step Engine does. -/
def captureTaken (x : Sample) (s : State) : State := captureSample x (weighDelivered x s)

/-- R98, R102, R103: the calibration that a capture sets, and the capture's own answer. -/
def calibrationSet (cal : Calibration) (body : List Byte) (s : State) : State :=
  answerPending .panel (okWith body) (changeCalibration cal (s.withScale { s.scale with pendingCapture := none }))

section
variable {s : State}

theorem calibrationSet_scale (cal : Calibration) (body : List Byte) (s : State) :
    (calibrationSet cal body s).scale = recalibrated cal { s.scale with pendingCapture := none } := by
  rw [calibrationSet, answerPending_touches _ _ _ .scale (by decide), changeCalibration_scale]
  rfl

theorem changeCalibration_panel (cal : Calibration) (ht : s.scale.pendingTare = none) :
    (changeCalibration cal s).panel = s.panel := by
  have hcleared : ∀ u : State, (clearTareForCalibration u).panel = u.panel := fun u => by
    unfold clearTareForCalibration
    split <;> rfl
  have hended := endTare_none (r := .aborted) (s := s.withScale { s.scale with cal := cal }) ht
  refine (hcleared _).trans ?_
  rw [hended]
  rfl

theorem calibrationSet_panel (cal : Calibration) (body : List Byte) {q : ReqId} (ht : s.scale.pendingTare = none)
    (hq : s.panel.buffer = some q) :
    (calibrationSet cal body s).panel = (formReply .panel q.kind q.tag (okWith body) s).panel := by
  have hpanel := changeCalibration_panel (s := s.withScale { s.scale with pendingCapture := none }) cal ht
  have hbuffer : ((changeCalibration cal (s.withScale { s.scale with pendingCapture := none })).port .panel).buffer
      = some q := (congrArg PortState.buffer hpanel).trans hq
  rw [calibrationSet, answerPending, hbuffer]
  exact formReply_port_congr (q := .panel) hpanel

variable {x : Sample} {c : PendingCapture} (hc : s.scale.pendingCapture = some c)
include hc

/-! What a capture makes of a sample (R101). -/

theorem captureSample_spoilt (hbad : (x.motion || x.overrange || decide (s.stir.measured ≠ 0)) = true) :
    captureSample x s = endCapture .unstable s := by
  unfold captureSample
  rw [hc]
  exact if_pos hbad

variable (hgood : (x.motion || x.overrange || decide (s.stir.measured ≠ 0)) = false)
include hgood

theorem captureSample_sums (hcount : c.count < 7) : captureSample x s = s.withScale { s.scale with
    pendingCapture := some { c with sum := c.sum + rawSum x, count := c.count + 1 } } := by
  unfold captureSample
  rw [hc]
  dsimp only
  rw [hgood, if_neg Bool.false_ne_true, if_neg (by omega)]

theorem captureSample_eighth (hcount : c.count = 7) :
    captureSample x s = completeCapture c.body (roundDiv (c.sum + rawSum x) 8) s := by
  unfold captureSample
  rw [hc]
  dsimp only
  rw [hgood, if_neg Bool.false_ne_true, if_pos (by omega)]

end

/-! What a capture that completes sets (R102, R103). -/

theorem completeCapture_zero (calId : Nat) (drift offB offC savg : Int) (s : State) :
    completeCapture (.zero calId drift offB offC) savg s
      = calibrationSet (zeroCalibration savg s.conv.tc s.conv.tcOffset calId drift offB offC s.scale.cal)
          (sle32 savg ++ sle16 (clampInt 0 600 (s.conv.tc - s.conv.tcOffset + offC)) ++ le16 calId) s := rfl

theorem completeCapture_span_refused {known calId : Nat} {savg : Int} {s : State}
    (h : savg - s.scale.cal.zero < 1000 ∨ 65535 < spanFactor known (savg - s.scale.cal.zero)) :
    completeCapture (.span known calId) savg s = endCapture .range s := by
  unfold completeCapture
  dsimp only
  split
  · rfl
  next hlow => rw [if_pos (h.resolve_left hlow)]

theorem completeCapture_span {known calId : Nat} {savg : Int} {s : State} (hlow : 1000 ≤ savg - s.scale.cal.zero)
    (hhigh : spanFactor known (savg - s.scale.cal.zero) ≤ 65535) : completeCapture (.span known calId) savg s
      = calibrationSet { s.scale.cal with span := (spanFactor known (savg - s.scale.cal.zero)).toNat, calId := calId }
          (le16 (spanFactor known (savg - s.scale.cal.zero)).toNat ++ le16 calId) s := by
  unfold completeCapture
  dsimp only
  rw [if_neg (by omega), if_neg (by omega)]
  rfl

/-- R102, R103: a capture that completes leaves no tare to wait. -/
theorem captureSample_pendingTare {x : Sample} {s : State} (h : s.scale.pendingTare = none) :
    (captureSample x s).scale.pendingTare = none := by
  have hended : ∀ r, (endCapture r s).scale.pendingTare = none := fun r => by
    rw [endCapture_scale]
    exact h
  have hset : ∀ cal body, (calibrationSet cal body s).scale.pendingTare = none := fun cal body => by
    rw [calibrationSet_scale]
    rfl
  unfold captureSample
  split
  · exact h
  next c _ =>
    split
    · exact hended _
    split
    · cases c.body with
      | zero calId drift offB offC => exact hset _ _
      | span known calId =>
        unfold completeCapture
        dsimp only
        split
        · exact hended _
        split
        · exact hended _
        · exact hset _ _
    · exact h

/-- R87: with no tare pending a sample leaves the scale and the panel as the capture does. -/
theorem endWeigh_captures {began : Nat} {c0 c1 c2 c3 : Int} {s : State} (hconv : s.conv.state = .weigh began)
    (hkeep : s.conv.weighDiscard = false) (ht : s.scale.pendingTare = none) :
    (endWeigh c0 c1 c2 c3 s).scale = (captureTaken (formSample c0 c1 c2 c3 s) s).scale
      ∧ (endWeigh c0 c1 c2 c3 s).panel = (captureTaken (formSample c0 c1 c2 c3 s) s).panel := by
  obtain ⟨u, hu⟩ : ∃ u, u = captureTaken (formSample c0 c1 c2 c3 s) s := ⟨_, rfl⟩
  have hreach := takeWeight_touches u.scale.net u.scale.stable u
  have hnone : u.scale.pendingTare = none := by
    rw [hu]
    exact captureSample_pendingTare (by rw [weighDelivered_pendingTare, ht])
  have htaken : finishWeigh c0 c1 c2 c3 s = takeWeight u.scale.net u.scale.stable u := by
    rw [← tareSample_none (x := formSample c0 c1 c2 c3 s) (s := takeWeight u.scale.net u.scale.stable u)
      (by rw [hreach .scale (by decide), hnone]), hu]
    unfold finishWeigh
    rw [hkeep]
    rfl
  rw [endWeigh_weigh c0 c1 c2 c3 s hconv, htaken, ← hu]
  exact ⟨hreach .scale (by decide), hreach .panel (by decide)⟩

/-! What a sample is to a capture (R69, R81, R101). -/

/-- R69, R101: a sample ends a capture where the blade turns or is to turn, or a count is clipped. -/
theorem formSample_spoils (c0 c1 c2 c3 : Int) (s : State) :
    ((formSample c0 c1 c2 c3 s).motion || (formSample c0 c1 c2 c3 s).overrange || decide (s.stir.measured ≠ 0))
      = (decide (s.stir.measured ≠ 0 ∨ s.stir.ramped ≠ 0)
        || [clipCount c0, clipCount c1, clipCount c2, clipCount c3].any
          (fun v => decide (v = -524288 ∨ v = 524287))) := by
  have hmotion : (motionFlag s.stir.measured s.stir.ramped || decide (s.stir.measured ≠ 0))
      = decide (s.stir.measured ≠ 0 ∨ s.stir.ramped ≠ 0) := by
    rw [motionFlag_eq, ← Bool.decide_or, decide_eq_decide]
    omega
  simp only [List.any_cons, List.any_nil, Bool.or_false, ← atExtreme_eq, ← Bool.or_assoc]
  rw [← hmotion, formSample]
  dsimp only
  ac_rfl

/-- R81 to R84: F and the net that a sample leaves: both 0 with a span factor of 0, else F from the entries of the window
and the net from F and the top of the stack. -/
def Scale.Figures (span : Nat) (entries : List Int) (top : Int) (sc : Scale) : Prop :=
  if span = 0 then sc.gross = 0 ∧ sc.net = 0
  else sc.gross = roundDiv entries.sum entries.length ∧ sc.net = roundDiv entries.sum entries.length - top

theorem weighChain_figures (tc : Int) (x : Sample) (sc : Scale) : (weighChain tc x sc).Figures sc.cal.span
    ((if sc.window.length < 8 then sc.window else sc.window.drop 1).map (·.gross) ++ [grossOf sc.cal tc x])
    (sc.tare.headD 0) := by
  unfold Scale.Figures
  split
  next hspan =>
    rw [weighChain_uncalibrated hspan]
    exact ⟨rfl, rfl⟩
  next hspan =>
    have hentries : ((if sc.window.length < 8 then sc.window else sc.window.drop 1).map (·.gross)
        ++ [grossOf sc.cal tc x]) = (weighChain tc x sc).window.map (·.gross) := by
      have hwindow : (chainCalibrated tc x sc).window = (if sc.window.length < 8 then sc.window else sc.window.drop 1)
          ++ [{ gross := grossOf sc.cal tc x, motion := x.motion, overrange := x.overrange }] := rfl
      rw [weighChain_calibrated hspan, hwindow, List.map_append]
      rfl
    rw [hentries, List.length_map, weighChain_calibrated hspan]
    exact ⟨rfl, rfl⟩

/-- R98: a change of calibration holds the figures, where it leaves a span factor of 0 only as it was. -/
theorem Scale.Figures.recalibrated {span : Nat} {entries : List Int} {top : Int} {sc : Scale} {cal : Calibration}
    (h : sc.Figures span entries top) (hspan : cal.span = 0 → span = 0) :
    (recalibrated cal { sc with pendingCapture := none }).Figures span entries top := by
  unfold Scale.Figures at h ⊢
  by_cases hcal : cal.span = 0
  · rw [if_pos (hspan hcal)]
    simp [Machine.recalibrated, hcal]
  · simpa [Machine.recalibrated, hcal] using h

/-! The capture after its sample, in the terms of the state before it. -/

section
variable {x : Sample} {s : State} {c : PendingCapture} {q : ReqId}

theorem weighDelivered_panel (x : Sample) (s : State) : (weighDelivered x s).panel = s.panel :=
  weighDelivered_port x s .panel

theorem weighDelivered_reply (x : Sample) (s : State) (k t : Byte) (a : Answer) :
    (formReply .panel k t a (weighDelivered x s)).panel = (formReply .panel k t a s).panel :=
  formReply_port_congr (q := .panel) (weighDelivered_port x s .panel)

/-- R102: the plate temperature held, and the offset it was formed with. -/
theorem weighDelivered_conv (x : Sample) (s : State) : (weighDelivered x s).conv = (groupEnded s).conv :=
  (bandInputs_touches _ .conv (by decide)).trans (chained_reach x (groupEnded s) .conv (by decide))

variable (hc : s.scale.pendingCapture = some c)
include hc

/-- R101: a capture that ends with nothing set. -/
theorem endCapture_delivered (hq : s.panel.buffer = some q) (r : Result) :
    (endCapture r (weighDelivered x s)).scale.pendingCapture = none
      ∧ (endCapture r (weighDelivered x s)).scale.cal = s.scale.cal
      ∧ (endCapture r (weighDelivered x s)).panel
        = (formReply .panel q.kind q.tag { result := r, clamped := false, body := [] } s).panel := by
  rw [endCapture_scale, weighDelivered_cal, endCapture_answers ((weighDelivered_pendingCapture x s).trans hc)
    ((congrArg PortState.buffer (weighDelivered_panel x s)).trans hq), weighDelivered_reply]
  exact ⟨rfl, rfl, rfl⟩

theorem captureTaken_spoilt
    (hbad : (x.motion || x.overrange || decide (s.stir.measured ≠ 0)) = true) :
    captureTaken x s = endCapture .unstable (weighDelivered x s) :=
  captureSample_spoilt ((weighDelivered_pendingCapture x s).trans hc) (by rw [weighDelivered_measured]; exact hbad)

variable (hgood : (x.motion || x.overrange || decide (s.stir.measured ≠ 0)) = false)
include hgood

theorem captureTaken_sums (hcount : c.count < 7) :
    (captureTaken x s).scale.pendingCapture = some { c with sum := c.sum + rawSum x, count := c.count + 1 }
      ∧ (captureTaken x s).scale.cal = s.scale.cal ∧ (captureTaken x s).panel = s.panel := by
  rw [captureTaken, captureSample_sums ((weighDelivered_pendingCapture x s).trans hc)
    (by rw [weighDelivered_measured]; exact hgood) hcount]
  exact ⟨rfl, weighDelivered_cal x s, weighDelivered_panel x s⟩

theorem captureTaken_eighth (hcount : c.count = 7) : captureTaken x s
    = completeCapture c.body (roundDiv (c.sum + rawSum x) 8) (weighDelivered x s) :=
  captureSample_eighth ((weighDelivered_pendingCapture x s).trans hc)
    (by rw [weighDelivered_measured]; exact hgood) hcount

end

/-- R98: `t` is the part after a capture in state `s` has set calibration `cal` and been answered with `body`: the stack and
the window empty, F and the net held, the status that of a restart. -/
structure CaptureSet (cal : Calibration) (body : List Byte) (q : ReqId) (entries : List Int) (s t : State) : Prop where
  ended : t.scale.pendingCapture = none
  taken : t.scale.cal = cal
  reply : t.panel = (formReply .panel q.kind q.tag (okWith body) s).panel
  tare : t.scale.tare = []
  window : t.scale.window = []
  stable : t.scale.stable = false
  figures : (cal.span = 0 → s.scale.cal.span = 0) → t.scale.Figures s.scale.cal.span entries (s.scale.tare.headD 0)
  status : t.scale.status = restartStatus cal

theorem calibrationSet_delivered {x : Sample} {s : State} {q : ReqId} (ht : s.scale.pendingTare = none)
    (hq : s.panel.buffer = some q) (cal : Calibration) (body : List Byte) :
    CaptureSet cal body q ((if s.scale.window.length < 8 then s.scale.window else s.scale.window.drop 1).map (·.gross)
      ++ [grossOf s.scale.cal s.conv.tc x]) s (calibrationSet cal body (weighDelivered x s)) := by
  have hscale := calibrationSet_scale cal body (weighDelivered x s)
  refine ⟨by rw [hscale]; rfl, by rw [hscale]; rfl, ?_, by rw [hscale]; rfl, by rw [hscale]; rfl, by rw [hscale]; rfl,
    fun hspan => ?_, by rw [hscale]; rfl⟩
  · rw [calibrationSet_panel cal body ((weighDelivered_pendingTare x s).trans ht)
      ((congrArg PortState.buffer (weighDelivered_panel x s)).trans hq), weighDelivered_reply]
  · rw [hscale]
    refine Scale.Figures.recalibrated ?_ hspan
    rw [weighDelivered_scale]
    exact weighChain_figures s.conv.tc x s.scale

theorem CaptureSet.congr {cal : Calibration} {body : List Byte} {q : ReqId} {entries : List Int} {s t u : State}
    (h : CaptureSet cal body q entries s u) (hscale : t.scale = u.scale) (hpanel : t.panel = u.panel) :
    CaptureSet cal body q entries s t := by
  obtain ⟨hended, htaken, hreply, htare, hwindow, hstable, hfigures, hstatus⟩ := h
  rw [← hscale] at hended htaken htare hwindow hstable hfigures hstatus
  exact ⟨hended, htaken, hpanel.trans hreply, htare, hwindow, hstable, hfigures, hstatus⟩

/-- R103: a span factor within its range is a span that is not 0 unless the factor is. -/
theorem spanFactor_toNat_ne {known : Nat} {e : Int} (h : spanFactor known e ≠ 0) : (spanFactor known e).toNat ≠ 0 := by
  have hnonneg : 0 ≤ spanFactor known e := roundDiv_nonneg (by positivity) _
  omega

/-- Settles O44: the capture takes the sample after the chain and before the Step Engine, and its eighth sample sets the
calibration. -/
theorem eighthSampleCompletesTheCapture : Obligations.EighthSampleCompletesTheCapture := by
  unfold Obligations.EighthSampleCompletesTheCapture
  intro dt began c0 c1 c2 c3 c q s hconv hkeep ht hc hq k clipped sum bad replied gross entries held
  obtain ⟨x, hx⟩ : ∃ x, x = formSample c0 c1 c2 c3 (s.after dt) := ⟨_, rfl⟩
  obtain ⟨t, hexec⟩ : ∃ t, t = endWeigh c0 c1 c2 c3 (s.after dt) := ⟨_, rfl⟩
  have hspoils : (x.motion || x.overrange || decide (s.stir.measured ≠ 0)) = bad :=
    hx ▸ formSample_spoils c0 c1 c2 c3 (s.after dt)
  have hsum : c.sum + rawSum x = sum := by rw [hx]; rfl
  have hgross : grossOf s.scale.cal s.conv.tc x = gross := by rw [hx]; rfl
  have hcal : (weighDelivered x (s.after dt)).scale.cal = s.scale.cal := weighDelivered_cal x (s.after dt)
  obtain ⟨hscale, hpanel⟩ : t.scale = (captureTaken x (s.after dt)).scale ∧ t.panel = (captureTaken x (s.after dt)).panel := by
    rw [hexec, hx]
    exact endWeigh_captures (s := s.after dt) hconv hkeep ht
  have hended : ∀ r, captureTaken x (s.after dt) = endCapture r (weighDelivered x (s.after dt)) →
      t.scale.pendingCapture = none ∧ t.scale.cal = s.scale.cal ∧ t.panel = replied r [] := fun r hr => by
    rw [hscale, hpanel, hr]
    exact endCapture_delivered (s := s.after dt) hc hq r
  have hset : ∀ cal body, captureTaken x (s.after dt) = calibrationSet cal body (weighDelivered x (s.after dt)) →
      CaptureSet cal body q entries s t := fun cal body hr => by
    have hdelivered := calibrationSet_delivered (x := x) (s := s.after dt) ht hq cal body
    rw [← hr, State.after_scale, State.after_conv, hgross] at hdelivered
    obtain ⟨hended, htaken, hreply, htare, hwindow, hstable, hfigures, hstatus⟩ := hdelivered.congr hscale hpanel
    exact ⟨hended, htaken, hreply, htare, hwindow, hstable, hfigures, hstatus⟩
  refine ⟨t, congrArg Host.Outcome.next hexec.symm, fun hbad => ?_, fun hgood hcount => ?_, fun hgood hcount => ?_⟩
  · exact hended .unstable (captureTaken_spoilt (s := s.after dt) hc (hspoils.trans hbad))
  · rw [hscale, hpanel, ← hsum]
    exact captureTaken_sums (s := s.after dt) hc (hspoils.trans hgood) hcount
  have heighth := captureTaken_eighth (s := s.after dt) hc (hspoils.trans hgood) hcount
  rw [hsum] at heighth
  cases hbody : c.body with
  | zero calId drift offB offC =>
    rw [hbody, completeCapture_zero, hcal, weighDelivered_conv] at heighth
    obtain ⟨hnone, htaken, hreply, htare, hwindow, hstable, hfigures, hstatus⟩ := hset _ _ heighth
    refine ⟨hnone, fun _ _ _ _ heq => ?_, fun _ _ heq => by cases heq⟩
    cases heq
    exact ⟨htaken, by rw [htaken]; exact hreply, htare, hwindow, hstable, hfigures id, hstatus⟩
  | span known calId =>
    rw [hbody] at heighth
    by_cases hrange : roundDiv sum 8 - s.scale.cal.zero < 1000
        ∨ 65535 < spanFactor known (roundDiv sum 8 - s.scale.cal.zero)
    · obtain ⟨hnone, hkept, hreply⟩ := hended .range (heighth.trans (completeCapture_span_refused (by rwa [hcal])))
      refine ⟨hnone, fun _ _ _ _ heq => (by cases heq), fun _ _ heq => ?_⟩
      cases heq
      refine ⟨fun _ => ⟨hkept, hreply⟩, fun hlow hhigh => ?_⟩
      exact absurd hrange (not_or.mpr ⟨not_lt.mpr hlow, not_lt.mpr hhigh⟩)
    · obtain ⟨hlow, hhigh⟩ := not_or.mp hrange
      rw [completeCapture_span (by rw [hcal]; exact not_lt.mp hlow) (by rw [hcal]; exact not_lt.mp hhigh), hcal] at heighth
      obtain ⟨hnone, htaken, hreply, htare, hwindow, hstable, hfigures, hstatus⟩ := hset _ _ heighth
      refine ⟨hnone, fun _ _ _ _ heq => (by cases heq), fun _ _ heq => ?_⟩
      cases heq
      refine ⟨fun hout => absurd hout hrange, fun _ _ _ => ⟨htaken, hreply, htare, hwindow, hstable, fun hfactor => ?_⟩⟩
      have hspan := spanFactor_toNat_ne hfactor
      exact ⟨hfigures fun hzero => absurd hzero hspan, hstatus.trans (if_neg hspan)⟩

end Sys2Proof.Machine
end

section
/-! PROOFS. The Heat Unit's timers (O51): frames and slots, the rise of the setpoint, and the plateau timer, whose ring no
operation of the Step Engine changes. -/

namespace Sys2Proof.Machine

/-! ### Frames and slots (R116, R119) -/

/-- R119: in a slot of the frame the gate follows the on-count, of a full frame too. -/
theorem gateIn_of_lt {n w k : Nat} (hk : k < n) : gateIn n w k = decide (k < w) := by
  rw [gateIn, ← Bool.decide_or]
  exact decide_eq_decide.mpr (by omega)

/-- R116: a slot boundary within the frame. -/
theorem nextSlot_within {h : Heat} (hslot : h.slot + 1 < h.frameN) :
    nextSlot h = { h with slot := h.slot + 1, gate := decide (h.slot + 1 < h.frameW) } := by
  rw [nextSlot, if_pos hslot, gateIn_of_lt hslot]

/-- R111: nothing rises while the countdown does not run. -/
theorem riseSetpoint_idle {now : Nat} {h : Heat} (hidle : ∀ at', h.countdown ≠ .running at') : riseSetpoint now h = h := by
  unfold riseSetpoint
  split
  · rename_i heq _ _ _
    exact absurd heq (hidle _)
  · rfl

/-- R111: a rise of the setpoint, to the target at most. -/
theorem riseSetpoint_running {now at' r : Nat} {sp target : Int} {h : Heat} (hc : h.countdown = .running at')
    (hsp : h.sp = some sp) (htarget : h.target = some target) (hr : h.ramp = some r) :
    riseSetpoint now h = if target ≤ sp + (r : Int) then { h with sp := some target, countdown := .stopped }
      else { h with sp := some (sp + (r : Int)), countdown := .running (now + rampPeriod) } := by
  unfold riseSetpoint
  rw [hc, hsp, htarget, hr]

/-! ### The plateau ring and its timer (R123), outside the reach of the Step Engine -/

/-- R123: what the plateau timer works on. -/
def Heat.plateau (h : Heat) : List Int × Nat := (h.ring, h.plateauTimer)

/-- R107: the handover at step entry leaves the frame in progress and what was delivered to the unit. -/
theorem enteredHeat_frameKept (b : Bool) (now : Nat) (r : StepRecord) (h : Heat) :
    frameKept h (enteredHeat b now r h) := by
  obtain ⟨-, -, -, -, -, -, -, -, -, -, hkept⟩ := heatEntered_enteredHeat (b := b) (now := now) (r := r) (h := h)
  exact hkept

@[simp] theorem enteredHeat_plateau (b : Bool) (now : Nat) (r : StepRecord) (h : Heat) :
    (enteredHeat b now r h).plateau = h.plateau := by
  obtain ⟨-, -, -, -, -, -, -, hring, htimer⟩ := enteredHeat_frameKept b now r h
  exact Prod.ext hring htimer

@[simp] theorem enterTripped_plateau (d : Detector) (s : State) : (enterTripped d s).heat.plateau = s.heat.plateau := by
  rw [(enterTripped_rest d s).1]
  rfl

@[simp] theorem enterEnded_plateau (r : EndReason) (s : State) : (enterEnded r s).heat.plateau = s.heat.plateau := by
  rw [(enterEnded_rest r s).1]
  rfl

@[simp] theorem closeStep_plateau (e : StepEnd) (s : State) : (closeStep e s).heat.plateau = s.heat.plateau := by
  unfold closeStep
  split <;> rfl

theorem steppedInto_plateau (i : Nat) (r : StepRecord) (s : State) : (steppedInto i r s).heat.plateau = s.heat.plateau := by
  have hannounced : (steppedInto i r s).heat = _ := announceStep_touches i r _ _ .heat (by decide)
  rw [hannounced, handOver_heat, enteredHeat_plateau]
  rfl

@[simp] theorem enterStep_plateau (i : Nat) (r : StepRecord) (s : State) : (enterStep i r s).heat.plateau = s.heat.plateau := by
  have hentered : enterStep i r s
      = if (steppedInto i r s).asserts .probeB ∧ r.heatMode ≠ .off then enterTripped .probeB (steppedInto i r s)
        else steppedInto i r s := rfl
  rw [hentered]
  split
  · rw [enterTripped_plateau, steppedInto_plateau]
  · exact steppedInto_plateau i r s

/-- R35: a chain of step ends keeps them, by recursion on the records above the live step. -/
theorem endStepAt_plateau : ∀ (rest : List StepRecord) (i : Nat) (e : StepEnd) (s : State),
    (endStepAt rest i e s).heat.plateau = s.heat.plateau
  | [], _, e, s => by rw [endStepAt, enterEnded_plateau, closeStep_plateau]
  | r :: rest, i, e, s => by
    have hentered : (enterStep (i + 1) r (closeStep e s)).heat.plateau = s.heat.plateau := by
      rw [enterStep_plateau, closeStep_plateau]
    have hcome : (comeIn (enterStep (i + 1) r (closeStep e s))).1.heat.plateau = s.heat.plateau := by
      rw [comeIn_touches _ .heat (by decide), hentered]
    rw [endStepAt]
    generalize comeIn (enterStep (i + 1) r (closeStep e s)) = o at hcome
    obtain ⟨v, _ | e'⟩ := o
    · split
      · exact hcome
      · exact hentered
    · split
      · exact (endStepAt_plateau rest (i + 1) e' v).trans hcome
      · exact hentered

theorem endStep_plateau (e : StepEnd) (s : State) : (endStep e s).heat.plateau = s.heat.plateau := by
  unfold endStep
  split
  · exact endStepAt_plateau _ _ e s
  · rfl

/-- R37: a change of BOIL ends a step or sets the boil hold, and keeps them. -/
theorem takeBoil_plateau (b : Bool) (s : State) : (takeBoil b s).heat.plateau = s.heat.plateau := by
  have hhold : (syncHold s).heat.plateau = s.heat.plateau := rfl
  unfold takeBoil
  dsimp only
  split
  · split
    · rw [endStep_plateau, hhold]
    · exact hhold
  · exact hhold

theorem boilInput_plateau (q : Qualifies) (s : State) : (detectorInput .boil q s).heat.plateau = s.heat.plateau := by
  cases hc : (countInput (setLength .boil) (clearLength .boil) q (s.mon.get .boil)).2
  · rw [detectorInput_counts hc]
    rfl
  · rw [detectorInput_changes hc]
    exact takeBoil_plateau _ (conditionTold .boil _ s)

/-! ### BOIL and the live step (R37, R150) -/

section
variable {l : Live} {r : StepRecord} {s : State} (hl : s.engine.live = some l) (hr : s.plan.steps[l.index]? = some r)
include hl hr

/-- R37: BOIL asserting where it ends the step. -/
theorem takeBoil_ends (hs : s.engine.state = .running) (hexit : r.exits.boil = true)
    (hp : l.phase = .approach ∨ l.phase = .dwell) : takeBoil true s = endStep .boil (syncHold s) := by
  have hrecord : (syncHold s).liveRecord = some r := (liveRecord_of_live (s := syncHold s) hl).trans hr
  have hphase : (syncHold s).phase = some l.phase := phase_of_live (s := syncHold s) hl
  have hrun : (syncHold s).isRunning = true := decide_eq_true hs
  unfold takeBoil
  simp only [hrecord, hphase, hrun, hexit, Option.some_inj, hp, and_self, if_true]

/-- R37: a change of BOIL that ends no step tells the boil hold. -/
theorem takeBoil_tells {b : Bool} (hexit : r.exits.boil = false) : takeBoil b s = syncHold s := by
  have hrecord : (syncHold s).liveRecord = some r := (liveRecord_of_live (s := syncHold s) hl).trans hr
  unfold takeBoil
  simp only [hrecord, hexit, Bool.false_eq_true, false_and, and_false, if_false]

/-- R37, R58: the assertion of BOIL that ends a step. -/
theorem boilAsserts_ends (hs : s.engine.state = .running) (hexit : r.exits.boil = true)
    (hp : l.phase = .approach ∨ l.phase = .dwell) :
    ∃ more, (changeDetector .boil true s).engine.log = s.engine.log ++ logEntryOf l r .boil :: more := by
  have htaken : changeDetector .boil true s = endStep .boil (syncHold (conditionTold .boil true s)) :=
    takeBoil_ends (s := conditionTold .boil true s) hl hr hs hexit hp
  rw [htaken]
  exact endStep_log (s := syncHold (conditionTold .boil true s)) hl hr

/-- R37: the assertion of BOIL in a running step that it does not end. -/
theorem boilAsserts_holds (hs : s.engine.state = .running) (hexit : r.exits.boil = false) :
    (changeDetector .boil true s).engine = s.engine
      ∧ (changeDetector .boil true s).heat.boilHold = decide (r.boil = .hold) := by
  have htaken : changeDetector .boil true s = syncHold (conditionTold .boil true s) :=
    takeBoil_tells (s := conditionTold .boil true s) hl hr hexit
  have hrun : (conditionTold .boil true s).isRunning = true := decide_eq_true hs
  have hholds := boilHolds_of_live (s := conditionTold .boil true s) hl hr
  rw [hrun, show (conditionTold .boil true s).asserts .boil = true from rfl] at hholds
  rw [htaken]
  exact ⟨rfl, hholds⟩

end

section
variable {s : State} (hx : s.mon.boil.asserted = false)
include hx

/-- R150: the verdict that brings BOIL to its fifth in a row. -/
theorem boilInput_asserts (hn : 4 ≤ s.mon.boil.setCount) : detectorInput .boil .toAssert s = changeDetector .boil true s := by
  have hchanges := detectorInput_changes (d := .boil) (s := s)
    (countInput_asserts (n := 5) (k := 10) hx (Nat.succ_le_succ hn))
  rwa [show s.asserts .boil = false from hx] at hchanges

/-- R150: a verdict that comes short of the fifth in a row. -/
theorem boilInput_counts (hn : s.mon.boil.setCount < 4) : detectorInput .boil .toAssert s
    = s.withMon { s.mon with boil := { s.mon.boil with setCount := s.mon.boil.setCount + 1 } } := by
  have hcount : countInput 5 10 .toAssert s.mon.boil = ({ s.mon.boil with setCount := s.mon.boil.setCount + 1 }, false) := by
    simp [countInput, hx, Nat.not_le.mpr hn]
  refine (detectorInput_counts (d := .boil) (congrArg Prod.snd hcount)).trans ?_
  exact congrArg (fun o : DetState × Bool => s.withMon { s.mon with boil := o.1 }) hcount

/-- R150: a negative verdict starts the count afresh. -/
theorem boilInput_restarts :
    detectorInput .boil .toClear s = s.withMon { s.mon with boil := { s.mon.boil with setCount := 0 } } := by
  have hcount : countInput 5 10 .toClear s.mon.boil = ({ s.mon.boil with setCount := 0 }, false) := by
    simp [countInput, hx]
  refine (detectorInput_counts (d := .boil) (congrArg Prod.snd hcount)).trans ?_
  exact congrArg (fun o : DetState × Bool => s.withMon { s.mon with boil := o.1 }) hcount

end

/-! ### The plateau timer (R123, R124) -/

/-- R123: the ring taken and the plateau timer started again, before the verdict. -/
def ringTaken (s : State) : State :=
  s.withHeat { s.heat with ring := plateauRing s.heat, plateauTimer := s.now + plateauPeriod }

theorem expirePlateau_eq (s : State) : expirePlateau s
    = detectorInput .boil (if plateauVerdict (ringTaken s).heat then .toAssert else .toClear) (ringTaken s) := rfl

/-- R124: the verdict as one condition. -/
theorem plateauVerdict_eq (h : Heat) : plateauVerdict h = decide (h.ring.length = 60 ∧ 900 ≤ h.tb
    ∧ h.ring.getLastD 0 - h.ring.headD 0 ≤ 2 ∧ (h.frameN * 6 ≤ h.frameW * 10 ∨ h.boilHold = true)) := by
  simp [plateauVerdict, Bool.and_assoc]

theorem next_withHeat_congr {s : State} {x y : Heat} (h : x = y) :
    (Host.Outcome.next (s.withHeat x) : Host.Outcome State Fault Refusal) = .next (s.withHeat y) := by rw [h]

/-- Settles O51: each timer by the operation that it runs; what BOIL brings about reaches neither the ring nor its timer. -/
theorem heatTimersTakeTheirEffect : Obligations.HeatTimersTakeTheirEffect := by
  unfold Obligations.HeatTimersTakeTheirEffect
  intro dt s hsafe h
  obtain ⟨-, hnext, -⟩ := frameSafe_iff.mp hsafe
  refine ⟨?_, fun hslot => ?_, fun at' sp target r hc hsp htarget hr => ?_, fun hidle => ?_, fun ring boils hring hboils => ?_⟩
  · refine next_withHeat_congr (s := s.after dt) ?_
    rw [endFrame, gateIn_of_lt (pairSafe_pos hnext)]
    cases s.heat.next.step <;> rfl
  · exact next_withHeat_congr (s := s.after dt) (nextSlot_within hslot)
  · exact next_withHeat_congr (s := s.after dt) (riseSetpoint_running hc hsp htarget hr)
  · exact next_withHeat_congr (s := s.after dt) (riseSetpoint_idle hidle)
  · have hexec : exec (.plateauTimer dt) s = .next (expirePlateau (s.after dt)) := rfl
    have hverdict : plateauVerdict (ringTaken (s.after dt)).heat = boils := by
      rw [plateauVerdict_eq, hboils, hring]
      rfl
    have hplateau : (expirePlateau (s.after dt)).heat.plateau = (ring, s.now + dt + 1000000) := by
      rw [expirePlateau_eq, boilInput_plateau, hring]
      rfl
    rw [expirePlateau_eq, hverdict] at hexec hplateau
    refine ⟨_, hexec, congrArg Prod.fst hplateau, congrArg Prod.snd hplateau, fun hx hb hn => ?_, fun hx hb => ?_,
      fun hx hb hn => ?_⟩
    · rw [hb, if_pos rfl, boilInput_counts (s := ringTaken (s.after dt)) hx hn]
      exact ⟨rfl, rfl⟩
    · rw [hb, if_neg Bool.false_ne_true, boilInput_restarts (s := ringTaken (s.after dt)) hx]
      exact ⟨rfl, rfl⟩
    · rw [hb, if_pos rfl, boilInput_asserts (s := ringTaken (s.after dt)) hx hn]
      refine ⟨?_, fun l r hl hr hs => ⟨fun hexit hp => ?_, fun hexit => ?_⟩⟩
      · rw [changeDetector_mon]
        exact congrArg (fun b => (⟨true, b, 0, 0⟩ : DetState)) (Bool.or_true s.mon.boil.latched)
      · exact boilAsserts_ends (s := ringTaken (s.after dt)) hl hr hs hexit hp
      · exact boilAsserts_holds (s := ringTaken (s.after dt)) hl hr hs hexit

end Sys2Proof.Machine
end

section
/-! PROOFS. What no command but a tach edge, its absence, a control update and a reset changes: the blade as the Stir Unit turns
and measures it, and the lock while the blade is not known to stand. -/

namespace Sys2Proof.Machine

/-! ### The blade and its lock -/

/-- R128: what the Stir Unit turns the blade by, and measures it with. -/
def Stir.blade (st : Stir) : Direction × Nat × Int × Nat × List Nat × Nat × Bool :=
  (st.drive, st.ramped, st.integral, st.duty, st.ring, st.measured, st.stopped)

/-- From `s` to `t` the blade is kept, the segment stays in its range, and the lock is released only under the stopped
indication that the Lid Controller holds. -/
structure BladeKept (s t : State) : Prop where
  blade : t.stir.blade = s.stir.blade
  seg : s.stir.seg < 4 → t.stir.seg < 4
  told : t.lid.stopped = s.lid.stopped
  lock : s.lid.demand = .locked → t.lid.demand = .unlocked → s.lid.stopped = true

theorem BladeKept.refl (s : State) : BladeKept s s :=
  ⟨rfl, id, rfl, fun hl hu => by rw [hl] at hu; cases hu⟩

/-- R129, R130: a handover restarts the pattern or leaves it, and keeps the drive. -/
theorem stirEntry_blade (r : StepRecord) (st : Stir) : (stirEntry r st).blade = st.blade := rfl

theorem stirEntry_seg (r : StepRecord) (st : Stir) : (stirEntry r st).seg = 0 := rfl

theorem stirAdopt_blade (r : StepRecord) (st : Stir) : (stirAdopt r st).blade = st.blade := by
  unfold stirAdopt
  dsimp only
  split <;> rfl

theorem stirAdopt_seg (r : StepRecord) (st : Stir) :
    (stirAdopt r st).seg = if st.pattern = r.pattern then st.seg else 0 := by
  unfold stirAdopt
  dsimp only
  split <;> rfl

/-- R148: a locked demand is released under the stopped indication alone. -/
theorem stopped_of_released {l : Lid} (hl : l.demand = .locked) (hu : wantedDemand l = .unlocked) : l.stopped = true := by
  unfold wantedDemand at hu
  split at hu
  · split at hu
    · rw [hl] at hu
      cases hu
    · cases hu
  · split at hu
    · assumption
    · rw [hl] at hu
      cases hu

section
variable {s₀ s t : State} (h : BladeKept s₀ s)
include h

/-- A change outside the lid that keeps the blade. -/
theorem BladeKept.stirred (hb : t.stir.blade = s.stir.blade) (hs : s.stir.seg < 4 → t.stir.seg < 4)
    (hl : t.lid = s.lid) : BladeKept s₀ t where
  blade := hb.trans h.blade
  seg h4 := hs (h.seg h4)
  told := hl ▸ h.told
  lock := hl ▸ h.lock

/-- A change outside the Stir Unit and the lid. -/
theorem BladeKept.congr (hs : t.stir = s.stir) (hl : t.lid = s.lid) : BladeKept s₀ t :=
  h.stirred (congrArg Stir.blade hs) (fun h4 => hs ▸ h4) hl

theorem BladeKept.touches {ts : List Block} (k : Touches ts s t) (hs : .stir ∉ ts := by decide)
    (hl : .lid ∉ ts := by decide) : BladeKept s₀ t :=
  h.congr (k .stir hs) (k .lid hl)

/-- R148: the demand decided afresh under the stopped indication as it stands. -/
theorem BladeKept.decided {l : Lid} (hd : l.demand = s.lid.demand) (hs : l.stopped = s.lid.stopped) (now : Nat) :
    BladeKept s₀ (s.withLid (decideDemand now l)) where
  blade := h.blade
  seg := h.seg
  told := (decideDemand_stopped now l).trans (hs.trans h.told)
  lock hl hu := by
    rw [State.withLid_lid, decideDemand_demand] at hu
    cases hdemand : s.lid.demand with
    | locked => exact h.told ▸ hs ▸ stopped_of_released (hd.trans hdemand) hu
    | unlocked => exact h.lock hl hdemand

theorem tellWish_bladeKept (w : Bool) : BladeKept s₀ (tellWish w s) := by
  unfold tellWish
  split
  · exact h
  · exact h.decided (l := { s.lid with wish := w }) rfl rfl _

theorem tellLidOpen_bladeKept (b : Bool) : BladeKept s₀ (tellLidOpen b s) := by
  unfold tellLidOpen
  split
  · exact h
  · exact h.decided (l := { s.lid with lidOpen := b }) rfl rfl _

/-! ### Entries into PAUSED, TRIPPED and ENDED -/

theorem entryActions_bladeKept : BladeKept s₀ (entryActions s) :=
  have hcut : BladeKept s₀ ((s.withHeat (forceOff s.now s.heat)).withStir { s.stir with applied := 0 }) :=
    h.stirred rfl id rfl
  tellWish_bladeKept ((hcut.touches (mapLive_touches _ _)).touches (syncHold_touches _)) _

theorem enterPaused_bladeKept (c : CauseSet) : BladeKept s₀ (enterPaused c s) :=
  (entryActions_bladeKept (h.touches (withEngine_touches _ s))).touches (postEngineState_touches _)

theorem enterEnded_bladeKept (r : EndReason) : BladeKept s₀ (enterEnded r s) :=
  ((entryActions_bladeKept (h.touches (withEngine_touches _ s))).touches (withHeat_touches _ _)).touches
    (postEngineState_touches _)

theorem enterTripped_bladeKept (d : Detector) : BladeKept s₀ (enterTripped d s) :=
  ((entryActions_bladeKept (h.touches (withEngine_touches _ s))).touches (post_touches _ _)).touches
    (postEngineState_touches _)

theorem takeTrip_bladeKept (d : Detector) : BladeKept s₀ (takeTrip d s) := by
  unfold takeTrip
  split
  · split
    · exact enterTripped_bladeKept h d
    · split
      · exact h
      · exact enterTripped_bladeKept h d
    · split
      · exact h
      · exact h.touches (joinTrip_reach d s)
    · exact h
    · exact h
  · exact h

/-! ### Step entry and step ends -/

theorem handOver_bladeKept (r : StepRecord) : BladeKept s₀ (handOver r s) := by
  have htold := tellWish_bladeKept h (wantsLock s)
  have hstir := handOver_stir r s
  have hlid := handOver_lid r s
  exact ⟨by rw [hstir, stirEntry_blade]; exact h.blade, fun _ => by rw [hstir, stirEntry_seg]; decide, hlid ▸ htold.told,
    hlid ▸ htold.lock⟩

theorem enterStep_bladeKept (i : Nat) (r : StepRecord) : BladeKept s₀ (enterStep i r s) := by
  have hentered : BladeKept s₀ (steppedInto i r s) :=
    (handOver_bladeKept (h.touches withNewLive_reach) r).touches (announceStep_touches i r _ _)
  unfold enterStep
  dsimp only
  split
  · exact enterTripped_bladeKept hentered _
  · exact hentered

theorem closeStep_bladeKept (e : StepEnd) : BladeKept s₀ (closeStep e s) := by
  unfold closeStep
  split
  · exact h.congr rfl rfl
  · exact h

omit h in
theorem endStepAt_bladeKept : ∀ (rest : List StepRecord) (i : Nat) (e : StepEnd) {s : State}, BladeKept s₀ s →
    BladeKept s₀ (endStepAt rest i e s)
  | [], _, e, _, h => enterEnded_bladeKept (closeStep_bladeKept h e) _
  | r :: rest, i, e, s, h => by
    have hentered := enterStep_bladeKept (closeStep_bladeKept h e) (i + 1) r
    have hcome := hentered.touches (comeIn_touches _)
    unfold endStepAt
    dsimp only
    split
    · split
      next heq => rwa [heq] at hcome
      next heq =>
        rw [heq] at hcome
        exact endStepAt_bladeKept rest (i + 1) _ hcome
    · exact hentered

theorem endStep_bladeKept (e : StepEnd) : BladeKept s₀ (endStep e s) := by
  unfold endStep
  split
  · exact endStepAt_bladeKept _ _ e h
  · exact h

/-- What a phase check found is taken, over a change of the live step alone. -/
theorem settleOutcome_bladeKept {o : State × Option StepEnd} (k : Touches [.engine] s o.1) :
    BladeKept s₀ (settleOutcome o) := by
  have ho := h.touches k
  unfold settleOutcome
  split
  · exact endStep_bladeKept ho _
  · exact ho

/-! ### Events that reach the engine -/

theorem takeLockConfirmation_bladeKept : BladeKept s₀ (takeLockConfirmation s) := by
  unfold takeLockConfirmation
  split
  · exact settleOutcome_bladeKept h ((passLocking_touches s).trans (comeIntoPhase_touches _))
  · exact h

theorem takeTempReached_bladeKept : BladeKept s₀ (takeTempReached s) := by
  unfold takeTempReached
  split
  · split
    · split
      · exact endStep_bladeKept h _
      · split
        · exact settleOutcome_bladeKept h ((toPhase_touches _ s).trans (phaseChecks_touches _))
        · exact h
    · exact h
  · exact h

theorem takeBoil_bladeKept (b : Bool) : BladeKept s₀ (takeBoil b s) := by
  have hheld := h.touches (syncHold_touches s)
  unfold takeBoil
  dsimp only
  split
  · split
    · exact endStep_bladeKept hheld _
    · exact hheld
  · exact hheld

theorem takeLidOpen_bladeKept : BladeKept s₀ (takeLidOpen s) := by
  unfold takeLidOpen
  split
  · exact enterPaused_bladeKept h _
  · exact h

theorem takeLidClosed_bladeKept : BladeKept s₀ (takeLidClosed s) := by
  unfold takeLidClosed
  split
  · exact h.congr rfl rfl
  · exact h

theorem takeLapse_bladeKept : BladeKept s₀ (takeLapse s) := by
  unfold takeLapse
  split
  · exact enterPaused_bladeKept h _
  · split
    · exact h
    · exact h.congr rfl rfl
  all_goals exact h

theorem takeRearm_bladeKept : BladeKept s₀ (takeRearm s) := by
  unfold takeRearm
  split
  · exact h.congr rfl rfl
  · exact h

theorem takeReference_bladeKept (net : Int) (u : Bool) : BladeKept s₀ (takeReference net u s) :=
  settleOutcome_bladeKept h ((mapLive_touches _ s).trans (comeIntoPhase_touches _))

/-- R40: a comparison in DOSING notes what was added, and may end the step. -/
theorem compareDose_bladeKept (added target10 : Int) (l : Live) : BladeKept s₀ (compareDose added target10 l s) := by
  have hnoted : BladeKept s₀ (noteAdded added target10 l.index l s) := by
    unfold noteAdded
    split <;> exact h.congr rfl rfl
  have hover : BladeKept s₀ (noteOverdose added target10 l.index (noteAdded added target10 l.index l s)) := by
    unfold noteOverdose
    split
    · exact hnoted.congr rfl rfl
    · exact hnoted
  unfold compareDose
  split
  · exact endStep_bladeKept hover _
  · exact hnoted

theorem takeWeight_bladeKept (net : Int) (b : Bool) : BladeKept s₀ (takeWeight net b s) := by
  unfold takeWeight
  split
  · split
    · split
      · split
        · exact takeReference_bladeKept h net false
        · exact h
      · split
        · exact compareDose_bladeKept h _ _ _
        · exact h
      all_goals exact h
    · exact h
  · exact h

/-- R54, R130: an adoption hands the stirring fields over, and may trip the run or end the step. -/
theorem adoptStep_bladeKept (old r : StepRecord) : BladeKept s₀ (adoptStep old r s) := by
  have hstir := takenOver_stir (old := old) (r := r) (s := s)
  have htaken : BladeKept s₀ (takenOver old r s) := by
    refine h.stirred (by rw [hstir, stirAdopt_blade]) (fun h4 => ?_) (takenOver_reach old r s .lid (by decide))
    rw [hstir, stirAdopt_seg]
    split
    · exact h4
    · decide
  have hover : BladeKept s₀ (adoptHandOver old r s) := by
    rw [adoptHandOver_eq]
    unfold adoptProbe
    split
    · exact takeTrip_bladeKept htaken _
    · exact htaken
  unfold adoptStep adoptConsequences
  dsimp only
  split
  · split
    · exact settleOutcome_bladeKept hover ((toPhase_touches _ _).trans (phaseChecks_touches _))
    · exact settleOutcome_bladeKept hover (phaseChecks_touches _)
  · exact hover.touches (keepAdopted_touches r _)

/-! ### Detectors, deliveries and samples -/

theorem reportChange_bladeKept (d : Detector) (b : Bool) : BladeKept s₀ (reportChange d b s) := by
  have htrip : ∀ d, BladeKept s₀ (if b = true then takeTrip d s else s) := fun d => by
    split
    · exact takeTrip_bladeKept h d
    · exact h
  cases d
  case lidOpen =>
    refine tellLidOpen_bladeKept (s := if b = true then takeLidOpen s else takeLidClosed s) ?_ b
    split
    · exact takeLidOpen_bladeKept h
    · exact takeLidClosed_bladeKept h
  case boil => exact takeBoil_bladeKept h b
  case overload => exact h.stirred rfl id rfl
  case supplyLow => exact h.congr rfl rfl
  all_goals exact htrip _

theorem changeDetector_bladeKept (d : Detector) (b : Bool) : BladeKept s₀ (changeDetector d b s) :=
  reportChange_bladeKept (h.touches (conditionTold_reach d b s)) d b

theorem detectorInput_bladeKept (d : Detector) (q : Qualifies) : BladeKept s₀ (detectorInput d q s) := by
  unfold detectorInput
  dsimp only
  split
  · exact changeDetector_bladeKept h d _
  · exact h.congr rfl rfl

theorem stallCurrentInput_bladeKept (b : Band) : BladeKept s₀ (stallCurrentInput b s) := by
  unfold stallCurrentInput
  split_ifs
  · exact h
  · exact changeDetector_bladeKept h _ _
  · exact h.congr rfl rfl
  · exact h.congr rfl rfl

theorem judgeDelivered_bladeKept : BladeKept s₀ (judgeDelivered s) := by
  unfold judgeDelivered
  split
  · exact (takeTempReached_bladeKept (s := s.withHeat (judgeTarget s.heat)) (h.congr rfl rfl)).congr rfl rfl
  · exact h

/-- R74: TB reaches the detectors, the engine, the Heat Unit and, as the figure of the hot cap, the Stir Unit. -/
theorem deliverTb_bladeKept (code : Nat) : BladeKept s₀ (deliverTb code s) := by
  unfold deliverTb
  dsimp only
  generalize hx : s.withConv _ = x
  have hconv : BladeKept s₀ x := hx ▸ h.congr rfl rfl
  have hprobe : BladeKept s₀ (probeInput .probeB (plausible code) (implausibleCount x.conv.tbHist) x) :=
    detectorInput_bladeKept hconv _ _
  have hpan := detectorInput_bladeKept hprobe .dryPan (aboveAsserts (bandTb x.conv.tb))
  have hjudged := fun f heat => judgeDelivered_bladeKept
    ((hpan.touches (mapLive_touches f _)).touches (withHeat_touches heat _))
  exact (hjudged _ _).stirred rfl id rfl

theorem deliverSense_bladeKept (ch : Channel) (code : Nat) : BladeKept s₀ (deliverSense ch code s) := by
  have hconv : ∀ x, BladeKept s₀ (s.withConv x) := fun x => h.congr rfl rfl
  unfold deliverSense
  split
  · exact h
  · split
    · exact deliverTb_bladeKept h code
    · exact detectorInput_bladeKept (detectorInput_bladeKept (hconv _) _ _) _ _
    · exact (stallCurrentInput_bladeKept (hconv _) _).stirred rfl id rfl
    · exact detectorInput_bladeKept (hconv _) _ _

theorem bandInputs_bladeKept : BladeKept s₀ (bandInputs s) := by
  unfold bandInputs
  split
  · exact h
  · exact detectorInput_bladeKept (detectorInput_bladeKept h _ _) _ _

theorem takeSample_bladeKept (x : Sample) : BladeKept s₀ (takeSample x s) :=
  (takeWeight_bladeKept ((bandInputs_bladeKept (h.touches (chained_reach x s))).touches (captureSample_touches x _)) _ _).touches
    (tareSample_touches x _)

/-! ### The requests' owners -/

theorem serveEdit_bladeKept (p : Port) {r : Request} (hr : editsPlan r = true) : BladeKept s₀ (serveRequest p r s).1 := by
  have hedit : ∀ planId steps, BladeKept s₀ (acceptEdit p planId steps s) := fun _ _ => h.congr rfl rfl
  cases r
  case insertStep rev i raw =>
    obtain he | ⟨_, _, _, _, _, _, he⟩ := serveInsertStep_cases p rev i raw s
    all_goals rw [serveRequest, he]
    · exact h
    · exact hedit _ _
  case replaceStep rev i raw =>
    obtain he | ⟨old, q, _, _, _, _, _, he⟩ := serveReplaceStep_cases p rev i raw s
    all_goals rw [serveRequest, he]
    · exact h
    · unfold replaceAt
      dsimp only
      split
      · exact adoptStep_bladeKept (hedit _ _) old q.stored
      · exact hedit _ _
  case removeStep rev i =>
    obtain he | ⟨_, _, _, he⟩ := serveRemoveStep_cases p rev i s
    all_goals rw [serveRequest, he]
    · exact h
    · exact hedit _ _
  case clearPlan rev =>
    obtain he | ⟨_, _, he⟩ := serveClearPlan_cases p rev s
    all_goals rw [serveRequest, he]
    · exact h
    · exact hedit _ _
  case setPlanId rev i =>
    obtain he | ⟨_, he⟩ := serveSetPlanId_cases p rev i s
    all_goals rw [serveRequest, he]
    · exact h
    · exact hedit _ _
  all_goals cases hr

theorem beginRun_bladeKept (i : Nat) (r : StepRecord) : BladeKept s₀ (beginRun i r s) := by
  have hentered := enterStep_bladeKept (h.touches (runAnnounced_reach i s)) i r
  rw [beginRun_eq]
  split
  · exact settleOutcome_bladeKept hentered (comeIn_touches _)
  · exact hentered

theorem serveStartRun_bladeKept (rev i : Nat) : BladeKept s₀ (serveStartRun rev i s).1 := by
  obtain he | ⟨r, _, _, _, he⟩ := serveStartRun_cases rev i s
  all_goals rw [he]
  · exact h
  · exact beginRun_bladeKept h i r

theorem servePause_bladeKept : BladeKept s₀ (servePause s).1 := by
  unfold servePause
  split
  · exact enterPaused_bladeKept h _
  all_goals exact h

theorem serveResume_bladeKept : BladeKept s₀ (serveResume s).1 := by
  have hrunning : BladeKept s₀ (syncHold (setRunning s)) := h.congr rfl rfl
  have hback : BladeKept s₀ (backRunning s) := (tellWish_bladeKept hrunning _).touches (postEngineState_touches _)
  have hresumed : BladeKept s₀ (resumeRun s) := settleOutcome_bladeKept hback (comeIn_touches _)
  unfold serveResume
  split_ifs
  case neg => exact hresumed
  all_goals exact h

theorem serveAbort_bladeKept : BladeKept s₀ (serveAbort s).1 := by
  unfold serveAbort
  split
  · exact enterEnded_bladeKept (closeStep_bladeKept h _) _
  · exact h

theorem serveSkipStep_bladeKept (i : Nat) : BladeKept s₀ (serveSkipStep i s).1 := by
  unfold serveSkipStep
  split_ifs
  case neg => exact endStep_bladeKept h _
  all_goals exact h

theorem serveConfirm_bladeKept (i : Nat) : BladeKept s₀ (serveConfirm i s).1 := by
  unfold serveConfirm
  split_ifs
  · exact h
  · exact h
  · exact h
  · exact endStep_bladeKept h _
  · exact h

theorem serveClearTrip_bladeKept : BladeKept s₀ (serveClearTrip s).1 := by
  unfold serveClearTrip
  split_ifs
  case neg => exact enterPaused_bladeKept h _
  all_goals exact h

theorem lapsePermit_bladeKept (r : LapseReason) : BladeKept s₀ (lapsePermit r s) :=
  takeLapse_bladeKept (s := post _ (s.withPermit _)) (h.congr rfl rfl)

/-- Every owner of a request keeps the blade. -/
theorem serveRequest_bladeKept (p : Port) (r : Request) : BladeKept s₀ (serveRequest p r s).1 := by
  have hstore : startsStore r = true → BladeKept s₀ (serveRequest p r s).1 := fun hr =>
    h.touches (serveRequest_store_touches p hr s)
  cases r
  case readStatus => exact h
  case takeNotice => exact h.touches (serveTakeNotice_touches p s)
  case setNoticeMask => exact h.touches (withNotices_touches _ s)
  case readPlanHeader => exact h
  case readStep i => exact h.touches (serveReadStep_touches i s)
  case insertStep => exact serveEdit_bladeKept h p rfl
  case replaceStep => exact serveEdit_bladeKept h p rfl
  case removeStep => exact serveEdit_bladeKept h p rfl
  case clearPlan => exact serveEdit_bladeKept h p rfl
  case setPlanId => exact serveEdit_bladeKept h p rfl
  case startRun rev i => exact serveStartRun_bladeKept h rev i
  case pause => exact servePause_bladeKept h
  case resume => exact serveResume_bladeKept h
  case abort => exact serveAbort_bladeKept h
  case skipStep i => exact serveSkipStep_bladeKept h i
  case confirm i => exact serveConfirm_bladeKept h i
  case clearTrip => exact serveClearTrip_bladeKept h
  case readRunLog i => exact h.touches (serveReadRunLog_touches i s)
  case tarePush => exact h.touches (serveTarePush_touches p s)
  case tarePop => exact h.touches (serveTarePop_touches p s)
  case tareClear => exact h.touches (serveTareClear_touches p s)
  case restartScale => exact h.touches (serveRestartScale_touches s)
  case calZero => exact h.touches (beginCapture_touches _ _ s)
  case calSpan => exact h.touches (beginCapture_touches _ _ s)
  case readCal => exact h
  case permit key =>
    exact servePermit_keeps h (fun r _ => lapsePermit_bladeKept h r) (fun _ => h.congr rfl rfl)
      (takeRearm_bladeKept (s := s.withPermit _) (h.congr rfl rfl)) key
  case clearLatched x => exact h.touches (serveClearLatched_touches x s)
  case libSave => exact hstore rfl
  case libLoad => exact hstore rfl
  case libErase => exact hstore rfl
  case libInfo => exact h
  case libWriteCal => exact hstore rfl

/-! ### The units' events -/

theorem testTimer_bladeKept : BladeKept s₀ (testTimer s) := by
  unfold testTimer
  split
  · split
    · exact endStep_bladeKept h _
    · exact h
  · exact h

theorem settleRunsOut_bladeKept : BladeKept s₀ (settleRunsOut s) := by
  unfold settleRunsOut
  split
  · exact takeReference_bladeKept h _ _
  · exact h

theorem endSense_bladeKept (code : Nat) : BladeKept s₀ (endSense code s) := by
  unfold endSense
  split
  · exact (deliverSense_bladeKept h _ code).touches (withConv_touches _ _)
  · exact h
  · exact h

theorem endWeigh_bladeKept (a b c d : Int) : BladeKept s₀ (endWeigh a b c d s) := by
  have hfinish : BladeKept s₀ (finishWeigh a b c d s) := by
    unfold finishWeigh
    dsimp only
    split
    · exact h.touches (withConv_touches _ s)
    · exact takeSample_bladeKept (h.touches (withConv_touches _ s)) _
  unfold endWeigh
  split
  · exact hfinish.touches (withConv_touches _ _)
  · exact h
  · exact h

/-- R147: a sample leaves the demand, but for what its detectors and the confirmation bring about. -/
theorem lidSample_bladeKept (a b : Bool) : BladeKept s₀ (lidSample a b s) := by
  have hsampled : BladeKept s₀ (sampledLid a b s) := ⟨h.blade, h.seg, h.told, h.lock⟩
  have hfed : BladeKept s₀ (lockFaultInput b (lidOpenInput a (sampledLid a b s))) :=
    detectorInput_bladeKept (detectorInput_bladeKept hsampled _ _) _ _
  unfold lidSample
  dsimp only
  split
  · exact takeLockConfirmation_bladeKept hfed
  · exact hfed

theorem endScan_bladeKept : BladeKept s₀ (endScan s) := by
  cases hop : s.store.op
  case scan => exact h.touches (endScan_reach hop)
  all_goals
    unfold endScan
    rw [hop]
    exact h

/-- R181: the end of a load replaces the plan. -/
theorem endLoad_bladeKept : BladeKept s₀ (endLoad s) := by
  obtain ⟨_, he⟩ | ⟨slot, _, ⟨r, rev, he⟩ | ⟨planId, steps, _, he⟩⟩ := endLoad_cases s
  all_goals rw [he]
  · exact h
  all_goals exact h.congr rfl rfl

theorem comeDue_bladeKept : BladeKept s₀ (comeDue s) := by
  unfold comeDue
  split
  · exact h.congr rfl rfl
  · exact h

end

/-- R132, R134, R139: the events by which the Stir Unit measures and turns the blade. -/
def bladeEvent : Instr → Bool
  | .tachEdge _ | .noEdgeTimeout _ | .controlUpdate _ => true
  | _ => false

/-- Every other unit event keeps the blade. -/
theorem unitEvent_bladeKept {c : Instr} {s t : State} (hu : unitEvent c = true) (hb : bladeEvent c = false)
    (he : exec c s = .next t) : BladeKept s t := by
  have hafter : ∀ dt, BladeKept s (s.after dt) := fun dt => (BladeKept.refl s).congr rfl rfl
  cases c
  case timeBaseTick dt => cases he; exact testTimer_bladeKept ((hafter dt).congr rfl rfl)
  case settleDeadline dt => cases he; exact settleRunsOut_bladeKept (hafter dt)
  case senseTimerExpiry dt => cases he; exact (hafter dt).congr rfl rfl
  case senseConversionEnd dt code => cases he; exact endSense_bladeKept (hafter dt) code
  case freeTrigger dt => cases he; exact (hafter dt).touches (expireFree_touches _)
  case weighGroupEnd dt a b c d => cases he; exact endWeigh_bladeKept (hafter dt) a b c d
  case tareDeadline dt => cases he; exact (hafter dt).touches (endTare_touches _ _)
  case captureDeadline dt => cases he; exact (hafter dt).touches (endCapture_touches _ _)
  case lidSample dt a b => cases he; exact lidSample_bladeKept (hafter dt) a b
  case plateauTimer dt =>
    cases he
    rw [expirePlateau_eq]
    exact detectorInput_bladeKept ((hafter dt).touches (withHeat_touches _ _)) _ _
  case frameEnd dt => cases he; exact (hafter dt).congr rfl rfl
  case slotBoundary dt => cases he; exact (hafter dt).congr rfl rfl
  case rampRise dt => cases he; exact (hafter dt).congr rfl rfl
  case permitExpiry dt =>
    cases he
    unfold expirePermit
    split
    · exact lapsePermit_bladeKept (hafter dt) _
    · exact hafter dt
  case permitDueTimer dt => cases he; exact comeDue_bladeKept (hafter dt)
  case uptimeTick dt => cases he; exact (hafter dt).congr rfl rfl
  case scanEnd dt => cases he; exact endScan_bladeKept (hafter dt)
  case wordWriteEnd dt a b => cases he; exact (hafter dt).touches (endWordWrite_touches a b _)
  case loadReadEnd dt => cases he; exact endLoad_bladeKept (hafter dt)
  all_goals simp [unitEvent, bladeEvent] at hu hb

/-! ### Every command -/

theorem bladeKept_portFree (s₀ : State) : PortFree (BladeKept s₀) where
  port p _ h := by cases p <;> exact h.congr rfl rfl
  rx _ h := h.congr rfl rfl
  psdo _ h := h.congr rfl rfl
  after _ h := h.congr rfl rfl

/-- Every command but a reset, a tach edge, its absence and a control update keeps the blade. -/
theorem exec_bladeKept {c : Instr} {s t : State} (hc : c ≠ .reset) (hb : bladeEvent c = false)
    (he : exec c s = .next t) : BladeKept s t := by
  have hport := bladeKept_portFree s
  have hafter : ∀ dt, BladeKept s (s.after dt) := fun dt => hport.after dt (BladeKept.refl s)
  have hserve : ∀ p r u, True → BladeKept s u → BladeKept s (serveRequest p r u).1 := fun p r _ _ hu =>
    serveRequest_bladeKept hu p r
  cases hreq : c.request with
  | some r =>
    obtain ⟨dt, p, tag, rfl⟩ := command_of_request hreq
    rw [exec_command] at he
    cases he
    exact hport.takeRequest p _ _ _ (fun _ _ _ u hu => serveRequest_bladeKept hu p r) (hafter dt)
  | none =>
    by_cases hu : unitEvent c = true
    · exact unitEvent_bladeKept hu hb he
    cases c
    case reset => exact absurd rfl hc
    case panelRequestFrame dt bytes => cases he; exact hport.panelRequest (fun _ _ => trivial) hserve bytes (hafter dt)
    case panelReplyRead dt n => cases he; exact hport.panelRead n (hafter dt)
    case linkFrameComplete dt bytes => cases he; exact hport.linkBytes (fun _ _ => trivial) hserve bytes (hafter dt)
    case linkByteReceived dt b => cases he; exact hport.linkByte (fun _ _ => trivial) hserve b (hafter dt)
    case linkByteGapTimeout dt => cases he; exact hport.rx _ (hafter dt)
    case linkStopBitMissing dt => cases he; exact hport.rx _ (hafter dt)
    case linkReplySent dt => cases he; exact hport.linkSent (hafter dt)
    all_goals simp [unitEvent, Instr.request] at hu hreq

end Sys2Proof.Machine
end

section
/-! PROOFS. What the events that move the blade do to it: a tach edge, its absence, and a control update up to its handover to
STALL. With what every other command keeps, they give the lock's release at rest (O34) and the drive's turn at rest (O49). -/

namespace Sys2Proof.Machine

/-! ### Tach edges and their absence (R132, R134) -/

theorem tachEdge_stir (s : State) : (tachEdge s).stir = edgeStir s.now s.stir := by
  rw [tachEdge_eq]
  exact tellStopped_touches false _ .stir (by decide)

theorem tachEdge_lid (s : State) : (tachEdge s).lid = (tellStopped false (s.withStir (edgeStir s.now s.stir))).lid := by
  rw [tachEdge_eq]
  rfl

theorem noEdgeTimeout_stir {s : State} {expiry : Nat} (h : s.stir.noEdge = some expiry) :
    (noEdgeTimeout s).stir = standStir s.stir := by
  rw [noEdgeTimeout_runs h]
  exact tellStopped_touches true _ .stir (by decide)

/-- R148: a report of the stopped indication releases the lock only where the blade stands. -/
theorem tellStopped_releases {b : Bool} {s : State} (hl : s.lid.demand = .locked)
    (hu : (tellStopped b s).lid.demand = .unlocked) : b = true := by
  unfold tellStopped at hu
  split at hu
  · rw [hl] at hu
    cases hu
  · rw [State.withLid_lid, decideDemand_demand] at hu
    exact stopped_of_released (l := { s.lid with stopped := b }) hl hu

/-- R132: the ring holds the twelve newest intervals. -/
theorem ringAfterEdge_length {now : Nat} {st : Stir} (h : st.ring.length ≤ 12) : (ringAfterEdge now st).length ≤ 12 := by
  unfold ringAfterEdge
  split
  · rw [List.length_append, List.length_singleton]
    split
    · omega
    · rw [List.length_drop]
      omega
  · exact h

/-! ### The pattern and the reversal wait (R136 to R138) -/

/-- R138: a reversal wait ends where the blade stands and the ramped setpoint is 0. -/
def waitDue (st : Stir) : Bool := st.wait && decide (st.ramped = 0) && st.stopped

theorem endWait_due {st : Stir} (h : waitDue st = true) :
    endWait st = { st with drive := wantedDirection st, ring := [], lastEdge := none, wait := false } := by
  simp only [waitDue, Bool.and_eq_true, decide_eq_true_eq, and_assoc] at h
  exact if_pos h

theorem endWait_not_due {st : Stir} (h : waitDue st = false) : endWait st = st := by
  refine if_neg fun hdue => ?_
  simp [waitDue, hdue] at h

/-- R136: the length in control updates of a segment of INTERVAL or KNEAD. -/
def segmentTicks (st : Stir) : Nat := if st.seg % 2 = 0 then st.onTime * 100 else st.offTime * 100

/-- R136, R137: a counting update ends the segment in progress. -/
def segmentEnds (working : Bool) (st : Stir) : Bool :=
  working && !st.wait && decide (st.pattern ≠ .continuous) && decide (segmentTicks st ≤ st.elapsed + 1)

theorem segmentLength_eq (st : Stir) :
    segmentLength st = if st.pattern = .continuous then none else some (segmentTicks st) := by
  unfold segmentLength segmentTicks
  simp only [segmentOn_eq, decide_eq_true_eq]
  cases st.pattern <;> rfl

theorem patternClock_held {working : Bool} {st : Stir} (h : (working && !st.wait) = false) :
    patternClock working st = st := by
  refine if_neg fun ⟨hw, hwait⟩ => ?_
  simp [hw, hwait] at h

theorem patternClock_counts {working : Bool} {st : Stir} (h : (working && !st.wait) = true) :
    patternClock working st = countPattern st := by
  refine if_pos ?_
  simpa using h

/-- R136: the segment's end begins the next one, and a reversal wait where that turns against the drive. -/
theorem patternClock_ends {working : Bool} {st : Stir} (h : segmentEnds working st = true) :
    patternClock working st = nextSegment st := by
  simp only [segmentEnds, Bool.and_eq_true, decide_eq_true_eq] at h
  obtain ⟨⟨hcount, hpattern⟩, hlen⟩ := h
  rw [patternClock_counts (by simpa using hcount), countPattern, segmentLength_eq, if_neg hpattern]
  exact if_pos hlen

/-- R137: within a segment the clock counts at most. -/
theorem patternClock_within {working : Bool} {st : Stir} (h : segmentEnds working st = false) :
    patternClock working st = { st with elapsed := (patternClock working st).elapsed } := by
  cases hcount : (working && !st.wait)
  · rw [patternClock_held hcount]
  · rw [patternClock_counts hcount, countPattern, segmentLength_eq]
    by_cases hpattern : st.pattern = .continuous
    · rw [if_pos hpattern]
    · have hlen : ¬ segmentTicks st ≤ st.elapsed + 1 := by simpa [segmentEnds, hcount, hpattern] using h
      rw [if_neg hpattern]
      dsimp only
      rw [if_neg hlen]

/-- R137: within a segment of INTERVAL or KNEAD a counting update adds one. -/
theorem patternClock_elapsed {working : Bool} {st : Stir} (hcount : (working && !st.wait) = true)
    (hpattern : st.pattern ≠ .continuous) (hlen : st.elapsed + 1 < segmentTicks st) :
    (patternClock working st).elapsed = st.elapsed + 1 := by
  rw [patternClock_counts hcount, countPattern, segmentLength_eq, if_neg hpattern]
  dsimp only
  rw [if_neg (by omega)]

theorem segmentAfter_lt (x : Pattern) (seg : Nat) : segmentAfter x seg < 4 :=
  Nat.lt_of_lt_of_le (Nat.mod_lt _ (by cases x <;> decide)) (by cases x <;> decide)

/-- R137: the pattern clock changes the segment, its count and the wait alone. -/
theorem patternClock_frame (working : Bool) (st : Stir) : ∃ seg elapsed wait,
    patternClock working st = { st with seg := seg, elapsed := elapsed, wait := wait } := by
  cases h : segmentEnds working st
  · rw [patternClock_within h]
    exact ⟨_, _, _, rfl⟩
  · rw [patternClock_ends h]
    exact ⟨_, _, _, rfl⟩

theorem patternClock_blade (working : Bool) (st : Stir) : (patternClock working st).blade = st.blade := by
  obtain ⟨_, _, _, hframe⟩ := patternClock_frame working st
  rw [hframe]
  rfl

theorem patternClock_seg_lt {working : Bool} {st : Stir} (h4 : st.seg < 4) : (patternClock working st).seg < 4 := by
  cases h : segmentEnds working st
  · rw [patternClock_within h]
    exact h4
  · rw [patternClock_ends h]
    exact segmentAfter_lt _ _

/-! ### The setpoints and the drive (R139 to R143) -/

/-- R139, parts 1 and 2: the Stir Unit with the wait looked at and the pattern clock run. -/
def patterned (s : State) : Stir := patternClock (stirWorking s) (endWait s.stir)

/-- R140, R141: the Stir Unit with the applied setpoint of an update, and the first capping of a step marked. -/
def setpointed (working dose : Bool) (st : Stir) : Stir :=
  { st with
    applied := appliedSetpoint working dose st
    capped := st.capped || (stirDriven working st && (governingCap dose st).isSome) }

/-- R139: a control update but for its handover to STALL. -/
def controlled (s : State) : State :=
  let u := updateDrive (updateApplied (updatePattern s))
  u.withStir { u.stir with
    shortfall := shortfallVerdict u.stir.ramped u.stir.measured, controlTimer := u.now + controlPeriod }

theorem controlUpdate_eq (s : State) : controlUpdate s
    = stallHandover (controlled s).stir.shortfall (highCurrent (controlled s).stir) (controlled s) := rfl

theorem controlled_reach (s : State) : Touches [.stir, .notices] s (controlled s) :=
  ((((withStir_touches _ s).mono (by decide)).trans (updateApplied_touches _)).trans
    ((withStir_touches _ _).mono (by decide))).trans ((withStir_touches _ _).mono (by decide))

/-- R25: a live step is one that has an index. -/
theorem liveIndex_of_working {s : State} (h : stirWorking s = true) : ∃ i, s.liveIndex = some i := by
  unfold State.liveIndex
  cases hl : s.engine.live with
  | none => simp [stirWorking, State.phase, hl] at h
  | some l => exact ⟨l.index, rfl⟩

theorem stirDriven_working {working : Bool} {st : Stir} (h : stirDriven working st = true) : working = true := by
  simp only [stirDriven, Bool.and_eq_true] at h
  obtain ⟨⟨hworking, -⟩, -⟩ := h
  exact hworking

theorem liveIsDose_withStir (st : Stir) (s : State) : liveIsDose (s.withStir st) = liveIsDose s := rfl

theorem liveIndex_withStir (st : Stir) (s : State) : (s.withStir st).liveIndex = s.liveIndex := rfl

/-- R141: an update that marks or posts no capping. -/
theorem updateApplied_uncapped {s : State}
    (h : stirDriven (stirWorking s) s.stir = true → s.stir.capped = false → governingCap (liveIsDose s) s.stir = none) :
    updateApplied s = s.withStir { s.stir with applied := appliedSetpoint (stirWorking s) (liveIsDose s) s.stir } := by
  unfold updateApplied
  dsimp only
  split
  next hfirst =>
    obtain ⟨hdriven, hcapped⟩ := hfirst
    rw [liveIsDose_withStir, h hdriven (by simpa using hcapped)]
  · rfl

/-- R141: the first capping of a step is marked and posted. -/
theorem updateApplied_caps {s : State} {cap : SpeedCap} {limit i : Nat}
    (hdriven : stirDriven (stirWorking s) s.stir = true) (hcapped : s.stir.capped = false)
    (hcap : governingCap (liveIsDose s) s.stir = some (cap, limit)) (hi : s.liveIndex = some i) :
    updateApplied s = post (.speedCapped i cap s.stir.speed limit) (s.withStir { s.stir with
      applied := appliedSetpoint (stirWorking s) (liveIsDose s) s.stir, capped := true }) := by
  unfold updateApplied
  dsimp only
  rw [if_pos ⟨hdriven, by simp [hcapped]⟩, liveIsDose_withStir, liveIndex_withStir, hcap, hi]
  rfl

theorem updateApplied_stir (s : State) :
    (updateApplied s).stir = setpointed (stirWorking s) (liveIsDose s) s.stir := by
  by_cases h : stirDriven (stirWorking s) s.stir = true → s.stir.capped = false →
      governingCap (liveIsDose s) s.stir = none
  · rw [updateApplied_uncapped h]
    have hmark : (s.stir.capped || (stirDriven (stirWorking s) s.stir && (governingCap (liveIsDose s) s.stir).isSome))
        = s.stir.capped := by
      cases hcapped : s.stir.capped
      · cases hdriven : stirDriven (stirWorking s) s.stir
        · rfl
        · rw [h hdriven hcapped]
          rfl
      · rfl
    unfold setpointed
    rw [hmark]
    rfl
  · push Not at h
    obtain ⟨hdriven, hcapped, hcap⟩ := h
    obtain ⟨⟨cap, limit⟩, hcap⟩ := Option.ne_none_iff_exists'.mp hcap
    obtain ⟨i, hi⟩ := liveIndex_of_working (stirDriven_working hdriven)
    rw [updateApplied_caps hdriven hcapped hcap hi]
    unfold setpointed
    rw [hdriven, hcap, hcapped]
    rfl

/-- R143: the drive integral of an update that has the ramped setpoint `ramped`. -/
def driveIntegral (ramped : Nat) (st : Stir) : Int :=
  if ramped = 0 then 0
  else clampInt (-200) 200 (st.integral + Int.tdiv ((ramped : Int) - (st.measured : Int)) 16)

/-- R143: the duty from the ramped setpoint and the drive integral. -/
def driveDuty (ramped : Nat) (integral : Int) : Nat :=
  if ramped = 0 then 0 else (clampInt 0 1000 (((ramped * 1000 / 11000 : Nat) : Int) + integral)).toNat

/-- R142, R143: the Stir Unit with the ramped setpoint `ramped`, and the integral and the duty that go with it. -/
def drivenAt (ramped : Nat) (st : Stir) : Stir :=
  { st with
    ramped := ramped, integral := driveIntegral ramped st, duty := driveDuty ramped (driveIntegral ramped st) }

theorem formDrive_ramped (ramped : Nat) (st : Stir) : formDrive { st with ramped := ramped } = drivenAt ramped st := by
  unfold formDrive drivenAt driveIntegral driveDuty
  split <;> rfl

/-- R139: the Stir Unit with its setpoint applied, ramped and driven. -/
def drivenStir (s : State) : Stir :=
  let st := setpointed (stirWorking s) (liveIsDose s) (patterned s)
  drivenAt (rampSetpoint (decide (s.engine.state = .tripped)) st) st

/-- R139: what a control update makes of the Stir Unit before STALL takes its verdict. -/
theorem controlled_stir (s : State) : (controlled s).stir = { drivenStir s with
    shortfall := shortfallVerdict (drivenStir s).ramped (drivenStir s).measured, controlTimer := s.now + 10000 } := by
  have happlied := updateApplied_stir (updatePattern s)
  have hreach := updateApplied_touches (updatePattern s)
  have hengine : (updateApplied (updatePattern s)).engine = s.engine := hreach .engine (by decide)
  have hnow : (updateApplied (updatePattern s)).now = s.now := hreach .now (by decide)
  have hdriven : (updateDrive (updateApplied (updatePattern s))).stir = drivenStir s := by
    unfold updateDrive
    dsimp only
    rw [happlied, hengine, State.withStir_stir, formDrive_ramped]
    rfl
  have hclock : (updateDrive (updateApplied (updatePattern s))).now = s.now := hnow
  unfold controlled
  dsimp only
  rw [State.withStir_stir, hdriven, hclock]
  rfl

/-! ### Every command (O34, O49) -/

theorem State.lidSafe_iff (s : State) :
    s.lidSafe = true ↔ s.lid.stopped = s.stir.stopped ∧ (s.stir.stopped = true → s.stir.measured = 0) := by
  unfold State.lidSafe
  cases s.stir.stopped <;> simp

/-- R128, R134 to R136, R143: the figures of O49, clause by clause. -/
structure Stir.Ok (st : Stir) : Prop where
  seg : st.seg < 4
  ring : st.ring.length ≤ 12
  duty : st.duty ≤ 1000
  integral : -200 ≤ st.integral ∧ st.integral ≤ 200
  rest : st.stopped = true → st.measured = 0

theorem Stir.safe_iff (st : Stir) : st.safe = true ↔ st.Ok := by
  have hrest : (!st.stopped || decide (st.measured = 0)) = true ↔ (st.stopped = true → st.measured = 0) := by
    cases st.stopped <;> simp
  unfold Stir.safe
  simp only [Bool.and_eq_true, decide_eq_true_eq, hrest]
  exact ⟨fun ⟨⟨⟨⟨hseg, hring⟩, hduty⟩, hint⟩, hrest⟩ => ⟨hseg, hring, hduty, hint, hrest⟩,
    fun ⟨hseg, hring, hduty, hint, hrest⟩ => ⟨⟨⟨⟨hseg, hring⟩, hduty⟩, hint⟩, hrest⟩⟩

theorem Stir.blade_eq_iff {st st' : Stir} : st'.blade = st.blade ↔ st'.drive = st.drive ∧ st'.ramped = st.ramped
    ∧ st'.integral = st.integral ∧ st'.duty = st.duty ∧ st'.ring = st.ring ∧ st'.measured = st.measured
    ∧ st'.stopped = st.stopped := by
  simp only [Stir.blade, Prod.mk.injEq]

section
variable {s t : State} (h : BladeKept s t)
include h

theorem BladeKept.stirOk (hok : s.stir.Ok) : t.stir.Ok := by
  obtain ⟨-, -, hint, hduty, hring, hmeasured, hstopped⟩ := Stir.blade_eq_iff.mp h.blade
  exact ⟨h.seg hok.seg, hring ▸ hok.ring, hduty ▸ hok.duty, hint ▸ hok.integral, fun hs => by
    rw [hmeasured]
    exact hok.rest (hstopped ▸ hs)⟩

theorem BladeKept.drive : t.stir.drive = s.stir.drive := (Stir.blade_eq_iff.mp h.blade).1

/-- R148: while the Lid Controller holds the stopped indication as the Stir Unit does, a release finds the blade at rest. -/
theorem BladeKept.lidSafe (hs : s.lidSafe = true) :
    t.lidSafe = true ∧ (s.lid.demand = .locked → t.lid.demand = .unlocked → t.stir.measured = 0) := by
  obtain ⟨-, -, -, -, -, hmeasured, hstopped⟩ := Stir.blade_eq_iff.mp h.blade
  obtain ⟨htold, hrest⟩ := (State.lidSafe_iff s).mp hs
  refine ⟨(State.lidSafe_iff t).mpr ⟨by rw [h.told, htold, hstopped], fun hst => ?_⟩, fun hl hu => ?_⟩
  · rw [hmeasured]
    exact hrest (hstopped ▸ hst)
  · rw [hmeasured]
    exact hrest (htold ▸ h.lock hl hu)

end

/-- R138: the drive turns where a reversal wait is due alone. -/
theorem endWait_drive {st : Stir} (h : (endWait st).drive ≠ st.drive) : st.ramped = 0 ∧ st.stopped = true := by
  cases hdue : waitDue st
  · exact absurd (congrArg Stir.drive (endWait_not_due hdue)) h
  · simp only [waitDue, Bool.and_eq_true, decide_eq_true_eq] at hdue
    obtain ⟨⟨-, hramped⟩, hstopped⟩ := hdue
    exact ⟨hramped, hstopped⟩

/-- R138: the end of a wait empties the ring or keeps it, and leaves segment and speed. -/
theorem endWait_keeps (st : Stir) : (endWait st).seg = st.seg ∧ ((endWait st).ring = [] ∨ (endWait st).ring = st.ring)
    ∧ (endWait st).measured = st.measured ∧ (endWait st).stopped = st.stopped := by
  cases hdue : waitDue st
  · rw [endWait_not_due hdue]
    exact ⟨rfl, .inr rfl, rfl, rfl⟩
  · rw [endWait_due hdue]
    exact ⟨rfl, .inl rfl, rfl, rfl⟩

theorem driveIntegral_range (ramped : Nat) (st : Stir) :
    -200 ≤ driveIntegral ramped st ∧ driveIntegral ramped st ≤ 200 := by
  unfold driveIntegral
  split
  · decide
  · exact clampInt_range (by decide) _

theorem driveDuty_le (ramped : Nat) (integral : Int) : driveDuty ramped integral ≤ 1000 := by
  unfold driveDuty
  split
  · decide
  · exact Int.toNat_le.mpr (clampInt_range (by decide) _).2

section
variable (s : State)

theorem patterned_blade : (patterned s).blade = (endWait s.stir).blade := patternClock_blade _ _

theorem controlled_drive : (controlled s).stir.drive = (endWait s.stir).drive := by
  rw [controlled_stir]
  exact (Stir.blade_eq_iff.mp (patterned_blade s)).1

/-- R134: a control update before its handover measures no speed. -/
theorem controlled_rest : (controlled s).stir.measured = s.stir.measured ∧ (controlled s).stir.stopped = s.stir.stopped := by
  obtain ⟨-, -, -, -, -, hmeasured, hstopped⟩ := Stir.blade_eq_iff.mp (patterned_blade s)
  obtain ⟨-, -, hm, hs⟩ := endWait_keeps s.stir
  rw [controlled_stir]
  exact ⟨hmeasured.trans hm, hstopped.trans hs⟩

/-- R136, R143: a control update before its handover keeps the figures in their ranges. -/
theorem controlled_stirOk (hok : s.stir.Ok) : (controlled s).stir.Ok := by
  obtain ⟨hseg, hring, -, -⟩ := endWait_keeps s.stir
  obtain ⟨hmeasured, hstopped⟩ := controlled_rest s
  have hpring : (patterned s).ring = (endWait s.stir).ring := by
    obtain ⟨-, -, -, -, h, -, -⟩ := Stir.blade_eq_iff.mp (patterned_blade s)
    exact h
  have hlen : (patterned s).ring.length ≤ 12 := by
    rw [hpring]
    obtain h | h := hring
    · rw [h]
      decide
    · exact h ▸ hok.ring
  have hrest : (controlled s).stir.stopped = true → (controlled s).stir.measured = 0 := by
    rw [hmeasured, hstopped]
    exact hok.rest
  rw [controlled_stir] at hrest ⊢
  exact ⟨patternClock_seg_lt (hseg ▸ hok.seg), hlen, driveDuty_le _ _, driveIntegral_range _ _, hrest⟩

/-- R139, R144: the handover to STALL keeps the blade. -/
theorem controlUpdate_bladeKept : BladeKept (controlled s) (controlUpdate s) := by
  rw [controlUpdate_eq]
  exact detectorInput_bladeKept (BladeKept.refl _) _ _

end

theorem lidSafe_congr {s t : State} (hl : t.lid = s.lid) (hm : t.stir.measured = s.stir.measured)
    (hs : t.stir.stopped = s.stir.stopped) : t.lidSafe = s.lidSafe := by
  rw [State.lidSafe, hl, hm, hs, State.lidSafe]

/-- Settles O34: a tach edge releases no lock and its absence finds the blade at rest, and every other command releases it
under the stopped indication. -/
theorem lockIsReleasedOnlyAtRest : Obligations.LockIsReleasedOnlyAtRest := by
  intro c s t hs he
  by_cases hc : c = .reset
  · subst hc
    cases he
    exact ⟨rfl, fun _ _ => rfl⟩
  cases hb : bladeEvent c
  · exact (exec_bladeKept hc hb he).lidSafe hs
  cases c
  case tachEdge dt =>
    cases he
    have hstir := tachEdge_stir (s.after dt)
    have hlid := tachEdge_lid (s.after dt)
    refine ⟨(State.lidSafe_iff _).mpr ⟨?_, fun hst => ?_⟩, fun hl hu => ?_⟩
    · rw [hlid, tellStopped_stopped, hstir]
      rfl
    · rw [hstir] at hst
      cases hst
    · rw [hlid] at hu
      cases tellStopped_releases (by exact hl) hu
  case noEdgeTimeout dt =>
    cases he
    cases hrun : s.stir.noEdge with
    | none =>
      rw [noEdgeTimeout_stopped (s := s.after dt) hrun]
      exact BladeKept.lidSafe ((BladeKept.refl s).congr rfl rfl) hs
    | some expiry =>
      have hstir := noEdgeTimeout_stir (s := s.after dt) hrun
      have hrest : (noEdgeTimeout (s.after dt)).stir.measured = 0 := by rw [hstir]; rfl
      refine ⟨(State.lidSafe_iff _).mpr ⟨?_, fun _ => hrest⟩, fun _ _ => hrest⟩
      rw [noEdgeTimeout_runs (s := s.after dt) hrun, tellStopped_stopped, tellStopped_touches true _ .stir (by decide)]
      rfl
  case controlUpdate dt =>
    cases he
    obtain ⟨hmeasured, hstopped⟩ := controlled_rest (s.after dt)
    have hlid : (controlled (s.after dt)).lid = s.lid := controlled_reach _ .lid (by decide)
    have hsafe := (lidSafe_congr hlid hmeasured hstopped).trans hs
    exact hlid ▸ (controlUpdate_bladeKept (s.after dt)).lidSafe hsafe
  all_goals cases hb

/-- Settles O49: only the end of a reversal wait turns the drive, and it finds the blade at rest. -/
theorem driveTurnsOnlyAtRest : Obligations.DriveTurnsOnlyAtRest := by
  intro c s t hs he
  rw [Stir.safe_iff] at hs ⊢
  by_cases hc : c = .reset
  · subst hc
    cases he
    exact ⟨(Stir.safe_iff _).mp rfl, fun hne => absurd rfl hne⟩
  cases hb : bladeEvent c
  · have hkept := exec_bladeKept hc hb he
    exact ⟨hkept.stirOk hs, fun _ hd => absurd hkept.drive hd⟩
  cases c
  case tachEdge dt =>
    cases he
    rw [tachEdge_stir]
    exact ⟨⟨hs.seg, ringAfterEdge_length hs.ring, hs.duty, hs.integral, Bool.noConfusion⟩, fun _ hd => absurd rfl hd⟩
  case noEdgeTimeout dt =>
    cases he
    cases hrun : s.stir.noEdge with
    | none =>
      rw [noEdgeTimeout_stopped (s := s.after dt) hrun]
      exact ⟨hs, fun _ hd => absurd rfl hd⟩
    | some expiry =>
      rw [noEdgeTimeout_stir (s := s.after dt) hrun]
      exact ⟨⟨hs.seg, Nat.zero_le _, hs.duty, hs.integral, fun _ => rfl⟩, fun _ hd => absurd rfl hd⟩
  case controlUpdate dt =>
    cases he
    have hkept := controlUpdate_bladeKept (s.after dt)
    refine ⟨hkept.stirOk (controlled_stirOk (s.after dt) hs), fun _ hd => ?_⟩
    rw [hkept.drive, controlled_drive] at hd
    obtain ⟨hramped, hstopped⟩ := endWait_drive (st := s.stir) hd
    exact ⟨hramped, hstopped, hs.rest hstopped⟩
  all_goals cases hb

end Sys2Proof.Machine
end

section
/-! PROOFS. One control update (O48): the reversal wait and the pattern clock, the caps on the step's speed, and the handover to
STALL that changes no detector. -/

namespace Sys2Proof.Machine

/-! ### What the update looks at (R137, R140) -/

theorem stirWorking_eq (s : State) : stirWorking s = (decide (s.engine.state = .running)
    && (decide (s.phase = some .approach) || decide (s.phase = some .dwell) || decide (s.phase = some .settle)
      || decide (s.phase = some .dosing))) := by
  unfold stirWorking State.isRunning
  refine congrArg (decide (s.engine.state = .running) && ·) ?_
  cases s.phase with
  | none => rfl
  | some ph => cases ph <;> rfl

theorem liveIsDose_eq (s : State) : liveIsDose s = decide (s.engine.live.map (·.kind) = some .dose) := by
  unfold liveIsDose
  cases s.engine.live with
  | none => rfl
  | some l => simp

/-! ### The wait and the pattern clock (R136 to R138) -/

theorem endWait_wait (st : Stir) : (endWait st).wait = (st.wait && !waitDue st) := by
  cases hdue : waitDue st
  · rw [endWait_not_due hdue]
    exact (Bool.and_true _).symm
  · rw [endWait_due hdue]
    exact (Bool.and_false _).symm

/-- R138: the end of a wait changes the drive, the ring and the wait alone. -/
theorem endWait_frame (st : Stir) : ∃ drive ring lastEdge wait,
    endWait st = { st with drive := drive, ring := ring, lastEdge := lastEdge, wait := wait } := by
  cases hdue : waitDue st
  · rw [endWait_not_due hdue]
    exact ⟨_, _, _, _, rfl⟩
  · rw [endWait_due hdue]
    exact ⟨_, _, _, _, rfl⟩

/-- R136, R138: of the four segments the second and the third of KNEAD look to its second ON segment. -/
theorem wantedDirection_eq {st : Stir} (h4 : st.seg < 4) : wantedDirection st
    = segmentTurns st.dir st.pattern (if st.pattern = .knead ∧ (st.seg = 1 ∨ st.seg = 2) then 2 else 0) := by
  unfold wantedDirection
  rw [segmentTurns_eq]
  cases hpattern : st.pattern
  case knead =>
    obtain h | h | h | h : st.seg = 0 ∨ st.seg = 1 ∨ st.seg = 2 ∨ st.seg = 3 := by omega
    all_goals
      rw [h]
      rfl
  all_goals split <;> rfl

theorem segmentEnds_endWait (working : Bool) (st : Stir) : segmentEnds working (endWait st)
    = (working && !(st.wait && !waitDue st) && decide (st.pattern ≠ .continuous)
      && decide (segmentTicks st ≤ st.elapsed + 1)) := by
  obtain ⟨_, _, _, _, hframe⟩ := endWait_frame st
  have hwait := endWait_wait st
  rw [hframe] at hwait ⊢
  rw [← hwait]
  rfl

section
variable (s : State)

/-- R136 to R138: what parts 1 and 2 of an update can change. -/
theorem patterned_frame : ∃ seg elapsed wait drive ring lastEdge, patterned s = { s.stir with
    seg := seg, elapsed := elapsed, wait := wait, drive := drive, ring := ring, lastEdge := lastEdge } := by
  obtain ⟨drive, ring, lastEdge, _, hend⟩ := endWait_frame s.stir
  obtain ⟨seg, elapsed, wait, hclock⟩ := patternClock_frame (stirWorking s) (endWait s.stir)
  refine ⟨seg, elapsed, wait, drive, ring, lastEdge, ?_⟩
  rw [patterned, hclock, hend]

/-- R138: part 2 leaves what part 1 makes of the drive and the ring. -/
theorem patterned_turned : (patterned s).drive = (endWait s.stir).drive ∧ (patterned s).ring = (endWait s.stir).ring
    ∧ (patterned s).lastEdge = (endWait s.stir).lastEdge := by
  obtain ⟨_, _, _, hclock⟩ := patternClock_frame (stirWorking s) (endWait s.stir)
  rw [patterned, hclock]
  exact ⟨rfl, rfl, rfl⟩

variable {s}

/-- R137: while the clock is held the segment and its count stand. -/
theorem patterned_held (h : (stirWorking s && !(s.stir.wait && !waitDue s.stir)) = false) :
    (patterned s).seg = s.stir.seg ∧ (patterned s).elapsed = s.stir.elapsed := by
  obtain ⟨_, _, _, _, hend⟩ := endWait_frame s.stir
  rw [patterned, patternClock_held (by rw [endWait_wait]; exact h), hend]
  exact ⟨rfl, rfl⟩

theorem patterned_within (h : segmentEnds (stirWorking s) (endWait s.stir) = false) :
    (patterned s).seg = s.stir.seg ∧ (patterned s).wait = (endWait s.stir).wait := by
  obtain ⟨_, _, _, _, hend⟩ := endWait_frame s.stir
  rw [patterned, patternClock_within h, hend]
  exact ⟨rfl, rfl⟩

theorem patterned_counts (hcount : (stirWorking s && !(s.stir.wait && !waitDue s.stir)) = true)
    (hpattern : s.stir.pattern ≠ .continuous) (hlen : s.stir.elapsed + 1 < segmentTicks s.stir) :
    (patterned s).elapsed = s.stir.elapsed + 1 := by
  obtain ⟨_, _, _, _, hend⟩ := endWait_frame s.stir
  have hwait := endWait_wait s.stir
  rw [hend] at hwait
  rw [patterned, hend]
  exact patternClock_elapsed (by rw [hwait]; exact hcount) hpattern hlen

theorem patterned_ends (h : segmentEnds (stirWorking s) (endWait s.stir) = true) :
    (patterned s).seg = segmentAfter s.stir.pattern s.stir.seg ∧ (patterned s).elapsed = 0
      ∧ (patterned s).wait = ((endWait s.stir).wait || (decide ((patterned s).seg % 2 = 0)
        && decide (segmentTurns s.stir.dir s.stir.pattern (patterned s).seg ≠ (patterned s).drive))) := by
  obtain ⟨_, _, _, _, hend⟩ := endWait_frame s.stir
  rw [patterned, patternClock_ends h, segmentTurns_eq, hend]
  exact ⟨rfl, rfl, rfl⟩

/-- R136: the segment after one of INTERVAL or KNEAD. -/
theorem segmentAfter_eq {x : Pattern} (h : x ≠ .continuous) (seg : Nat) :
    segmentAfter x seg = (seg + 1) % (if x = .knead then 4 else 2) := by
  cases x
  case continuous => exact absurd rfl h
  all_goals rfl

/-- R136, R138: a wait goes on, or a new ON segment that turns against the drive begins one. -/
theorem patterned_wait : (patterned s).wait = ((s.stir.wait && !waitDue s.stir)
    || (segmentEnds (stirWorking s) (endWait s.stir) && decide ((patterned s).seg % 2 = 0)
      && decide (segmentTurns s.stir.dir s.stir.pattern (patterned s).seg ≠ (patterned s).drive))) := by
  rw [← endWait_wait]
  cases h : segmentEnds (stirWorking s) (endWait s.stir)
  · exact (patterned_within h).2.trans (Bool.or_false _).symm
  · exact (patterned_ends h).2.2

end

/-! ### The caps (R140, R141) -/

/-- R140: the step's speed under the caps in force. -/
def cappedSpeed (dose : Bool) (st : Stir) : Nat :=
  min st.speed (min (if dose then 600 else st.speed)
    (min (if st.overload then 1000 else st.speed) (if 600 ≤ st.tb then 3000 else st.speed)))

/-- R141: the cap that a lowered speed names. -/
def cappedBy (dose : Bool) (st : Stir) : SpeedCap :=
  if cappedSpeed dose st = 600 ∧ dose then .dose
  else if cappedSpeed dose st = 1000 ∧ st.overload then .overload else .hot

/-- R140: the smallest limit governs where it lowers the speed. -/
theorem governingCap_eq (dose : Bool) (st : Stir) : governingCap dose st
    = if cappedSpeed dose st < st.speed then some (cappedBy dose st, cappedSpeed dose st) else none := by
  unfold governingCap
  split
  next h =>
    obtain ⟨rfl, hspeed⟩ := h
    have hcap : cappedSpeed true st = 600 := by
      simp only [cappedSpeed, Nat.min_def, if_true]
      split_ifs <;> omega
    simp [hcap, hspeed, cappedBy]
  next hdose =>
    split
    next h =>
      obtain ⟨hload, hspeed⟩ := h
      have hno : dose = false := Bool.eq_false_iff.mpr fun hd => hdose ⟨hd, by omega⟩
      have hcap : cappedSpeed dose st = 1000 := by
        simp only [cappedSpeed, hno, hload, Nat.min_def, Bool.false_eq_true, if_true, if_false]
        split_ifs <;> omega
      simp [hcap, hspeed, cappedBy, hload]
    next hover =>
      split
      next h =>
        obtain ⟨htb, hspeed⟩ := h
        have hno : dose = false := Bool.eq_false_iff.mpr fun hd => hdose ⟨hd, by omega⟩
        have hlight : st.overload = false := Bool.eq_false_iff.mpr fun hload => hover ⟨hload, by omega⟩
        have hcap : cappedSpeed dose st = 3000 := by
          simp only [cappedSpeed, hno, hlight, htb, Nat.min_def, Bool.false_eq_true, if_true, if_false]
          split_ifs <;> omega
        simp [hcap, hspeed, cappedBy]
      next hhot =>
        refine (if_neg ?_).symm
        simp only [cappedSpeed, Nat.min_def]
        split_ifs <;> grind

theorem cappedSpeed_le (dose : Bool) (st : Stir) : cappedSpeed dose st ≤ st.speed := Nat.min_le_left _ _

/-- R140: the applied setpoint is the speed under the caps, where nothing holds it at 0. -/
theorem appliedSetpoint_eq (working dose : Bool) (st : Stir) : appliedSetpoint working dose st
    = if stirDriven working st then cappedSpeed dose st else 0 := by
  have hle := cappedSpeed_le dose st
  unfold appliedSetpoint
  rw [governingCap_eq]
  by_cases hlow : cappedSpeed dose st < st.speed
  · rw [if_pos hlow]
  · rw [if_neg hlow, Nat.le_antisymm (Nat.not_lt.mp hlow) hle]

section
variable {s : State}

/-- The caps look at nothing that parts 1 and 2 of an update change. -/
theorem patterned_caps (s : State) (dose : Bool) : cappedSpeed dose (patterned s) = cappedSpeed dose s.stir
    ∧ cappedBy dose (patterned s) = cappedBy dose s.stir ∧ (patterned s).speed = s.stir.speed
    ∧ (patterned s).capped = s.stir.capped := by
  obtain ⟨_, _, _, _, _, _, hframe⟩ := patterned_frame s
  rw [hframe]
  exact ⟨rfl, rfl, rfl, rfl⟩

theorem controlled_notices (s : State) : (controlled s).notices = (updateApplied (updatePattern s)).notices := rfl

/-- R141: an update that lowers nothing for the first time posts nothing. -/
theorem controlled_posts_nothing (h : s.stir.capped = true ∨ stirDriven (stirWorking s) (patterned s) = false
    ∨ cappedSpeed (liveIsDose s) s.stir = s.stir.speed) : (controlled s).notices = s.notices := by
  obtain ⟨hspeed, -, hfull, hmark⟩ := patterned_caps s (liveIsDose s)
  rw [controlled_notices, updateApplied_uncapped (s := updatePattern s) fun hdriven hcapped => ?_]
  · rfl
  · obtain h | h | h := h
    · exact absurd (hmark.symm.trans hcapped) (by simp [h])
    · exact absurd (hdriven.symm.trans h) (by decide)
    · refine (governingCap_eq _ (patterned s)).trans (if_neg ?_)
      change ¬ cappedSpeed (liveIsDose s) (patterned s) < _
      rw [hspeed, hfull, h]
      exact Nat.lt_irrefl _

/-- R141: the first lowering of a step's speed posts SPEED_CAPPED. -/
theorem controlled_posts_capped {i : Nat} (hi : s.liveIndex = some i) (hcapped : s.stir.capped = false)
    (hdriven : stirDriven (stirWorking s) (patterned s) = true)
    (hlow : cappedSpeed (liveIsDose s) s.stir < s.stir.speed) :
    (controlled s).notices = (post (.speedCapped i (cappedBy (liveIsDose s) s.stir) s.stir.speed
      (cappedSpeed (liveIsDose s) s.stir)) s).notices := by
  obtain ⟨hspeed, hname, hfull, hmark⟩ := patterned_caps s (liveIsDose s)
  have hcap : governingCap (liveIsDose s) (patterned s)
      = some (cappedBy (liveIsDose s) (patterned s), cappedSpeed (liveIsDose s) (patterned s)) :=
    (governingCap_eq _ _).trans (if_pos (by rw [hspeed, hfull]; exact hlow))
  rw [controlled_notices, updateApplied_caps (s := updatePattern s) hdriven (hmark.trans hcapped) hcap hi, ← hspeed,
    ← hname, ← hfull]
  rfl

/-! ### The handover to STALL (R144, R158) -/

/-- R144, R158: how a handover qualifies: while ASSERTED it clears with neither a shortfall nor a high current. -/
def stallQualifies (asserted shortfall : Bool) (im : Option Band) : Qualifies :=
  if asserted then (if shortfall = false ∧ im ≠ some .above then .toClear else .neither)
  else if shortfall then .toAssert else .neither

theorem highCurrent_eq (st : Stir) : highCurrent st = decide (st.im.map (·.2) = some .above) := by
  unfold highCurrent
  cases st.im <;> simp

theorem stallHandover_eq (shortfall : Bool) (st : Stir) (s : State) : stallHandover shortfall (highCurrent st) s
    = detectorInput .stall (stallQualifies (s.asserts .stall) shortfall (st.im.map (·.2))) s := by
  unfold stallHandover stallQualifies
  rw [highCurrent_eq]
  simp only [Bool.and_eq_true, Bool.not_eq_true', decide_eq_false_iff_not, ne_eq]

/-- R150: an input short of its length changes no state. -/
theorem countInput_short {n k : Nat} {q : Qualifies} {x : DetState} (hset : x.asserted = false → x.setCount + 1 < n)
    (hclear : x.asserted = true → x.clearCount + 1 < k) : (countInput n k q x).2 = false := by
  unfold countInput
  split
  next hx =>
    have hlen := hclear hx
    cases q
    case toClear => exact decide_eq_false (by omega)
    all_goals rfl
  next hx =>
    have hlen := hset (Bool.eq_false_iff.mpr hx)
    cases q
    case toAssert => exact decide_eq_false (by omega)
    all_goals rfl

/-- R51, R52: a trip cuts the applied setpoint, and joining one leaves the Stir Unit. -/
theorem takeTrip_stir (d : Detector) (s : State) : ∃ applied, (takeTrip d s).stir = { s.stir with applied := applied } := by
  obtain ⟨-, htripped, -, -⟩ := enterTripped_rest d s
  unfold takeTrip
  split
  · split
    · exact ⟨_, htripped⟩
    · split
      · exact ⟨s.stir.applied, rfl⟩
      · exact ⟨_, htripped⟩
    · split
      · exact ⟨s.stir.applied, rfl⟩
      · exact ⟨s.stir.applied, joinTrip_reach d s .stir (by decide)⟩
    all_goals exact ⟨s.stir.applied, rfl⟩
  · exact ⟨s.stir.applied, rfl⟩

/-- R158: a change of STALL reaches the Stir Unit by the trip alone. -/
theorem stallInput_stir (q : Qualifies) (s : State) :
    ∃ applied, (detectorInput .stall q s).stir = { s.stir with applied := applied } := by
  cases hc : (countInput (setLength .stall) (clearLength .stall) q (s.mon.get .stall)).2
  · rw [detectorInput_counts hc]
    exact ⟨s.stir.applied, rfl⟩
  · rw [detectorInput_changes hc]
    cases s.asserts .stall
    · exact takeTrip_stir .stall (conditionTold .stall true s)
    · exact ⟨s.stir.applied, rfl⟩

/-- R144: whatever STALL makes of its verdict, the update's figures but the applied setpoint stand. -/
theorem controlUpdate_stir (s : State) :
    ∃ applied, (controlUpdate s).stir = { (controlled s).stir with applied := applied } := by
  rw [controlUpdate_eq, stallHandover_eq]
  exact stallInput_stir _ _

/-- R150, R158: a handover that changes no state is counted at STALL alone. -/
theorem controlUpdate_counts (hset : s.mon.stall.asserted = false → s.mon.stall.setCount + 1 < 200)
    (hclear : s.mon.stall.asserted = true → s.mon.stall.clearCount + 1 < 100) :
    controlUpdate s = (controlled s).withMon { s.mon with
      stall := (countInput 200 100 (stallQualifies s.mon.stall.asserted (controlled s).stir.shortfall
        (s.stir.im.map (·.2))) s.mon.stall).1 } := by
  have hmon : (controlled s).mon = s.mon := controlled_reach s .mon (by decide)
  have him : (controlled s).stir.im = s.stir.im := by
    obtain ⟨_, _, _, _, _, _, hframe⟩ := patterned_frame s
    rw [controlled_stir, drivenStir, hframe]
    rfl
  have hshort : (countInput (setLength .stall) (clearLength .stall) (stallQualifies ((controlled s).asserts .stall)
      (controlled s).stir.shortfall ((controlled s).stir.im.map (·.2))) ((controlled s).mon.get .stall)).2 = false := by
    rw [hmon]
    exact countInput_short hset hclear
  rw [controlUpdate_eq, stallHandover_eq, detectorInput_counts hshort, State.asserts, hmon, him]
  rfl

end

/-! ### The control update -/

/-- R136 to R138: parts 1 and 2 in the Stir Unit as the whole update leaves it. -/
theorem controlUpdate_pattern (s : State) : (controlUpdate s).stir.seg = (patterned s).seg
    ∧ (controlUpdate s).stir.elapsed = (patterned s).elapsed ∧ (controlUpdate s).stir.wait = (patterned s).wait
    ∧ (controlUpdate s).stir.drive = (patterned s).drive ∧ (controlUpdate s).stir.ring = (patterned s).ring
    ∧ (controlUpdate s).stir.lastEdge = (patterned s).lastEdge
    ∧ (controlUpdate s).stir.controlTimer = s.now + 10000 := by
  obtain ⟨_, hstir⟩ := controlUpdate_stir s
  rw [hstir, controlled_stir]
  exact ⟨rfl, rfl, rfl, rfl, rfl, rfl, rfl⟩

/-- R140 to R144: the figures of an update whose applied setpoint is `applied`. -/
structure Figured (s : State) (applied : Nat) (u : Stir) : Prop where
  applied : u.applied = applied
  ramped : u.ramped = if s.engine.state = .tripped then 0
    else if s.stir.ramped < u.applied then min (s.stir.ramped + 20) u.applied else max (s.stir.ramped - 40) u.applied
  integral : u.integral = driveIntegral u.ramped s.stir
  duty : u.duty = driveDuty u.ramped u.integral
  shortfall : u.shortfall = decide (200 ≤ u.ramped ∧ s.stir.measured * 4 < u.ramped)
  measured : u.measured = s.stir.measured
  capped : u.capped = (s.stir.capped || (stirDriven (stirWorking s) (patterned s)
    && decide (cappedSpeed (liveIsDose s) s.stir < s.stir.speed)))

theorem controlled_figured (s : State) : Figured s
    (if stirDriven (stirWorking s) (patterned s) then cappedSpeed (liveIsDose s) s.stir else 0) (controlled s).stir := by
  obtain ⟨hspeed, -, hfull, -⟩ := patterned_caps s (liveIsDose s)
  have happlied := (appliedSetpoint_eq (stirWorking s) (liveIsDose s) (patterned s)).trans (by rw [hspeed])
  have hlow : (governingCap (liveIsDose s) (patterned s)).isSome
      = decide (cappedSpeed (liveIsDose s) s.stir < s.stir.speed) := by
    rw [governingCap_eq, hspeed, hfull]
    split
    next h => exact (decide_eq_true h).symm
    next h => exact (decide_eq_false h).symm
  obtain ⟨_, _, _, _, _, _, hframe⟩ := patterned_frame s
  rw [controlled_stir, drivenStir]
  rw [hframe] at happlied hlow ⊢
  refine ⟨happlied, ?_, rfl, rfl, ?_, rfl, ?_⟩
  · exact if_congr decide_eq_true_iff rfl rfl
  · exact (Bool.decide_and _ _).symm
  · rw [hframe, ← hlow]
    rfl

/-- Settles O48: the wait and the pattern clock in `patterned`, the setpoints and the drive in `controlled`, and the handover to
STALL, which leaves the first, and the rest too where STALL only counts. -/
theorem controlUpdateDrivesTheBlade : Obligations.ControlUpdateDrivesTheBlade := by
  intro dt s
  obtain ⟨hseg, helapsed, hwait, hdrive, hring, hedge, htimer⟩ := controlUpdate_pattern (s.after dt)
  obtain ⟨hpdrive, hpring, hpedge⟩ := patterned_turned (s.after dt)
  refine ⟨controlUpdate (s.after dt), rfl, htimer, ?_⟩
  intro st u live working dose due waiting counting len ends driven capped
  have hworking : working = stirWorking (s.after dt) := (stirWorking_eq (s.after dt)).symm
  have hdose : dose = liveIsDose (s.after dt) := (liveIsDose_eq (s.after dt)).symm
  have hcounting : counting = (stirWorking (s.after dt) && !(st.wait && !waitDue st)) := by
    rw [← hworking]
    rfl
  have hends : ends = segmentEnds (stirWorking (s.after dt)) (endWait st) := by
    rw [segmentEnds_endWait, ← hworking]
    rfl
  have hdriven : driven = stirDriven (stirWorking (s.after dt)) (patterned (s.after dt)) := by
    change (working && decide (u.seg % 2 = 0) && !u.wait) = _
    rw [hworking, hseg, hwait]
    rfl
  have hcapped : capped = cappedSpeed (liveIsDose (s.after dt)) st := by
    rw [← hdose]
    rfl
  refine ⟨fun hdue => ?_, fun hdue => ?_, fun hc => ?_, fun hc hp => ?_, fun hc hp hlen => ?_, fun he => ?_, ?_,
    fun hset hclear => ?_⟩
  · rw [hdrive, hring, hedge, hpdrive, hpring, hpedge]
    exact endWait_not_due (st := st) hdue ▸ ⟨rfl, rfl, rfl⟩
  · rw [hdrive, hring, hedge, hpdrive, hpring, hpedge, State.after_stir, endWait_due (st := st) hdue]
    exact ⟨rfl, rfl, wantedDirection_eq⟩
  · rw [hseg, helapsed]
    exact patterned_held (s := s.after dt) (hcounting.symm.trans hc)
  · rw [hseg]
    refine (patterned_within (s := s.after dt) ?_).1
    rw [State.after_stir, ← hends]
    change (counting && decide (st.pattern ≠ .continuous) && _) = false
    simp [hp]
  · have hwithin : segmentEnds (stirWorking (s.after dt)) (endWait st) = false := by
      rw [← hends]
      change (counting && _ && decide (len ≤ st.elapsed + 1)) = false
      rw [decide_eq_false (by omega : ¬ len ≤ st.elapsed + 1), Bool.and_false]
    rw [hseg, helapsed]
    exact ⟨(patterned_within (s := s.after dt) hwithin).1,
      patterned_counts (s := s.after dt) (hcounting.symm.trans hc) hp hlen⟩
  · have hp : st.pattern ≠ .continuous := by
      change (counting && decide (st.pattern ≠ .continuous) && decide (len ≤ st.elapsed + 1)) = true at he
      simp only [Bool.and_eq_true, decide_eq_true_eq] at he
      obtain ⟨⟨-, hp⟩, -⟩ := he
      exact hp
    obtain ⟨hnext, hzero, -⟩ := patterned_ends (s := s.after dt) (hends.symm.trans he)
    rw [hseg, helapsed, ← segmentAfter_eq hp]
    exact ⟨hnext, hzero⟩
  · rw [hends, hseg, hwait, hdrive]
    exact patterned_wait
  · have hcounts := controlUpdate_counts (s := s.after dt) hset hclear
    have hstir : u = (controlled (s.after dt)).stir :=
      (congrArg State.stir hcounts).trans (State.withMon_stir _ _)
    obtain ⟨happlied, hramped, hintegral, hduty, hshortfall, hmeasured, hmark⟩ := controlled_figured (s.after dt)
    rw [← hstir] at happlied hramped hintegral hduty hshortfall hmeasured hmark
    have hnotices : (controlUpdate (s.after dt)).notices = (controlled (s.after dt)).notices := by rw [hcounts]; rfl
    have hreach := controlled_reach (s.after dt)
    rw [hdriven, hcapped]
    refine ⟨happlied, hramped, hintegral, hduty, hshortfall, hmeasured, hmark, fun hquiet => ?_,
      fun i hi hfirst hturns hlow => ?_, ?_, ?_, ?_⟩
    · exact hnotices.trans (controlled_posts_nothing hquiet)
    · rw [hdose, hnotices]
      exact controlled_posts_capped (s := s.after dt) hi hfirst hturns hlow
    · rw [hcounts, hstir]
      rfl
    · rw [hcounts]
      exact hreach .engine (by decide)
    · rw [hcounts]
      exact hreach .heat (by decide)

end Sys2Proof.Machine
end

section
/-! PROOFS. The Lid Controller's table (O33), how a detector counts one input (O27), CLEAR_LATCHED (O30) and PERMIT (O35). -/

namespace Sys2Proof.Machine

/-! ### The lock demand (R148) -/

theorem decideDemand_eq (now : Nat) (l : Lid) : decideDemand now l
    = { l with demand := wantedDemand l, demandAt := if wantedDemand l = l.demand then l.demandAt else now } := by
  unfold decideDemand
  split
  next h => rw [h]
  · rfl

theorem wantedDemand_wished {l : Lid} (h : l.wish = true) :
    wantedDemand l = if l.lidOpen then l.demand else .locked := by
  simp [wantedDemand, h]

theorem wantedDemand_unwished {l : Lid} (h : l.wish = false) :
    wantedDemand l = if l.stopped then .unlocked else l.demand := by
  simp [wantedDemand, h]

/-- Settles O33: the table row by row, and the time that goes with a changed demand alone. -/
theorem lockDemandFollowsItsTable : Obligations.LockDemandFollowsItsTable := by
  unfold Obligations.LockDemandFollowsItsTable
  intro now l
  refine ⟨fun hw ho => ?_, fun hw ho => ?_, fun hw hs => ?_, fun hw hs => ?_, ?_, ?_⟩
  · rw [decideDemand_demand, wantedDemand_wished hw, ho]; rfl
  · rw [decideDemand_demand, wantedDemand_wished hw, ho]; rfl
  · rw [decideDemand_demand, wantedDemand_unwished hw, hs]; rfl
  · rw [decideDemand_demand, wantedDemand_unwished hw, hs]; rfl
  · rw [decideDemand_eq]
  · rw [decideDemand_eq]

/-! ### How a detector counts one input (R150) -/

/-- R150: what one input leaves of its detector: the count taken, or the state changed. -/
def countedState (n k : Nat) (q : Qualifies) (x : DetState) : DetState :=
  if (countInput n k q x).2 then x.changed (!x.asserted) else (countInput n k q x).1

theorem countedState_asserted {n k : Nat} {q : Qualifies} {x : DetState} (h : x.asserted = true) :
    countedState n k q x =
      if q = .toClear then
        (if k ≤ x.clearCount + 1 then { asserted := false, latched := x.latched, setCount := 0, clearCount := 0 }
        else { x with clearCount := x.clearCount + 1 })
      else { x with clearCount := 0 } := by
  cases q <;> simp [countedState, countInput, DetState.changed, h]

theorem countedState_clear {n k : Nat} {q : Qualifies} {x : DetState} (h : x.asserted = false) :
    countedState n k q x =
      if q = .toAssert then
        (if n ≤ x.setCount + 1 then { asserted := true, latched := true, setCount := 0, clearCount := 0 }
        else { x with setCount := x.setCount + 1 })
      else { x with setCount := 0 } := by
  cases q <;> simp [countedState, countInput, DetState.changed, h]

theorem detectorInput_get_self (d : Detector) (q : Qualifies) (s : State) :
    (detectorInput d q s).mon.get d = countedState (setLength d) (clearLength d) q (s.mon.get d) := by
  unfold countedState
  cases hc : (countInput (setLength d) (clearLength d) q (s.mon.get d)).2
  · rw [detectorInput_counts hc, State.withMon_mon, Monitor.get_put_self]; rfl
  · rw [detectorInput_changes hc, changeDetector_mon, changedMonitor_self]; rfl

/-- Table 7.3 lists the set and clear length of each detector. -/
theorem lengths_of_table {d : Detector} {n k : Nat}
    (h : (d, n, k) ∈ allDetectors.map (fun d => (d, setLength d, clearLength d))) :
    n = setLength d ∧ k = clearLength d := by
  obtain ⟨d', -, heq⟩ := List.mem_map.mp h
  simp only [Prod.mk.injEq] at heq
  obtain ⟨rfl, hn, hk⟩ := heq
  exact ⟨hn.symm, hk.symm⟩

/-- Settles O27: the detector's own state by whether it is asserted, and the rest of the part by the rules of one input. -/
theorem detectorsCountInputsInARow : Obligations.DetectorsCountInputsInARow := by
  unfold Obligations.DetectorsCountInputsInARow
  intro d q n k s htable
  obtain ⟨rfl, rfl⟩ := lengths_of_table htable
  refine ⟨?_, fun d' hd => detectorInput_get_ne q s hd, fun hsame => ?_⟩
  · rw [detectorInput_get_self]
    by_cases hx : (s.mon.get d).asserted = true
    · rw [if_pos hx, countedState_asserted hx]
    · rw [if_neg hx, countedState_clear (Bool.eq_false_iff.mpr hx)]
  · have hcounts := detectorInput_of_same hsame
    have hself : (detectorInput d q s).mon.get d = (countInput (setLength d) (clearLength d) q (s.mon.get d)).1 := by
      rw [hcounts, State.withMon_mon, Monitor.get_put_self]
    rw [hself]
    exact hcounts

/-! ### CLEAR_LATCHED (R152) -/

/-- R152: what CLEAR_LATCHED leaves of detector `d`. -/
def clearedState (set : DetSet) (d : Detector) (x : DetState) : DetState :=
  { x with latched := x.latched && !(set.getLsbD d.id && !x.asserted) }

theorem clearedState_idem (set : DetSet) (d : Detector) (x : DetState) :
    clearedState set d (clearedState set d x) = clearedState set d x := by
  simp [clearedState]

/-- R152: CLEAR_LATCHED at one detector. -/
def clearFlag (set : DetSet) (m : Monitor) (d : Detector) : Monitor :=
  if DetSet.has set d ∧ ¬(m.get d).asserted then m.put d { m.get d with latched := false } else m

theorem clearLatched_eq (set : DetSet) (m : Monitor) : clearLatched set m = allDetectors.foldl (clearFlag set) m := rfl

theorem clearFlag_get_self (set : DetSet) (m : Monitor) (d : Detector) :
    (clearFlag set m d).get d = clearedState set d (m.get d) := by
  unfold clearFlag clearedState
  split
  next h =>
    obtain ⟨hnamed, hclear⟩ := h
    rw [DetSet.has] at hnamed
    simp [Monitor.get_put_self, hnamed, hclear]
  next h =>
    have hkept : (set.getLsbD d.id && !(m.get d).asserted) = false := by simpa [DetSet.has] using h
    rw [hkept]
    simp

theorem clearFlag_get_ne (set : DetSet) (m : Monitor) {d d' : Detector} (h : d' ≠ d) :
    (clearFlag set m d).get d' = m.get d' := by
  unfold clearFlag
  split
  · exact Monitor.get_put_ne m _ h
  · rfl

theorem clearFlag_stallCurrent (set : DetSet) (m : Monitor) (d : Detector) :
    (clearFlag set m d).stallCurrent = m.stallCurrent := by
  unfold clearFlag
  split
  · cases d <;> rfl
  · rfl

theorem foldl_clearFlag_get (set : DetSet) (d : Detector) : ∀ (ds : List Detector) (m : Monitor),
    (ds.foldl (clearFlag set) m).get d = if d ∈ ds then clearedState set d (m.get d) else m.get d := by
  intro ds
  induction ds with
  | nil => intro m; rfl
  | cons d' ds ih =>
    intro m
    rw [List.foldl_cons, ih]
    by_cases hd : d = d'
    · subst hd
      simp [clearFlag_get_self, clearedState_idem]
    · simp [clearFlag_get_ne set m hd, hd]

theorem foldl_clearFlag_stallCurrent (set : DetSet) : ∀ (ds : List Detector) (m : Monitor),
    (ds.foldl (clearFlag set) m).stallCurrent = m.stallCurrent := by
  intro ds
  induction ds with
  | nil => intro m; rfl
  | cons d ds ih => intro m; rw [List.foldl_cons, ih, clearFlag_stallCurrent]

theorem mem_allDetectors (d : Detector) : d ∈ allDetectors := by cases d <;> decide

theorem clearLatched_get (set : DetSet) (m : Monitor) (d : Detector) :
    (clearLatched set m).get d = clearedState set d (m.get d) := by
  rw [clearLatched_eq, foldl_clearFlag_get, if_pos (mem_allDetectors d)]

theorem clearLatched_realTime (set : DetSet) (m : Monitor) : (clearLatched set m).realTime = m.realTime :=
  Monitor.realTime_congr fun d => by rw [clearLatched_get]; rfl

theorem getLsbD_highBits (set : Word16) {i : Nat} (hi : i < 16) :
    (set &&& 0xF800).getLsbD i = (set.getLsbD i && decide (11 ≤ i)) := by
  have hmask : ∀ i < 16, (0xF800 : Word16).getLsbD i = decide (11 ≤ i) := by decide
  rw [BitVec.getLsbD_and, hmask i hi]

/-- R194: a word names no more than the eleven detectors exactly when its five high bits are 0. -/
theorem highBits_eq_zero_iff (set : Word16) : set &&& 0xF800 = 0 ↔ set.toNat < 2048 := by
  constructor
  · intro h
    refine Nat.lt_pow_two_of_testBit (n := 11) _ fun i hi => ?_
    by_cases h16 : i < 16
    · have hbit := getLsbD_highBits set h16
      rw [h, decide_eq_true hi, Bool.and_true] at hbit
      exact hbit.symm.trans BitVec.getLsbD_zero
    · exact BitVec.getLsbD_of_ge set i (Nat.not_lt.mp h16)
  · intro h
    refine BitVec.eq_of_getLsbD_eq fun i hi => ?_
    rw [getLsbD_highBits set hi, BitVec.ofNat_eq_ofNat, BitVec.getLsbD_zero, Bool.and_eq_false_imp]
    intro hbit
    refine decide_eq_false fun h11 => ?_
    have hlt : set.toNat < 2 ^ i := h.trans_le (Nat.pow_le_pow_right (n := 2) (by decide) h11)
    exact Bool.false_ne_true ((Nat.testBit_lt_two_pow hlt).symm.trans hbit)

/-- A reply formed over a changed Condition Monitor does not see the request that its port held. -/
theorem formReply_monitored_held (p : Port) (k t : Byte) (a : Answer) (m : Monitor) (s : State) :
    formReply p k t a ((heldState p k t s).withMon m) = formReply p k t a (s.withMon m) := by
  rw [heldState_eq]
  cases p <;> rfl

theorem serveClearLatched_refused {set : DetSet} (h : 2048 ≤ set.toNat) (s : State) :
    serveClearLatched set s = refused .range s := if_pos h

theorem serveClearLatched_accepted {set : DetSet} (h : set.toNat < 2048) (s : State) :
    serveClearLatched set s = (s.withMon (clearLatched set s.mon),
      some (okWith (le16 (clearLatched set s.mon).latchedSet.toNat ++ le16 (set &&& s.mon.realTime).toNat))) := by
  rw [serveClearLatched, if_neg (Nat.not_le.mpr h), ← clearLatched_realTime set s.mon]
  rfl

/-- Settles O30: the bound on the set, and the monitor that clearing flag by flag leaves. -/
theorem clearLatchedClearsNamedFlags : Obligations.ClearLatchedClearsNamedFlags := by
  unfold Obligations.ClearLatchedClearsNamedFlags
  intro dt p tag set s hadm
  refine ⟨fun hhigh => ?_, fun hlow => ?_⟩
  · have hbound : 2048 ≤ set.toNat := Nat.not_lt.mp fun h => hhigh ((highBits_eq_zero_iff set).mpr h)
    exact exec_runRefused (r := .clearLatched set) hadm (.inl rfl) (serveClearLatched_refused hbound _)
  · have hserve := serveClearLatched_accepted ((highBits_eq_zero_iff set).mp hlow) (heldState p 0x41 tag (s.after dt))
    rw [held_mon, State.after_mon] at hserve
    refine ⟨clearLatched set s.mon, ?_, foldl_clearFlag_stallCurrent set _ _, clearLatched_get set s.mon⟩
    refine (exec_served (r := .clearLatched set) hadm (.inl rfl) dt tag).trans ?_
    change Host.Outcome.next (conclude p 0x41 tag (serveClearLatched set (heldState p 0x41 tag (s.after dt)))) = _
    rw [hserve, conclude_answered, formReply_monitored_held]
    rfl

/-! ### What a lapse and a re-arming leave of the engine (R46, R168) -/

section
variable {s : State}

theorem lapsePermit_permit (r : LapseReason) (s : State) : (lapsePermit r s).permit = lapsedPermit r :=
  takeLapse_touches _ .permit (by decide)

theorem lapsePermit_reach (r : LapseReason) (s : State) : Touches (.permit :: engineReach) s (lapsePermit r s) :=
  (((withPermit_touches _ s).mono (by decide)).trans ((post_touches _ _).mono (by decide))).trans
    ((takeLapse_touches _).mono (by decide))

theorem lapsePermit_not_running (r : LapseReason) (s : State) : (lapsePermit r s).engine.state ≠ .running := by
  obtain ⟨hrun, -⟩ := takeLapse_calm (post (.permitLapsed r) (s.withPermit (lapsedPermit r)))
  exact hrun

/-- R46: a lapse in RUNNING enters PAUSED, undriven. -/
theorem lapsePermit_running (r : LapseReason) (h : s.engine.state = .running) :
    (lapsePermit r s).engine.state = .paused
      ∧ (lapsePermit r s).engine.causes = { request := true, lid := false, permit := true }
      ∧ (lapsePermit r s).undriven = true := by
  have hlapse : lapsePermit r s = enterPaused { request := true, lid := false, permit := true }
      (post (.permitLapsed r) (s.withPermit (lapsedPermit r))) := by
    simp [lapsePermit, takeLapse, h]
  obtain ⟨hheat, hstir, -, -⟩ := enterPaused_rest { request := true, lid := false, permit := true }
    (post (.permitLapsed r) (s.withPermit (lapsedPermit r)))
  rw [hlapse]
  refine ⟨by rw [enterPaused_engine], by rw [enterPaused_engine], undriven_of_off ?_ hstir⟩
  rw [hheat]
  exact heatForcedOff_coilOff _ _

/-- R46: a lapse in PAUSED makes PERMIT a cause. -/
theorem lapsePermit_paused (r : LapseReason) (h : s.engine.state = .paused) :
    (lapsePermit r s).engine = { s.engine with causes := { s.engine.causes with permit := true } } := by
  unfold lapsePermit takeLapse
  rw [post_engine, State.withPermit_engine, h]
  dsimp only
  split
  next hc => rw [post_engine, State.withPermit_engine, ← hc]
  · rw [postEngineState_engine, State.withEngine_engine]

/-- R46: a lapse outside RUNNING and PAUSED does not reach the engine. -/
theorem lapsePermit_calm (r : LapseReason) (hr : s.engine.state ≠ .running) (hp : s.engine.state ≠ .paused) :
    (lapsePermit r s).engine = s.engine := by
  unfold lapsePermit takeLapse
  cases hs : s.engine.state
  case running => exact absurd hs hr
  case paused => exact absurd hs hp
  all_goals simp only [post_engine, State.withPermit_engine, hs]

theorem takeRearm_reach (s : State) : Touches [.engine, .notices] s (takeRearm s) :=
  Touches.ite _ (((withEngine_touches _ s).mono (by decide)).trans ((postEngineState_touches _).mono (by decide)))
    (Touches.refl _ s)

/-- R46: a re-arming takes PERMIT out of the causes of PAUSED. -/
theorem takeRearm_engine (s : State) : (takeRearm s).engine = if s.engine.state = .paused then
    { s.engine with causes := { s.engine.causes with permit := false } } else s.engine := by
  unfold takeRearm
  by_cases hs : s.engine.state = .paused
  · rw [if_pos hs]
    by_cases hc : s.engine.causes.permit = true
    · rw [if_pos ⟨hs, hc⟩, postEngineState_engine, State.withEngine_engine]
    · rw [if_neg fun h => hc h.2, ← Bool.eq_false_iff.mpr hc]
  · rw [if_neg hs, if_neg fun h => hs h.1]

/-! ### PERMIT (R165, R166) -/

theorem renewalFault_wrongKey {now : Nat} {key : Byte} {x : Permit} (h : key ≠ x.key) :
    renewalFault now key x = some .wrongKey := if_pos h

theorem renewalFault_early {now at' : Nat} {x : Permit} (hf : x.first = false) (hr : x.renewal = some at')
    (hlt : now - at' < 1000000) : renewalFault now x.key x = some .early := by
  simp [renewalFault, renewalReading, renewalOpens, hf, hr, hlt]

theorem renewalFault_none {now : Nat} {x : Permit}
    (h : x.first = true ∨ ∃ at', x.renewal = some at' ∧ 1000000 ≤ now - at') : renewalFault now x.key x = none := by
  obtain hf | ⟨at', hr, hle⟩ := h
  · simp [renewalFault, hf]
  · simp [renewalFault, renewalReading, renewalOpens, hr, Nat.not_lt.mpr hle]

theorem servePermit_unarmed (key : Byte) (h : s.permit.state ≠ .armed) : servePermit key s = serveArming key s := by
  unfold servePermit
  cases hs : s.permit.state
  case armed => exact absurd hs h
  all_goals rfl

theorem servePermit_armed (key : Byte) (h : s.permit.state = .armed) : servePermit key s = serveRenewal key s := by
  simp [servePermit, h]

theorem servePermit_arms (h : s.permit.state ≠ .armed) : servePermit 0x5A s
    = (takeRearm (s.withPermit (armPermit s.now)),
      some (permitAnswer .ok (takeRearm (s.withPermit (armPermit s.now))))) := by
  rw [servePermit_unarmed _ h, serveArming, if_pos rfl]

theorem servePermit_badKey {key : Byte} (h : s.permit.state ≠ .armed) (hk : key ≠ 0x5A) :
    servePermit key s = (s, some (permitAnswer .badKey s)) := by
  rw [servePermit_unarmed _ h, serveArming, if_neg hk]

theorem servePermit_renews {key : Byte} (h : s.permit.state = .armed) (hf : renewalFault s.now key s.permit = none) :
    servePermit key s = (s.withPermit (renewPermit s.now s.permit),
      some (permitAnswer .ok (s.withPermit (renewPermit s.now s.permit)))) := by
  rw [servePermit_armed _ h, serveRenewal, hf]

theorem servePermit_lapses {key : Byte} {r : LapseReason} (h : s.permit.state = .armed)
    (hf : renewalFault s.now key s.permit = some r) :
    servePermit key s = (lapsePermit r s, some (permitAnswer .noPermit (lapsePermit r s))) := by
  rw [servePermit_armed _ h, serveRenewal, hf]

end

/-- R194: the Panel Port once PERMIT, taken in state `s`, is answered with `res` and permit `x`. -/
def permitReplied (tag : Byte) (res : Result) (x : Permit) (s : State) : PortState :=
  (formReply .panel 0x40 tag { result := res, clamped := false, body := permitBody x } s).panel

section
variable {dt : Nat} {tag key : Byte} {s u : State} {res : Result}

/-- R192: an admitted PERMIT whose owner leaves `u` ends in `u` with the reply on the Panel Port. -/
theorem exec_permit (hadm : s.admits .panel = true)
    (hserve : servePermit key (heldState .panel 0x40 tag (s.after dt)) = (u, some (permitAnswer res u)))
    (hpanel : u.panel = (heldState .panel 0x40 tag (s.after dt)).panel) :
    exec (.permit dt .panel tag key) s = .next (u.withPanel (permitReplied tag res u.permit s)) := by
  refine (exec_served (r := .permit key) hadm (.inr rfl) dt tag).trans ?_
  change Host.Outcome.next (conclude .panel 0x40 tag (servePermit key (heldState .panel 0x40 tag (s.after dt)))) = _
  have hheld := congrArg PortState.overrun (held_own_port .panel 0x40 tag (s.after dt))
  have hoverrun : (u.port .panel).overrun = (s.port .panel).overrun := (congrArg PortState.overrun hpanel).trans hheld
  rw [hserve, conclude_answered]
  exact congrArg (fun x => Host.Outcome.next (u.withPanel x)) (formReply_own_port (p := .panel) hoverrun)

/-- The Panel Port taken afresh, the request that it held is gone. -/
theorem held_withPanel (k t : Byte) (x : PortState) (s : State) :
    (heldState .panel k t s).withPanel x = s.withPanel x := by rw [heldState_eq]; rfl

theorem held_withPermit (k t : Byte) (x : Permit) (s : State) :
    (heldState .panel k t s).withPermit x = heldState .panel k t (s.withPermit x) := by
  rw [heldState_eq, heldState_eq]
  rfl

/-- R165: an arming PERMIT. -/
theorem exec_permit_arms (hadm : s.admits .panel = true) (h : s.permit.state ≠ .armed) :
    ∃ t, exec (.permit dt .panel tag 0x5A) s = .next t
      ∧ Touches [.engine, .permit, .notices, .panel, .now] s t
      ∧ t.permit = armPermit (s.now + dt)
      ∧ t.engine = (if s.engine.state = .paused then
          { s.engine with causes := { s.engine.causes with permit := false } } else s.engine)
      ∧ t.panel = permitReplied tag .ok t.permit s := by
  have hserve := servePermit_arms (s := heldState .panel 0x40 tag (s.after dt)) (by simpa using h)
  rw [held_now, State.after_now] at hserve
  have hrearm := takeRearm_reach ((heldState .panel 0x40 tag (s.after dt)).withPermit (armPermit (s.now + dt)))
  have hheld : Touches [.panel, .now] s (heldState .panel 0x40 tag (s.after dt)) :=
    ((after_touches dt s).mono (by decide)).trans ((heldState_touches .panel _ tag _).mono (by decide))
  refine ⟨_, exec_permit hadm hserve (hrearm .panel (by decide)), ?_, ?_, ?_, ?_⟩
  · exact (((hheld.mono (by decide)).trans ((withPermit_touches _ _).mono (by decide))).trans
      (hrearm.mono (by decide))).trans ((withPanel_touches _ _).mono (by decide))
  · exact takeRearm_permit _
  · rw [State.withPanel_engine, takeRearm_engine, State.withPermit_engine, held_engine, State.after_engine]
  · rfl

/-- R166: a renewing PERMIT. -/
theorem exec_permit_renews (hadm : s.admits .panel = true) (h : s.permit.state = .armed)
    (hf : renewalFault (s.now + dt) key s.permit = none) : exec (.permit dt .panel tag key) s
      = .next (((s.after dt).withPermit (renewPermit (s.now + dt) s.permit)).withPanel
          (permitReplied tag .ok (renewPermit (s.now + dt) s.permit) s)) := by
  have hserve := servePermit_renews (s := heldState .panel 0x40 tag (s.after dt)) (key := key)
    (by simpa using h) (by simpa using hf)
  rw [held_now, State.after_now, held_permit, State.after_permit] at hserve
  rw [exec_permit hadm hserve rfl, held_withPermit, held_withPanel, held_permit, State.withPermit_permit]

/-- R166, R168: a lapsing PERMIT. -/
theorem exec_permit_lapses {r : LapseReason} (hadm : s.admits .panel = true) (h : s.permit.state = .armed)
    (hf : renewalFault (s.now + dt) key s.permit = some r) :
    exec (.permit dt .panel tag key) s = .next ((lapsePermit r (heldState .panel 0x40 tag (s.after dt))).withPanel
      (permitReplied tag .noPermit (lapsedPermit r) s)) := by
  have hserve := servePermit_lapses (s := heldState .panel 0x40 tag (s.after dt)) (key := key) (r := r)
    (by simpa using h) (by simpa using hf)
  rw [exec_permit hadm hserve (lapsePermit_reach r _ .panel (by decide)), lapsePermit_permit]

/-- R166: the lapse of a PERMIT that is not a renewal, the key judged first. -/
theorem renewalFault_of_refused {now : Nat} {x : Permit}
    (h : key ≠ x.key ∨ (x.first = false ∧ ∃ at', x.renewal = some at' ∧ now - at' < 1000000)) :
    renewalFault now key x = some (if key ≠ x.key then .wrongKey else .early) := by
  by_cases hk : key = x.key
  · subst hk
    obtain hne | ⟨hf, at', hr, hlt⟩ := h
    · exact absurd rfl hne
    · rw [renewalFault_early hf hr hlt, if_neg (not_not.mpr rfl)]
  · rw [renewalFault_wrongKey hk, if_pos hk]

end

/-- Settles O35: each way PERMIT goes, with its reply over the permit that it leaves. -/
theorem permitArmsRenewsAndLapses : Obligations.PermitArmsRenewsAndLapses := by
  unfold Obligations.PermitArmsRenewsAndLapses
  intro dt tag key s hadm
  refine ⟨fun hne hkey => ?_, fun hne hkey => ?_, fun harmed hkey hopen => ?_, fun harmed hfault => ?_⟩
  · subst hkey
    obtain ⟨t, hexec, hreach, hpermit, hengine, hpanel⟩ := exec_permit_arms (dt := dt) (tag := tag) hadm hne
    exact ⟨t, hexec, hpermit, hengine, hpanel, hreach .plan (by decide), hreach .heat (by decide),
      hreach .stir (by decide), hreach .lid (by decide), hreach .mon (by decide), hreach .scale (by decide),
      hreach .store (by decide), hreach .conv (by decide)⟩
  · have hserve := servePermit_badKey (s := heldState .panel 0x40 tag (s.after dt)) (by simpa using hne) hkey
    rw [exec_permit hadm hserve rfl, held_withPanel, held_permit, State.after_permit]
    rfl
  · subst hkey
    exact ⟨_, exec_permit_renews hadm harmed (renewalFault_none hopen), rfl, rfl⟩
  · refine ⟨_, exec_permit_lapses hadm harmed (renewalFault_of_refused hfault), lapsePermit_permit _ _, ?_,
      lapsePermit_not_running _ _, fun hs => ?_, fun hs => ?_, fun hr hp => ?_⟩
    · rw [State.withPanel_permit, lapsePermit_permit]
      rfl
    · exact lapsePermit_running _ (by simpa using hs)
    · exact (lapsePermit_paused _ (by simpa using hs)).trans (by rw [held_engine, State.after_engine])
    · exact (lapsePermit_calm _ (by simpa using hr) (by simpa using hp)).trans (by rw [held_engine, State.after_engine])

end Sys2Proof.Machine
end

section
/-! PROOFS. The library requests and what they put in flight (O54). -/

namespace Sys2Proof.Machine

/-! ### The requests' checks -/

section
variable (s : State)

/-- R177: the checks of LIB_SAVE, and the save that they let begin. -/
theorem serveLibSave_checked (slot : Nat) : serveLibSave slot s
    = checked [(decide (7 < slot), .range), (storeBusy s.store, .busy), (wornFlag (s.store.entry slot).saves, .worn)] s
      (s.withStore { s.store with
          op := .save slot (saveWrites slot (s.store.entry slot).saves (snapshotOf s.plan))
          saveBuf := some (snapshotOf s.plan) },
        some (okWith (byte slot ++ le16 s.plan.revision ++ byte s.plan.steps.length))) := by
  simp only [checked_cons, checked_nil, decide_eq_true_eq]
  rfl

/-- R180: the checks of LIB_LOAD, and the load that they let begin. -/
theorem serveLibLoad_checked (slot : Nat) : serveLibLoad slot s
    = checked [(decide (7 < slot), .range), (s.inRun, .wrongState), (storeBusy s.store, .busy),
        (!(s.store.entry slot).valid, .emptySlot)] s
      (s.withStore { s.store with op := .load slot }, some (okWith (byte slot))) := by
  simp only [checked_cons, checked_nil, decide_eq_true_eq, Bool.not_eq_true']
  rfl

/-- R182: the checks of LIB_ERASE, and the erasure that they let begin. -/
theorem serveLibErase_checked (slot : Nat) : serveLibErase slot s
    = checked [(decide (7 < slot), .range), (storeBusy s.store, .busy)] s
      (s.withStore { s.store.setEntry slot (s.store.entry slot).invalid with op := .erase slot (eraseWrites slot) },
        some (okWith (byte slot))) := by
  simp only [checked_cons, checked_nil, decide_eq_true_eq]
  rfl

/-- R183: the checks of LIB_WRITE_CAL, and the writing that they let begin. -/
theorem serveLibWriteCal_checked : serveLibWriteCal s
    = checked [(s.inRun, .wrongState), (storeBusy s.store, .busy)] s
      (s.withStore { s.store with
          op := .writeCal (calWrites s.scale.cal), calCopy := some s.scale.cal, calValid := false },
        some (okWith (le16 s.scale.cal.calId))) := by
  simp only [checked_cons, checked_nil]
  rfl

end

/-! ### The words that are written -/

theorem writesFrom_addrs : ∀ (ws : List Word16) (a : Nat),
    (writesFrom a ws).map (·.addr) = (List.range ws.length).map (a + ·)
  | [], _ => rfl
  | w :: ws, a => by
    rw [writesFrom, List.map_cons, writesFrom_addrs ws, List.length_cons, List.range_succ_eq_map, List.map_cons,
      List.map_map]
    simp only [Function.comp_def, Nat.add_zero, Nat.succ_eq_add_one, Nat.add_assoc, Nat.add_comm 1]

/-- R178: the counter, the marker, ten words a step, the seven words of the header, and the marker again. -/
theorem saveWrites_addrs (slot saves : Nat) (x : Snapshot) : (saveWrites slot saves x).map (·.addr)
    = [4106 + slot, 512 * slot] ++ (List.range (10 * x.steps.length)).map (512 * slot + 8 + ·)
      ++ (List.range 7).map (512 * slot + 1 + ·) ++ [512 * slot] := by
  simp only [saveWrites, List.map_append, writesFrom_addrs, planWords_length]
  rfl

/-- R183: the marker, the nine words after it, and the marker again. -/
theorem calWrites_addrs (c : Calibration) :
    (calWrites c).map (·.addr) = 4096 :: (List.range 9).map (4097 + ·) ++ [4096] := by
  simp only [calWrites, List.map_cons, List.map_append, writesFrom_addrs]
  rfl

/-! ### A library request through its port -/

theorem setPort_withStore (p : Port) (x : PortState) (st : Store) (s : State) :
    (s.setPort p x).withStore st = (s.withStore st).setPort p x := by cases p <;> rfl

/-- A reply formed over a changed store does not see the request that its port held. -/
theorem formReply_restored_held (p : Port) (k t : Byte) (a : Answer) (st : Store) (s : State) :
    formReply p k t a ((heldState p k t s).withStore st) = formReply p k t a (s.withStore st) := by
  rw [heldState_eq, setPort_withStore]
  cases p <;> rfl

/-- R174, R192: a library request is refused by the first check that fails; where all pass it is answered OK over the store
that it leaves. -/
theorem exec_library {r : Request} {p : Port} {s : State} (h : s.admits p = true)
    (hk : panelRequestOnly r = false ∨ p = .panel) {dt : Nat} {tag : Byte} {checks : List (Bool × Result)} {st : Store}
    {body : List Byte}
    (hr : serveRequest p r (heldState p r.kind tag (s.after dt)) = checked checks (heldState p r.kind tag (s.after dt))
      ((heldState p r.kind tag (s.after dt)).withStore st, some (okWith body))) :
    (∀ res, firstFailure checks = some res → exec (r.command dt p tag) s
      = .next (formReply p r.kind tag { result := res, clamped := false, body := [] } (s.after dt)))
    ∧ (firstFailure checks = none → exec (r.command dt p tag) s
      = .next (formReply p r.kind tag { result := .ok, clamped := false, body := body } ((s.after dt).withStore st))) := by
  refine ⟨fun res hf => exec_runRefused h hk (hr.trans (checked_refused hf)), fun hf => ?_⟩
  rw [exec_served h hk, hr, checked_passed hf, conclude_answered, formReply_restored_held]
  rfl

section
variable {p : Port} {s : State} (dt : Nat) (tag : Byte) (slot : Nat)

theorem exec_libSave (h : s.admits p = true) :
    let checks := [(decide (7 < slot), Result.range), (storeBusy s.store, .busy),
      (wornFlag (s.store.entry slot).saves, .worn)]
    (∀ res, firstFailure checks = some res → exec (.libSave dt p tag slot) s
      = .next (formReply p 0x50 tag { result := res, clamped := false, body := [] } (s.after dt)))
    ∧ (firstFailure checks = none → exec (.libSave dt p tag slot) s
      = .next (formReply p 0x50 tag
          { result := .ok, clamped := false, body := byte slot ++ le16 s.plan.revision ++ byte s.plan.steps.length }
          ((s.after dt).withStore { s.store with
            op := .save slot (saveWrites slot (s.store.entry slot).saves (snapshotOf s.plan))
            saveBuf := some (snapshotOf s.plan) }))) := by
  refine exec_library (r := .libSave slot) h (.inl rfl) ((serveLibSave_checked _ slot).trans ?_)
  rw [held_store, held_plan]
  rfl

theorem exec_libLoad (h : s.admits p = true) :
    let checks := [(decide (7 < slot), Result.range), (s.inRun, .wrongState), (storeBusy s.store, .busy),
      (!(s.store.entry slot).valid, .emptySlot)]
    (∀ res, firstFailure checks = some res → exec (.libLoad dt p tag slot) s
      = .next (formReply p 0x51 tag { result := res, clamped := false, body := [] } (s.after dt)))
    ∧ (firstFailure checks = none → exec (.libLoad dt p tag slot) s
      = .next (formReply p 0x51 tag { result := .ok, clamped := false, body := byte slot }
          ((s.after dt).withStore { s.store with op := .load slot }))) := by
  refine exec_library (r := .libLoad slot) h (.inl rfl) ((serveLibLoad_checked _ slot).trans ?_)
  rw [held_store, held_inRun]
  rfl

theorem exec_libErase (h : s.admits p = true) :
    let checks := [(decide (7 < slot), Result.range), (storeBusy s.store, .busy)]
    (∀ res, firstFailure checks = some res → exec (.libErase dt p tag slot) s
      = .next (formReply p 0x52 tag { result := res, clamped := false, body := [] } (s.after dt)))
    ∧ (firstFailure checks = none → exec (.libErase dt p tag slot) s
      = .next (formReply p 0x52 tag { result := .ok, clamped := false, body := byte slot }
          ((s.after dt).withStore { s.store.setEntry slot (s.store.entry slot).invalid with
            op := .erase slot (eraseWrites slot) }))) := by
  refine exec_library (r := .libErase slot) h (.inl rfl) ((serveLibErase_checked _ slot).trans ?_)
  rw [held_store]
  rfl

theorem exec_libWriteCal (h : s.admits .panel = true) :
    let checks := [(s.inRun, Result.wrongState), (storeBusy s.store, .busy)]
    (∀ res, firstFailure checks = some res → exec (.libWriteCal dt .panel tag) s
      = .next (formReply .panel 0x54 tag { result := res, clamped := false, body := [] } (s.after dt)))
    ∧ (firstFailure checks = none → exec (.libWriteCal dt .panel tag) s
      = .next (formReply .panel 0x54 tag { result := .ok, clamped := false, body := le16 s.scale.cal.calId }
          ((s.after dt).withStore { s.store with
            op := .writeCal (calWrites s.scale.cal), calCopy := some s.scale.cal, calValid := false }))) := by
  refine exec_library (r := .libWriteCal) h (.inr rfl) ((serveLibWriteCal_checked _).trans ?_)
  rw [held_store, held_inRun, held_scale]
  rfl

end

/-- Settles O54: each library request by its checks, and the words of the writes that a SAVE and a WRITE_CAL begin. -/
theorem libraryRequestsStartTheirOperation : Obligations.LibraryRequestsStartTheirOperation := by
  unfold Obligations.LibraryRequestsStartTheirOperation
  intro dt p tag slot s hadm busy entry x refused accepted
  have hbusy : storeBusy s.store = busy := rfl
  have hentry : s.store.entry slot = entry := rfl
  obtain ⟨hsaveRefused, hsave⟩ := exec_libSave dt tag slot hadm
  obtain ⟨hloadRefused, hload⟩ := exec_libLoad dt tag slot hadm
  obtain ⟨heraseRefused, herase⟩ := exec_libErase dt tag slot hadm
  refine ⟨hsaveRefused, fun hslot hb hworn => ⟨hsave ?_, saveWrites_addrs slot entry.saves x⟩, hloadRefused,
    fun hslot hrun hb hvalid => hload ?_, heraseRefused, fun hslot hb => herase ?_, ?_⟩
  · simp [firstFailure, wornFlag, hbusy, hentry, hb, Nat.not_lt.mpr hslot, Nat.not_le.mpr hworn]
  · simp [firstFailure, hbusy, hentry, hb, hslot, hrun, hvalid]
  · simp [firstFailure, hbusy, hb, hslot]
  · rintro rfl
    obtain ⟨hcalRefused, hcal⟩ := exec_libWriteCal dt tag hadm
    refine ⟨hcalRefused, fun hrun hb => ⟨hcal ?_, calWrites_addrs s.scale.cal⟩⟩
    simp [firstFailure, hbusy, hb, hrun]

end Sys2Proof.Machine
end

section
/-! PROOFS. The end of a word write (O55): what it leaves of the store, and whether its operation goes on or ends. -/

namespace Sys2Proof.Machine

/-! ### The array -/

/-- R173, R179: the array after a word write: the word holds the value or what was read back last, every other word stays. -/
theorem read_writtenArray {m : Memory} {w : WordWrite} (hm : m.wf = true) (hw : w.addr < 4114) (first second : Word16)
    (a : Nat) : Memory.read (writtenArray m w first second) a
      = if a = w.addr then (if writeSucceeds m w first second then w.value else second) else Memory.read m a := by
  by_cases h : a = w.addr
  · rw [if_pos h, h, writtenArray, Memory.read_write_same m w.addr _ hm hw]
  · rw [if_neg h, writtenArray, Memory.read_write_other m _ (Ne.symm h)]

/-! ### The directory -/

/-- R178, R179: the directory entry of a SAVE's slot after a word write. -/
def entryAfterWrite (ok : Bool) (w : WordWrite) (second : Word16) (x : Option Snapshot) (e : DirEntry) : DirEntry :=
  if ok then entryAfterSuccess w x e else entryAfterFailure w second e

section
variable (ok : Bool) {w : WordWrite} (second : Word16) (x : Option Snapshot) (e : DirEntry)

theorem entryAfterWrite_counter (hw : w.role = .counter) : entryAfterWrite ok w second x e
    = { e with saves := if ok then w.value.toNat else second.toNat } := by
  unfold entryAfterWrite entryAfterSuccess entryAfterFailure
  cases ok <;> rw [hw] <;> rfl

theorem entryAfterWrite_clearMarker (hw : w.role = .clearMarker) : entryAfterWrite ok w second x e = e.invalid := by
  unfold entryAfterWrite entryAfterSuccess entryAfterFailure
  cases ok <;> rw [hw] <;> rfl

theorem entryAfterWrite_failed (hw : w.role ≠ .counter) : entryAfterWrite false w second x e = e.invalid := by
  unfold entryAfterWrite entryAfterFailure
  cases h : w.role
  case counter => exact absurd h hw
  all_goals rfl

theorem entryAfterWrite_plain (hw : w.role = .plain) : entryAfterWrite true w second x e = e := by
  unfold entryAfterWrite entryAfterSuccess
  rw [hw]
  rfl

theorem entryAfterWrite_setMarker (hw : w.role = .setMarker) : entryAfterWrite true w second x e = e.holds x := by
  unfold entryAfterWrite entryAfterSuccess
  rw [hw]
  rfl

end

theorem Store.set_entry_self (st : Store) (slot : Nat) : st.directory.set slot (st.entry slot) = st.directory := by
  by_cases h : slot < st.directory.length
  · rw [Store.entry, List.getD_eq_getElem _ _ h, List.set_getElem_self]
  · exact List.set_eq_of_length_le (not_lt.mp h)

/-! ### The operation -/

/-- R173, R178, R183: the store after a word write ends, before its operation goes on or ends. -/
def storeAfterWrite (slot : Nat) (w : WordWrite) (rest : List WordWrite) (first second : Word16) (isSave isCal : Bool)
    (st : Store) : Store :=
  let ok := writeSucceeds st.array w first second
  { st with
    array := writtenArray st.array w first second
    directory := if isSave then st.directory.set slot (entryAfterWrite ok w second st.saveBuf (st.entry slot))
      else st.directory
    calValid := st.calValid || (isCal && ok && decide (rest = [])) }

/-- R173, R174: whether the operation goes on after a word write. -/
def goesOn (ok : Bool) (rest : List WordWrite) : Bool := ok && decide (rest ≠ [])

/-- R174: over the store `x`, the operation goes on with `next`, or ends with OK or WRITE_FAULT. -/
def proceed (ok : Bool) (rest : List WordWrite) (next : StoreOp) (done : DoneOp) (slot rev : Option Nat) (x : Store)
    (s : State) : State :=
  if goesOn ok rest then s.withStore { x with op := next }
  else endOperation done slot (if ok then .ok else .writeFault) rev (s.withStore x)

section
variable (ok : Bool) (rest : List WordWrite) (next : StoreOp) (done : DoneOp) (slot rev : Option Nat) (x : Store) (s : State)

theorem proceed_eq : proceed ok rest next done slot rev x s
    = if ok then
        if rest = [] then endOperation done slot .ok rev (s.withStore x) else s.withStore { x with op := next }
      else endOperation done slot .writeFault rev (s.withStore x) := by
  cases ok
  · rfl
  · by_cases h : rest = [] <;> simp [proceed, goesOn, h]

theorem proceed_store : (proceed ok rest next done slot rev x s).store
    = { x with op := if goesOn ok rest then next else .idle } := by
  unfold proceed
  split <;> rfl

theorem proceed_notices : (proceed ok rest next done slot rev x s).notices
    = if goesOn ok rest then s.notices
      else (post (.libraryDone done slot (if ok then .ok else .writeFault) rev) s).notices := by
  unfold proceed
  split
  · rfl
  · exact post_notices_congr _ rfl

end

section
variable (first second : Word16) {s : State} {w : WordWrite} {rest : List WordWrite}

theorem saveWriteEnd_eq (slot : Nat) : saveWriteEnd slot w rest first second s
    = proceed (writeSucceeds s.store.array w first second) rest (.save slot rest) .save (some slot)
      (s.store.saveBuf.map (·.revision)) (storeAfterWrite slot w rest first second true false s.store) s := by
  simp only [saveWriteEnd, proceed_eq, storeAfterWrite, entryAfterWrite, Bool.false_and, Bool.or_false, if_true]
  cases writeSucceeds s.store.array w first second <;> rfl

theorem eraseWriteEnd_eq (slot : Nat) : eraseWriteEnd slot w rest first second s
    = proceed (writeSucceeds s.store.array w first second) rest (.erase slot rest) .erase (some slot) none
      (storeAfterWrite slot w rest first second false false s.store) s := by
  simp only [eraseWriteEnd, proceed_eq, storeAfterWrite, Bool.false_and, Bool.or_false, Bool.false_eq_true, if_false]

theorem calWriteEnd_eq (slot : Nat) : calWriteEnd w rest first second s
    = proceed (writeSucceeds s.store.array w first second) rest (.writeCal rest) .writeCal none none
      (storeAfterWrite slot w rest first second false true s.store) s := by
  simp only [calWriteEnd, proceed_eq, storeAfterWrite, Bool.true_and, Bool.false_eq_true, if_false]
  by_cases hok : writeSucceeds s.store.array w first second = true
  · by_cases hrest : rest = [] <;> simp [hok, hrest]
  · simp [hok]

/-- R173: the end of a word write, whichever of the three operations it belongs to. -/
theorem endWordWrite_eq {slot : Nat}
    (h : s.store.op ∈ [StoreOp.save slot (w :: rest), .erase slot (w :: rest), .writeCal (w :: rest)]) :
    let isSave := decide (s.store.op = .save slot (w :: rest))
    let isCal := decide (s.store.op = .writeCal (w :: rest))
    endWordWrite first second s = proceed (writeSucceeds s.store.array w first second) rest
      (if isSave then .save slot rest else if isCal then .writeCal rest else .erase slot rest)
      (if isSave then .save else if isCal then .writeCal else .erase)
      (if isCal then none else some slot) (if isSave then s.store.saveBuf.map (·.revision) else none)
      (storeAfterWrite slot w rest first second isSave isCal s.store) s := by
  simp only [List.mem_cons, List.not_mem_nil, or_false] at h
  obtain h | h | h := h
  · simpa [endWordWrite, h] using saveWriteEnd_eq first second slot
  · simpa [endWordWrite, h] using eraseWriteEnd_eq first second slot
  · simpa [endWordWrite, h] using calWriteEnd_eq first second slot

section
variable {slot : Nat} (h : s.store.op ∈ [StoreOp.save slot (w :: rest), .erase slot (w :: rest), .writeCal (w :: rest)])
include h

theorem endWordWrite_store :
    let isSave := decide (s.store.op = .save slot (w :: rest))
    let isCal := decide (s.store.op = .writeCal (w :: rest))
    (endWordWrite first second s).store = { storeAfterWrite slot w rest first second isSave isCal s.store with
      op := if goesOn (writeSucceeds s.store.array w first second) rest then
          (if isSave then .save slot rest else if isCal then .writeCal rest else .erase slot rest)
        else .idle } :=
  (congrArg State.store (endWordWrite_eq first second h)).trans (proceed_store ..)

theorem endWordWrite_notices :
    let ok := writeSucceeds s.store.array w first second
    let isSave := decide (s.store.op = .save slot (w :: rest))
    let isCal := decide (s.store.op = .writeCal (w :: rest))
    (endWordWrite first second s).notices = if goesOn ok rest then s.notices else
      (post (.libraryDone (if isSave then .save else if isCal then .writeCal else .erase)
        (if isCal then none else some slot) (if ok then .ok else .writeFault)
        (if isSave then s.store.saveBuf.map (·.revision) else none)) s).notices :=
  (congrArg State.notices (endWordWrite_eq first second h)).trans (proceed_notices ..)

end

/-- R173, log entry 1: with no word write in progress its end changes nothing. -/
theorem endWordWrite_idle (h : s.store.op.writing = none) : endWordWrite first second s = s := by
  unfold endWordWrite
  split
  case h_1 hop => simp [StoreOp.writing, hop] at h
  case h_2 hop => simp [StoreOp.writing, hop] at h
  case h_3 hop => simp [StoreOp.writing, hop] at h
  all_goals rfl

end

/-- Settles O55: the word is written as the array's laws have it, and the operation goes on or ends over the store that the
write leaves. -/
theorem wordWritesAreMadeInOrder : Obligations.WordWritesAreMadeInOrder := by
  unfold Obligations.WordWritesAreMadeInOrder
  intro dt slot first second w rest s
  refine ⟨fun hidle => ?_, fun hm hw hslot hdir hop => ?_⟩
  · exact congrArg Host.Outcome.next (endWordWrite_idle (s := s.after dt) first second hidle)
  have hreach := endWordWrite_touches first second (s.after dt)
  have hstore := endWordWrite_store (s := s.after dt) first second hop
  have hnotices := endWordWrite_notices (s := s.after dt) first second hop
  refine ⟨endWordWrite first second (s.after dt), rfl, ?_, hreach .plan (by decide), hreach .engine (by decide),
    hreach .scale (by decide), hreach .panel (by decide), hreach .link (by decide)⟩
  generalize endWordWrite first second (s.after dt) = t at hstore hnotices ⊢
  intro ok isCal isSave op entry ended
  have hgoing : ok = true → rest ≠ [] → goesOn ok rest = true := fun hok hrest => by simp [goesOn, hok, hrest]
  have hended : ¬ goesOn ok rest = true → ended (if ok then .ok else .writeFault) := fun hgo =>
    ⟨(congrArg Store.op hstore).trans (if_neg hgo), hnotices.trans (if_neg hgo)⟩
  have hdirectory : t.store.directory = if isSave then
      s.store.directory.set slot (entryAfterWrite ok w second s.store.saveBuf entry) else s.store.directory :=
    congrArg Store.directory hstore
  have hentry : isSave = true →
      t.store.directory[slot]? = some (entryAfterWrite ok w second s.store.saveBuf entry) := fun hsave => by
    rw [hdirectory, if_pos hsave, List.getElem?_set_self (hdir ▸ hslot)]
  refine ⟨fun a => ?_, ?_, fun hok hrest => ⟨?_, ?_⟩, fun hok hrest => ?_, fun hok => ?_, fun other hother => ?_,
    fun hsave hrole => ?_, fun hsave hrole => ?_, fun hsave hok hrole => ?_, fun x hsave hok hrole hx => ?_,
    fun hsave => ?_, congrArg Store.calValid hstore⟩
  · exact (congrArg (Memory.read · a) (congrArg Store.array hstore)).trans (read_writtenArray hm hw first second a)
  · exact (congrArg (Memory.wf ·.array) hstore).trans (Memory.write_wf _ _ _ hm)
  · exact hnotices.trans (if_pos (hgoing hok hrest))
  · exact (congrArg Store.op hstore).trans (if_pos (hgoing hok hrest))
  · have h := hended (by simp [goesOn, hrest])
    rwa [if_pos hok] at h
  · have h := hended (by simp [goesOn, hok])
    rwa [hok] at h
  · rw [hdirectory]
    split
    · exact List.getElem?_set_ne (Ne.symm hother)
    · rfl
  · rw [hentry hsave, entryAfterWrite_counter _ _ _ _ hrole]
  · rw [hentry hsave]
    obtain hrole | ⟨hok, hrole⟩ := hrole
    · rw [entryAfterWrite_clearMarker _ _ _ _ hrole]; rfl
    · rw [hok, entryAfterWrite_failed _ _ _ hrole]; rfl
  · rw [hdirectory, if_pos hsave, hok, entryAfterWrite_plain _ _ _ hrole]
    exact s.store.set_entry_self slot
  · rw [hentry hsave, hok, entryAfterWrite_setMarker _ _ _ hrole, hx]
    rfl
  · rw [hdirectory, hsave]
    rfl

end Sys2Proof.Machine
end

section
/-! PROOFS. The byte layouts of R184, R197 and R198 (O12): each record is the concatenation of its fields, so a field stands
where the lengths of the fields before it add up. -/

namespace Sys2Proof.Machine

/-! ### Fields of a record -/

section
variable {fields : List (List Byte)} {lengths : List Nat} {f bytes : List Byte} {base n k : Nat}

/-- A field stands in the concatenation of all fields after those before it. -/
theorem field_stands (hlen : fields.map List.length = lengths) (i : Nat) (hf : fields[i]? = some f)
    (hn : (lengths.take i).sum = n) : f <+: fields.flatten.drop n := by
  obtain ⟨hi, rfl⟩ := List.getElem?_eq_some_iff.mp hf
  have hbefore : (fields.take i).flatten.length = n := by rw [List.length_flatten, List.map_take, hlen, hn]
  have hsplit : fields.flatten = (fields.take i).flatten ++ (fields.drop i).flatten := by
    rw [← List.flatten_append, List.take_append_drop]
  rw [hsplit, List.drop_left' hbefore, List.drop_eq_getElem_cons hi]
  exact ⟨_, rfl⟩

theorem take_of_stands (h : f <+: bytes) (hk : f.length = k) : bytes.take k = f := by
  obtain ⟨rest, rfl⟩ := h
  exact List.take_left' hk

/-- Field `i` of a record: its bytes stand where the lengths before it add up. -/
theorem field_eq (hlen : fields.map List.length = lengths) (i : Nat) (hf : fields[i]? = some f)
    (hn : (lengths.take i).sum = n) (hk : f.length = k) : (fields.flatten.drop n).take k = f :=
  take_of_stands (field_stands hlen i hf hn) hk

/-- Field `i` of a block that itself stands at `base`. -/
theorem block_field_eq (hblock : fields.flatten <+: bytes.drop base) (hlen : fields.map List.length = lengths) (i : Nat)
    (hf : fields[i]? = some f := by rfl) (hn : (lengths.take i).sum = n := by rfl) (hk : f.length = k := by rfl) :
    (bytes.drop (base + n)).take k = f :=
  take_of_stands (List.drop_drop ▸ (field_stands hlen i hf hn).trans (hblock.drop n)) hk

end

/-! ### The status record (R197) -/

/-- R197: the fields of the status record in order. -/
def statusFields (s : State) : List (List Byte) :=
  [byte s.engine.state.code, byte ((s.engine.endReason.map EndReason.code).getD 0),
   byte ((s.engine.firstTrip.map Detector.id).getD 255), byte s.engine.causes.code, le16 s.engine.trips.toNat,
   byte (s.liveIndex.getD 255), byte ((s.phase.map Phase.code).getD 255),
   byte (((s.engine.live.bind (·.returnPhase)).map Phase.code).getD 255),
   le32 ((s.engine.live.map (·.active)).getD 0), le32 s.engine.runClock, le16 s.plan.revision,
   byte s.plan.steps.length,
   sle32 s.scale.net, sle32 s.scale.gross, byte s.scale.status.code,
   byte (bit 0 s.scale.stable + bit 1 s.scale.lastSeq.isSome), byte s.scale.tare.length,
   le16 (s.scale.lastSeq.getD 0),
   sle16 s.conv.tb, sle16 s.conv.tc, byte (bit 0 s.conv.tbHeld + bit 1 s.conv.tcHeld), byte s.heat.mode.code,
   sle16 (s.heat.sp.getD 0), byte s.heat.frameW, byte s.heat.frameN, speedBytes s.stir.measured, le16 s.stir.applied,
   byte s.stir.drive.code,
   le16 s.mon.realTime.toNat, le16 s.mon.latchedSet.toNat, byte s.permit.state.code, byte s.store.op.code,
   byte (s.store.op.slot.getD 255), byte (if s.store.starting then 1 else 0), byte s.notices.panelQ.length,
   byte s.notices.linkQ.length]

theorem statusRecord_eq (s : State) : statusRecord s = (statusFields s).flatten := by
  simp only [statusRecord, engineBytes, scaleBytes, driveBytes, conditionBytes, statusFields, indexByte,
    List.flatten_cons, List.flatten_nil, List.append_assoc, List.append_nil]
  rfl

/-- R197: how many bytes each field of the status record has. -/
def statusLengths : List Nat :=
  [1, 1, 1, 1, 2, 1, 1, 1, 4, 4, 2, 1, 4, 4, 1, 1, 1, 2, 2, 2, 1, 1, 2, 1, 1, 2, 2, 1, 2, 2, 1, 1, 1, 1, 1, 1]

theorem statusFields_lengths (s : State) : (statusFields s).map List.length = statusLengths := rfl

theorem statusRecord_length (s : State) : (statusRecord s).length = 58 := by
  rw [statusRecord_eq, List.length_flatten, statusFields_lengths]
  rfl

theorem statusRecord_field {s : State} {f : List Byte} {n k : Nat} (i : Nat)
    (hf : (statusFields s)[i]? = some f := by rfl) (hn : (statusLengths.take i).sum = n := by rfl)
    (hk : f.length = k := by rfl) : ((statusRecord s).drop n).take k = f := by
  rw [statusRecord_eq]
  exact field_eq (statusFields_lengths s) i hf hn hk

/-- R197: measured speed stands as it is where two bytes hold it. -/
theorem speedBytes_of_lt {v : Nat} (h : v < 65536) : speedBytes v = le16 v := by rw [speedBytes, if_pos h]

/-! ### The run log entry (R198) -/

/-- R198: the fields of a run log entry in order. -/
def logFields (e : LogEntry) : List (List Byte) :=
  [byte e.index, le16 e.tag, byte e.kind.code, byte e.reason.code, le32 e.active, le32 e.pausedFor,
   sle32 (e.added.getD (-2147483648)), sle16 e.peak, byte e.flags.code]

theorem logBytes_eq (e : LogEntry) : e.bytes = (logFields e).flatten := by
  simp only [LogEntry.bytes, logFields, List.flatten_cons, List.flatten_nil, List.append_assoc, List.append_nil]

theorem logFields_lengths (e : LogEntry) : (logFields e).map List.length = [1, 2, 1, 1, 4, 4, 4, 2, 1] := rfl

theorem logBytes_length (e : LogEntry) : e.bytes.length = 20 := by
  rw [logBytes_eq, List.length_flatten, logFields_lengths]
  rfl

theorem logBytes_field {e : LogEntry} {f : List Byte} {n k : Nat} (i : Nat)
    (hf : (logFields e)[i]? = some f := by rfl) (hn : ([1, 2, 1, 1, 4, 4, 4, 2, 1].take i).sum = n := by rfl)
    (hk : f.length = k := by rfl) : (e.bytes.drop n).take k = f := by
  rw [logBytes_eq]
  exact field_eq (logFields_lengths e) i hf hn hk

/-! ### The body of LIB_INFO (R184) -/

/-- R184: the fields of a directory entry in order. -/
def entryFields (e : DirEntry) : List (List Byte) :=
  [byte (bit 0 e.valid), le16 e.planId, byte e.count, le16 e.saves, byte (bit 0 (wornFlag e.saves))]

theorem entryBytes_eq (e : DirEntry) : e.bytes = (entryFields e).flatten := by
  simp only [DirEntry.bytes, entryFields, List.flatten_cons, List.flatten_nil, List.append_assoc, List.append_nil]

theorem entryFields_lengths (e : DirEntry) : (entryFields e).map List.length = [1, 2, 1, 2, 1] := rfl

/-- R184: the fields of LIB_INFO's body after the directory. -/
def infoFields (st : Store) : List (List Byte) :=
  [byte (bit 0 st.calValid), byte st.op.code, byte (st.op.slot.getD 255), byte (bit 0 st.saveBuf.isSome),
   le16 ((st.saveBuf.map (·.revision)).getD 0)]

theorem infoFields_lengths (st : Store) : (infoFields st).map List.length = [1, 1, 1, 1, 2] := rfl

theorem infoBody_eq (st : Store) :
    infoBody st = (st.directory.map DirEntry.bytes).flatten ++ (infoFields st).flatten := by
  simp only [infoBody, infoFields, indexByte, List.flatten_cons, List.flatten_nil, List.append_assoc, List.append_nil]

/-- R184: every directory entry has seven bytes. -/
theorem directory_lengths (entries : List DirEntry) :
    (entries.map DirEntry.bytes).map List.length = List.replicate entries.length 7 := by
  rw [List.map_map]
  exact List.map_const (l := entries) (b := 7)

theorem directory_bytes_length (entries : List DirEntry) :
    (entries.map DirEntry.bytes).flatten.length = 7 * entries.length := by
  rw [List.length_flatten, directory_lengths, List.sum_replicate_nat, Nat.mul_comm]

/-- R184: the bytes of a slot's entry stand at its place in the body. -/
theorem entry_stands_in_infoBody {st : Store} {slot : Nat} {e : DirEntry} (he : st.directory[slot]? = some e) :
    (entryFields e).flatten <+: (infoBody st).drop (7 * slot) := by
  obtain ⟨hslot, _⟩ := List.getElem?_eq_some_iff.mp he
  have hbefore : ((List.replicate st.directory.length 7).take slot).sum = 7 * slot := by
    rw [List.take_replicate, min_eq_left hslot.le, List.sum_replicate_nat, Nat.mul_comm]
  have hentry := field_stands (directory_lengths st.directory) slot (by rw [List.getElem?_map, he]; rfl) hbefore
  rw [← entryBytes_eq, infoBody_eq]
  exact hentry.trans (List.IsPrefix.drop ⟨_, rfl⟩ _)

/-- R184: the six bytes after the eight entries. -/
theorem infoFields_stand_in_infoBody {st : Store} (h : st.directory.length = 8) :
    (infoFields st).flatten <+: (infoBody st).drop 56 := by
  rw [infoBody_eq, List.drop_left' (by rw [directory_bytes_length, h])]

theorem infoBody_length {st : Store} (h : st.directory.length = 8) : (infoBody st).length = 62 := by
  rw [infoBody_eq, List.length_append, directory_bytes_length, h]
  rfl

/-- Settles O12: each field by its place among the fields of its record. -/
theorem statusRecordLayout : Obligations.StatusRecordLayout := by
  unfold Obligations.StatusRecordLayout
  refine ⟨fun s => ?_, fun e => ?_, fun s hdir => ?_⟩
  · refine ⟨statusRecord_length s, statusRecord_field 0, statusRecord_field 1, statusRecord_field 2, statusRecord_field 3,
      statusRecord_field 4, statusRecord_field 5, statusRecord_field 6, statusRecord_field 7, statusRecord_field 8,
      statusRecord_field 9, statusRecord_field 10, statusRecord_field 11, statusRecord_field 12, statusRecord_field 13,
      statusRecord_field 14, statusRecord_field 15, statusRecord_field 16, statusRecord_field 17, statusRecord_field 18,
      statusRecord_field 19, statusRecord_field 20, statusRecord_field 21, statusRecord_field 22, statusRecord_field 23,
      statusRecord_field 24, fun hspeed => (statusRecord_field 25).trans (speedBytes_of_lt hspeed),
      statusRecord_field 26, statusRecord_field 27, statusRecord_field 28, statusRecord_field 29, statusRecord_field 30,
      statusRecord_field 31, statusRecord_field 32, statusRecord_field 33, statusRecord_field 34, statusRecord_field 35⟩
  · refine ⟨logBytes_length e, logBytes_field 0, logBytes_field 1, logBytes_field 2,
      (logBytes_field 3).trans (by cases e.reason <;> rfl), logBytes_field 4, logBytes_field 5, logBytes_field 6,
      logBytes_field 7, logBytes_field 8⟩
  · have hinfo := infoFields_stand_in_infoBody hdir
    have hlens := infoFields_lengths s.store
    refine ⟨infoBody_length hdir, fun slot e he => ?_, block_field_eq hinfo hlens 0,
      block_field_eq hinfo hlens 1, block_field_eq hinfo hlens 2, block_field_eq hinfo hlens 3, fun x hx => ?_, fun hx => ?_⟩
    · have hentry := entry_stands_in_infoBody he
      have hlens := entryFields_lengths e
      refine ⟨block_field_eq hentry hlens 0, block_field_eq hentry hlens 1, block_field_eq hentry hlens 2,
        block_field_eq hentry hlens 3, (block_field_eq hentry hlens 4).trans ?_⟩
      simp only [bit, wornFlag, decide_eq_true_eq, pow_zero]
    all_goals
      refine (block_field_eq hinfo hlens 4).trans ?_
      rw [hx]
      rfl

end Sys2Proof.Machine
end

section
/-! PROOFS. What a posting makes of a notice queue (R200), and that no operation of the part changes the queues otherwise (O53):
each either leaves the Notice Unit or posts notices of a kind that both queues may hold. -/

namespace Sys2Proof.Machine

/-! ### One queue -/

/-- R200: the record of a kind that is posted for the first time. -/
def NoticeRec.fresh (uptime : Nat) (n : Notice) : NoticeRec :=
  { data := n, count := 1, first := uptime, last := uptime }

/-- R200: a queued record after another notice of its kind. -/
def NoticeRec.repeated (uptime : Nat) (n : Notice) (r : NoticeRec) : NoticeRec :=
  { data := mergeNotice r.data n, count := min (r.count + 1) 255, first := r.first, last := uptime }

@[simp] theorem mergeNotice_code (old new : Notice) : (mergeNotice old new).code = new.code := by
  unfold mergeNotice
  split <;> rfl

/-- R200: a kind other than CONDITION and TRIP takes the newest data. -/
theorem mergeNotice_newest {old new : Notice} (hc : new.code ≠ 8) (ht : new.code ≠ 9) : mergeNotice old new = new := by
  unfold mergeNotice
  split
  · exact absurd rfl hc
  · exact absurd rfl ht
  · rfl

theorem enqueue_of_new {uptime : Nat} {n : Notice} {q : List NoticeRec} (h : ∀ r ∈ q, r.data.code ≠ n.code) :
    enqueue uptime n q = q ++ [.fresh uptime n] := by
  induction q with
  | nil => rfl
  | cons r rest ih =>
    rw [enqueue, if_neg (h r List.mem_cons_self), ih fun x hx => h x (List.mem_cons_of_mem r hx), List.cons_append]

theorem enqueue_of_queued {uptime : Nat} {n : Notice} {a b : List NoticeRec} {r : NoticeRec}
    (ha : ∀ x ∈ a, x.data.code ≠ n.code) (hr : r.data.code = n.code) :
    enqueue uptime n (a ++ r :: b) = a ++ r.repeated uptime n :: b := by
  induction a with
  | nil => rw [List.nil_append, enqueue, if_pos hr, List.nil_append]; rfl
  | cons x rest ih =>
    rw [List.cons_append, enqueue, if_neg (ha x List.mem_cons_self), ih fun y hy => ha y (List.mem_cons_of_mem x hy),
      List.cons_append]

theorem queueSafe_iff (q : List NoticeRec) : queueSafe q = true ↔
    (q.map (·.data.code)).Nodup ∧ ∀ r ∈ q, 1 ≤ r.count ∧ r.count ≤ 255 := by
  simp only [queueSafe, Bool.and_eq_true, decide_eq_true_eq, List.all_eq_true]

/-- Of a queue that holds one notice of a kind, no record before one of that kind has it. -/
theorem code_ne_of_before {a b : List NoticeRec} {r x : NoticeRec} (h : ((a ++ r :: b).map (·.data.code)).Nodup)
    (hx : x ∈ a) : x.data.code ≠ r.data.code := by
  rw [List.map_append, List.map_cons] at h
  exact (List.nodup_append.mp h).2.2 _ (List.mem_map_of_mem hx) _ List.mem_cons_self

/-- R200: a posting joins its record at the end of a queue that lacks its kind, or renews the one record of its kind in
its place. -/
theorem enqueue_cases (uptime : Nat) (n : Notice) {q : List NoticeRec} (h : (q.map (·.data.code)).Nodup) :
    (∀ r ∈ q, r.data.code ≠ n.code) ∧ enqueue uptime n q = q ++ [.fresh uptime n]
      ∨ ∃ a r b, q = a ++ r :: b ∧ r.data.code = n.code ∧ enqueue uptime n q = a ++ r.repeated uptime n :: b := by
  by_cases hnew : ∀ r ∈ q, r.data.code ≠ n.code
  · exact .inl ⟨hnew, enqueue_of_new hnew⟩
  · push Not at hnew
    obtain ⟨r, hr, hcode⟩ := hnew
    obtain ⟨a, b, rfl⟩ := List.append_of_mem hr
    exact .inr ⟨a, r, b, rfl, hcode, enqueue_of_queued (fun x hx => hcode ▸ code_ne_of_before h hx) hcode⟩

theorem enqueue_queueSafe (uptime : Nat) (n : Notice) {q : List NoticeRec} (h : queueSafe q = true) :
    queueSafe (enqueue uptime n q) = true := by
  rw [queueSafe_iff] at h ⊢
  obtain ⟨hkinds, hcounts⟩ := h
  obtain ⟨hnew, he⟩ | ⟨a, r, b, rfl, hcode, he⟩ := enqueue_cases uptime n hkinds
  all_goals rw [he]
  · refine ⟨?_, fun x hx => ?_⟩
    · rw [List.map_append, List.nodup_append]
      refine ⟨hkinds, List.nodup_singleton _, fun c hc d hd => ?_⟩
      obtain ⟨x, hx, rfl⟩ := List.mem_map.mp hc
      rw [List.mem_singleton.mp hd]
      exact hnew x hx
    · obtain hx | hx := List.mem_append.mp hx
      · exact hcounts x hx
      · rw [List.mem_singleton.mp hx]
        exact ⟨le_rfl, by simp [NoticeRec.fresh]⟩
  · have hsame : (r.repeated uptime n).data.code = r.data.code := by rw [hcode]; exact mergeNotice_code _ _
    refine ⟨by simpa [hsame] using hkinds, fun x hx => ?_⟩
    obtain hx | hx := List.mem_append.mp hx
    · exact hcounts x (List.mem_append_left _ hx)
    · obtain rfl | hx := List.mem_cons.mp hx
      · simp only [NoticeRec.repeated]
        omega
      · exact hcounts x (List.mem_append_right _ (List.mem_cons_of_mem r hx))

/-- R200: a posting puts no kind into a queue but its own. -/
theorem code_ne_of_mem_enqueue {uptime k : Nat} {n : Notice} {q : List NoticeRec} (hn : n.code ≠ k)
    (h : ∀ r ∈ q, r.data.code ≠ k) : ∀ r ∈ enqueue uptime n q, r.data.code ≠ k := by
  induction q with
  | nil => exact fun r hr => by rw [List.mem_singleton.mp hr]; exact hn
  | cons x rest ih =>
    have hrest : ∀ r ∈ rest, r.data.code ≠ k := fun r hr => h r (List.mem_cons_of_mem x hr)
    unfold enqueue
    split
    · intro r hr
      obtain rfl | hr := List.mem_cons.mp hr
      · rwa [mergeNotice_code]
      · exact hrest r hr
    · intro r hr
      obtain rfl | hr := List.mem_cons.mp hr
      · exact h r List.mem_cons_self
      · exact ih hrest r hr

/-! ### Both queues -/

/-- R199, R200: the invariant of O53, clause by clause. -/
structure State.NoticesOk (s : State) : Prop where
  panel : queueSafe s.notices.panelQ = true
  link : queueSafe s.notices.linkQ = true
  due : ∀ r ∈ s.notices.linkQ, r.data.code ≠ 11

theorem State.noticesSafe_iff (s : State) : s.notices.safe = true ↔ s.NoticesOk := by
  simp only [Notices.safe, Bool.and_eq_true, List.all_eq_true, decide_eq_true_eq]
  exact ⟨fun ⟨⟨hp, hl⟩, hd⟩ => ⟨hp, hl, hd⟩, fun ⟨hp, hl, hd⟩ => ⟨⟨hp, hl⟩, hd⟩⟩

theorem postTo_queueSafe (mask : Word16) (uptime : Nat) (n : Notice) {q : List NoticeRec} (h : queueSafe q = true) :
    queueSafe (postTo mask uptime n q) = true := by
  unfold postTo
  split
  · exact enqueue_queueSafe uptime n h
  · exact h

theorem code_ne_of_mem_postTo {mask : Word16} {uptime k : Nat} {n : Notice} {q : List NoticeRec} (hn : n.code ≠ k)
    (h : ∀ r ∈ q, r.data.code ≠ k) : ∀ r ∈ postTo mask uptime n q, r.data.code ≠ k := by
  unfold postTo
  split
  · exact code_ne_of_mem_enqueue hn h
  · exact h

theorem State.NoticesOk.ite {a b : State} (c : Prop) [Decidable c] (ha : a.NoticesOk) (hb : b.NoticesOk) :
    (if c then a else b).NoticesOk := by
  split
  · exact ha
  · exact hb

section
variable {s t : State} (h : s.NoticesOk)
include h

/-- A posting of any kind but PERMIT_DUE. -/
theorem State.NoticesOk.post {n : Notice} (hn : (n.code == 11) = false) : (post n s).NoticesOk where
  panel := postTo_queueSafe _ _ n h.panel
  link := postTo_queueSafe _ _ n h.link
  due := code_ne_of_mem_postTo (by simpa using hn) h.due

theorem State.NoticesOk.postPanel (n : Notice) : (postPanel n s).NoticesOk where
  panel := postTo_queueSafe _ _ n h.panel
  link := h.link
  due := h.due

/-- A change outside the Notice Unit. -/
theorem State.NoticesOk.congr (hn : t.notices = s.notices) : t.NoticesOk :=
  ⟨hn ▸ h.panel, hn ▸ h.link, hn ▸ h.due⟩

theorem State.NoticesOk.touches {ts : List Block} (k : Touches ts s t) (hn : ts.contains .notices = false) :
    t.NoticesOk :=
  h.congr (k .notices (by simpa using hn))
end

/-! ### The Step Engine's operations -/

/-- R27: the entry actions leave the Notice Unit. -/
theorem entryActions_notices (s : State) : (entryActions s).notices = s.notices := tellWish_touches _ _ .notices (by decide)

section
variable {s : State} (h : s.NoticesOk)
include h

theorem postEngineState_noticesOk : (postEngineState s).NoticesOk := h.post rfl

theorem entryActions_noticesOk : (entryActions s).NoticesOk := h.congr (entryActions_notices s)

theorem enterPaused_noticesOk (c : CauseSet) : (enterPaused c s).NoticesOk :=
  postEngineState_noticesOk (entryActions_noticesOk (h.touches (withEngine_touches _ s) rfl))

theorem enterEnded_noticesOk (r : EndReason) : (enterEnded r s).NoticesOk :=
  postEngineState_noticesOk
    ((entryActions_noticesOk (h.touches (withEngine_touches _ s) rfl)).touches (withHeat_touches _ _) rfl)

theorem enterTripped_noticesOk (d : Detector) : (enterTripped d s).NoticesOk :=
  postEngineState_noticesOk ((entryActions_noticesOk (h.touches (withEngine_touches _ s) rfl)).post rfl)

theorem joinTrip_noticesOk (d : Detector) : (joinTrip d s).NoticesOk :=
  .ite _ h (postEngineState_noticesOk ((h.touches (withEngine_touches _ s) rfl).post rfl))

theorem takeTrip_noticesOk (d : Detector) : (takeTrip d s).NoticesOk := by
  unfold takeTrip
  split
  · split
    · exact enterTripped_noticesOk h d
    · exact .ite _ h (enterTripped_noticesOk h d)
    · exact .ite _ h (joinTrip_noticesOk h d)
    · exact h
    · exact h
  · exact h

theorem judgeAndPost_noticesOk : (judgeAndPost s).NoticesOk := .ite _ ((h.touches (withHeat_touches _ s) rfl).post rfl) h

theorem handOver_noticesOk (r : StepRecord) : (handOver r s).NoticesOk :=
  ((judgeAndPost_noticesOk ((h.touches (syncHold_touches s) rfl).touches (withHeat_touches _ _) rfl)).touches
    (withStir_touches _ _) rfl).touches (syncWish_touches _) rfl

theorem announceStep_noticesOk (i : Nat) (r : StepRecord) (f : Bool) : (announceStep i r f s).NoticesOk :=
  .ite _ ((h.post rfl).post rfl) (h.post rfl)

theorem enterStep_noticesOk (i : Nat) (r : StepRecord) : (enterStep i r s).NoticesOk :=
  have hentered : (steppedInto i r s).NoticesOk :=
    announceStep_noticesOk (handOver_noticesOk (h.touches withNewLive_reach rfl) r) i r _
  .ite _ (enterTripped_noticesOk hentered _) hentered

theorem closeStep_noticesOk (e : StepEnd) : (closeStep e s).NoticesOk := by
  unfold closeStep
  split
  · exact (h.touches (withEngine_touches _ s) rfl).post rfl
  · exact h

omit h in
theorem endStepAt_noticesOk : ∀ (rest : List StepRecord) (i : Nat) (e : StepEnd) {s : State}, s.NoticesOk →
    (endStepAt rest i e s).NoticesOk
  | [], _, e, _, h => enterEnded_noticesOk (closeStep_noticesOk h e) _
  | r :: rest, i, e, s, h => by
    have hentered := enterStep_noticesOk (closeStep_noticesOk h e) (i + 1) r
    have hcome := hentered.touches (comeIn_touches _) rfl
    unfold endStepAt
    dsimp only
    split
    · split
      next heq => rwa [heq] at hcome
      next heq =>
        rw [heq] at hcome
        exact endStepAt_noticesOk rest (i + 1) _ hcome
    · exact hentered

theorem endStep_noticesOk (e : StepEnd) : (endStep e s).NoticesOk := by
  unfold endStep
  split
  · exact endStepAt_noticesOk _ _ e h
  · exact h

/-- What a phase check found is taken, over a change of the live step alone. -/
theorem settleOutcome_noticesOk {o : State × Option StepEnd} (k : Touches [.engine] s o.1) :
    (settleOutcome o).NoticesOk := by
  have hcome := h.touches k rfl
  unfold settleOutcome
  split
  · exact endStep_noticesOk hcome _
  · exact hcome

/-! ### Events that reach the engine -/

theorem takeLockConfirmation_noticesOk : (takeLockConfirmation s).NoticesOk :=
  .ite _ (settleOutcome_noticesOk h ((passLocking_touches s).trans (comeIntoPhase_touches _))) h

theorem takeTempReached_noticesOk : (takeTempReached s).NoticesOk := by
  unfold takeTempReached
  split
  · refine .ite _ (.ite _ (endStep_noticesOk h _) (.ite _ ?_ h)) h
    exact settleOutcome_noticesOk h ((toPhase_touches _ s).trans (phaseChecks_touches _))
  · exact h

theorem takeBoil_noticesOk (b : Bool) : (takeBoil b s).NoticesOk := by
  have hheld := h.touches (syncHold_touches s) rfl
  unfold takeBoil
  dsimp only
  split
  · exact .ite _ (endStep_noticesOk hheld _) hheld
  · exact hheld

theorem takeLidOpen_noticesOk : (takeLidOpen s).NoticesOk := .ite _ (enterPaused_noticesOk h _) h

theorem takeLidClosed_noticesOk : (takeLidClosed s).NoticesOk :=
  .ite _ (postEngineState_noticesOk (h.touches (withEngine_touches _ s) rfl)) h

theorem takeLapse_noticesOk : (takeLapse s).NoticesOk := by
  unfold takeLapse
  split
  · exact enterPaused_noticesOk h _
  · exact .ite _ h (postEngineState_noticesOk (h.touches (withEngine_touches _ s) rfl))
  all_goals exact h

theorem takeRearm_noticesOk : (takeRearm s).NoticesOk :=
  .ite _ (postEngineState_noticesOk (h.touches (withEngine_touches _ s) rfl)) h

theorem takeReference_noticesOk (net : Int) (u : Bool) : (takeReference net u s).NoticesOk :=
  settleOutcome_noticesOk h ((mapLive_touches _ s).trans (comeIntoPhase_touches _))

/-- R40: a comparison in DOSING notes what was added, and may end the step. -/
theorem compareDose_noticesOk (added target10 : Int) (l : Live) : (compareDose added target10 l s).NoticesOk :=
  have hnoted : (noteAdded added target10 l.index l s).NoticesOk :=
    .ite _ ((h.touches (mapLive_touches _ s) rfl).post rfl) (h.touches (mapLive_touches _ s) rfl)
  have hover : (noteOverdose added target10 l.index (noteAdded added target10 l.index l s)).NoticesOk :=
    .ite _ ((hnoted.touches (mapLive_touches _ _) rfl).post rfl) hnoted
  .ite _ (endStep_noticesOk hover _) hnoted

theorem takeWeight_noticesOk (net : Int) (b : Bool) : (takeWeight net b s).NoticesOk := by
  unfold takeWeight
  split
  · split
    · split
      · exact .ite _ (takeReference_noticesOk h net false) h
      · split
        · exact compareDose_noticesOk h _ _ _
        · exact h
      all_goals exact h
    · exact h
  · exact h

theorem adoptHeat_noticesOk (r : StepRecord) : (adoptHeat r s).NoticesOk :=
  .ite _ (judgeAndPost_noticesOk (h.touches (withHeat_touches _ s) rfl)) (h.touches (withHeat_touches _ s) rfl)

theorem adoptPrompt_noticesOk (old r : StepRecord) : (adoptPrompt old r s).NoticesOk := by
  unfold adoptPrompt
  split
  · exact .ite _ (h.post rfl) h
  · exact h

/-- R54 to R56: an adoption hands the fields over, and may trip the run or end the step. -/
theorem adoptStep_noticesOk (old r : StepRecord) : (adoptStep old r s).NoticesOk :=
  have hheat := adoptHeat_noticesOk (h.touches (syncHold_touches s) rfl) r
  have htaken : (takenOver old r s).NoticesOk :=
    (adoptPrompt_noticesOk (hheat.touches (withStir_touches _ _) rfl) old r).touches (adoptTarget_touches old r _) rfl
  have hover : (adoptHandOver old r s).NoticesOk := .ite _ (takeTrip_noticesOk htaken _) htaken
  .ite _
    (.ite _ (settleOutcome_noticesOk hover ((toPhase_touches _ _).trans (phaseChecks_touches _)))
      (settleOutcome_noticesOk hover (phaseChecks_touches _)))
    (hover.touches (keepAdopted_touches r _) rfl)

/-! ### Detectors, deliveries and samples -/

theorem reportChange_noticesOk (d : Detector) (b : Bool) : (reportChange d b s).NoticesOk := by
  have htrip : ∀ d, (if b = true then takeTrip d s else s).NoticesOk := fun d => .ite _ (takeTrip_noticesOk h d) h
  cases d
  case lidOpen =>
    exact State.NoticesOk.touches (.ite _ (takeLidOpen_noticesOk h) (takeLidClosed_noticesOk h)) (tellLidOpen_touches b _)
      rfl
  case boil => exact takeBoil_noticesOk h b
  case overload => exact h.touches (withStir_touches _ s) rfl
  case supplyLow => exact h.touches (withHeat_touches _ s) rfl
  all_goals exact htrip _

theorem changeDetector_noticesOk (d : Detector) (b : Bool) : (changeDetector d b s).NoticesOk :=
  reportChange_noticesOk ((h.touches (withMon_touches _ s) rfl).post rfl) d b

theorem detectorInput_noticesOk (d : Detector) (q : Qualifies) : (detectorInput d q s).NoticesOk :=
  .ite _ (changeDetector_noticesOk h d _) (h.touches (withMon_touches _ s) rfl)

theorem stallCurrentInput_noticesOk (b : Band) : (stallCurrentInput b s).NoticesOk :=
  .ite _ h (.ite _ (.ite _ (changeDetector_noticesOk h _ _) (h.touches (withMon_touches _ s) rfl))
    (h.touches (withMon_touches _ s) rfl))

theorem judgeDelivered_noticesOk : (judgeDelivered s).NoticesOk :=
  .ite _ ((takeTempReached_noticesOk (h.touches (withHeat_touches _ s) rfl)).post rfl) h

/-- R74: TB reaches the detectors, the engine, the Heat Unit and the Stir Unit. -/
theorem deliverTb_noticesOk (code : Nat) : (deliverTb code s).NoticesOk := by
  unfold deliverTb
  dsimp only
  generalize hx : s.withConv _ = x
  have hconv : x.NoticesOk := hx ▸ h.touches (withConv_touches _ s) rfl
  have hprobe : (probeInput .probeB (plausible code) (implausibleCount x.conv.tbHist) x).NoticesOk :=
    detectorInput_noticesOk hconv _ _
  have hpan := detectorInput_noticesOk hprobe .dryPan (aboveAsserts (bandTb x.conv.tb))
  have hjudged := fun f heat => judgeDelivered_noticesOk
    ((hpan.touches (mapLive_touches f _) rfl).touches (withHeat_touches heat _) rfl)
  exact (hjudged _ _).touches (withStir_touches _ _) rfl

theorem deliverSense_noticesOk (ch : Channel) (code : Nat) : (deliverSense ch code s).NoticesOk := by
  have hconv : ∀ x, (s.withConv x).NoticesOk := fun x => h.touches (withConv_touches x s) rfl
  unfold deliverSense
  split
  · exact h
  · split
    · exact deliverTb_noticesOk h code
    · exact detectorInput_noticesOk (detectorInput_noticesOk (hconv _) _ _) _ _
    · exact (stallCurrentInput_noticesOk (hconv _) _).touches (withStir_touches _ _) rfl
    · exact detectorInput_noticesOk (hconv _) _ _

theorem bandInputs_noticesOk : (bandInputs s).NoticesOk :=
  .ite _ h (detectorInput_noticesOk (detectorInput_noticesOk h _ _) _ _)

theorem endTare_noticesOk (r : Result) : (endTare r s).NoticesOk := by
  unfold endTare
  split
  · exact (h.touches (withScale_touches _ s) rfl).touches (answerPending_touches _ _ _) rfl
  · exact h

theorem endCapture_noticesOk (r : Result) : (endCapture r s).NoticesOk := by
  unfold endCapture
  split
  · exact (h.touches (withScale_touches _ s) rfl).touches (answerPending_touches _ _ _) rfl
  · exact h

/-- R98: a change of calibration posts TARE_CHANGED where the stack held a level, and SCALE_EVENT. -/
theorem changeCalibration_noticesOk (c : Calibration) : (changeCalibration c s).NoticesOk := by
  have hended := endTare_noticesOk (h.touches (withScale_touches { s.scale with cal := c } s) rfl) .aborted
  have hcleared : (clearTareForCalibration (endTare .aborted (s.withScale { s.scale with cal := c }))).NoticesOk :=
    .ite _ hended ((hended.touches (withScale_touches _ _) rfl).post rfl)
  exact (hcleared.touches (withScale_touches _ _) rfl).post rfl

theorem completeCapture_noticesOk (body : CaptureBody) (avg : Int) : (completeCapture body avg s).NoticesOk := by
  have hset : ∀ c, (changeCalibration c (s.withScale { s.scale with pendingCapture := none })).NoticesOk := fun c =>
    changeCalibration_noticesOk (h.touches (withScale_touches _ s) rfl) c
  cases body
  case zero => exact (hset _).touches (answerPending_touches _ _ _) rfl
  case span =>
    exact .ite _ (endCapture_noticesOk h _) (.ite _ (endCapture_noticesOk h _)
      ((hset _).touches (answerPending_touches _ _ _) rfl))

theorem captureSample_noticesOk (x : Sample) : (captureSample x s).NoticesOk := by
  unfold captureSample
  split
  · exact h
  · exact .ite _ (endCapture_noticesOk h _) (.ite _ (completeCapture_noticesOk h _ _) (h.touches (withScale_touches _ s) rfl))

theorem tareSample_noticesOk (x : Sample) : (tareSample x s).NoticesOk := by
  unfold tareSample
  split
  · exact h
  · exact .ite _ (((h.touches (withScale_touches _ s) rfl).post rfl).touches (answerPending_touches _ _ _) rfl) h

theorem takeSample_noticesOk (x : Sample) : (takeSample x s).NoticesOk :=
  have hchain : (chained x s).NoticesOk :=
    .ite _ (h.touches (withScale_touches _ s) rfl) ((h.touches (withScale_touches _ s) rfl).post rfl)
  tareSample_noticesOk (takeWeight_noticesOk (captureSample_noticesOk (bandInputs_noticesOk hchain) x) _ _) x

/-! ### The requests' owners -/

theorem acceptEdit_noticesOk (p : Port) (planId : Nat) (steps : List StepRecord) :
    (acceptEdit p planId steps s).NoticesOk := (h.touches (withPlan_touches _ s) rfl).post rfl

theorem serveEdit_noticesOk (p : Port) {r : Request} (hr : editsPlan r = true) : (serveRequest p r s).1.NoticesOk := by
  have hedit := acceptEdit_noticesOk h p
  cases r
  case insertStep rev i raw =>
    obtain he | ⟨_, _, _, _, _, _, he⟩ := serveInsertStep_cases p rev i raw s
    all_goals rw [serveRequest, he]
    · exact h
    · exact hedit _ _
  case replaceStep rev i raw =>
    obtain he | ⟨old, q, _, _, _, _, _, he⟩ := serveReplaceStep_cases p rev i raw s
    all_goals rw [serveRequest, he]
    · exact h
    · exact .ite _ (adoptStep_noticesOk (hedit _ _) old q.stored) (hedit _ _)
  case removeStep rev i =>
    obtain he | ⟨_, _, _, he⟩ := serveRemoveStep_cases p rev i s
    all_goals rw [serveRequest, he]
    · exact h
    · exact hedit _ _
  case clearPlan rev =>
    obtain he | ⟨_, _, he⟩ := serveClearPlan_cases p rev s
    all_goals rw [serveRequest, he]
    · exact h
    · exact hedit _ _
  case setPlanId rev i =>
    obtain he | ⟨_, he⟩ := serveSetPlanId_cases p rev i s
    all_goals rw [serveRequest, he]
    · exact h
    · exact hedit _ _
  all_goals cases hr

theorem beginRun_noticesOk (i : Nat) (r : StepRecord) : (beginRun i r s).NoticesOk := by
  have hfresh : (freshRun s).NoticesOk := (endCapture_noticesOk h .aborted).touches (withEngine_touches _ _) rfl
  have hentered := enterStep_noticesOk (hfresh.post (n := .engineState .running (some i) 0) rfl) i r
  rw [beginRun_eq]
  exact .ite _ (settleOutcome_noticesOk hentered (comeIn_touches _)) hentered

theorem serveStartRun_noticesOk (rev i : Nat) : (serveStartRun rev i s).1.NoticesOk := by
  obtain he | ⟨r, _, _, _, he⟩ := serveStartRun_cases rev i s
  all_goals rw [he]
  · exact h
  · exact beginRun_noticesOk h i r

theorem servePause_noticesOk : (servePause s).1.NoticesOk := by
  unfold servePause
  split
  · exact enterPaused_noticesOk h _
  all_goals exact h

theorem serveResume_noticesOk : (serveResume s).1.NoticesOk := by
  have hrunning : (setRunning s).NoticesOk := (h.touches (withEngine_touches _ s) rfl).touches (withHeat_touches _ _) rfl
  have hback : (backRunning s).NoticesOk :=
    postEngineState_noticesOk ((hrunning.touches (syncHold_touches _) rfl).touches (syncWish_touches _) rfl)
  have hresumed : (resumeRun s).NoticesOk := settleOutcome_noticesOk hback (comeIn_touches _)
  unfold serveResume
  split_ifs
  case neg => exact hresumed
  all_goals exact h

theorem serveAbort_noticesOk : (serveAbort s).1.NoticesOk := by
  unfold serveAbort
  split
  · exact enterEnded_noticesOk (closeStep_noticesOk h _) _
  · exact h

theorem serveSkipStep_noticesOk (i : Nat) : (serveSkipStep i s).1.NoticesOk := by
  unfold serveSkipStep
  split_ifs
  case neg => exact endStep_noticesOk h _
  all_goals exact h

theorem serveConfirm_noticesOk (i : Nat) : (serveConfirm i s).1.NoticesOk := by
  unfold serveConfirm
  split_ifs
  · exact h
  · exact h
  · exact h
  · exact endStep_noticesOk h _
  · exact h

theorem serveClearTrip_noticesOk : (serveClearTrip s).1.NoticesOk := by
  unfold serveClearTrip
  split_ifs
  case neg => exact enterPaused_noticesOk h _
  all_goals exact h

/-- R203: the oldest notice of a queue leaves it. -/
theorem serveTakeNotice_noticesOk (p : Port) : (serveTakeNotice p s).1.NoticesOk := by
  have htail : ∀ {r : NoticeRec} {rest : List NoticeRec}, queueSafe (r :: rest) = true → queueSafe rest = true := by
    intro r rest hq
    rw [queueSafe_iff] at hq ⊢
    exact ⟨(List.nodup_cons.mp hq.1).2, fun x hx => hq.2 x (List.mem_cons_of_mem r hx)⟩
  unfold serveTakeNotice
  split
  · exact h
  · rename_i r rest hq
    cases p
    case panel =>
      have hpanel : s.notices.panelQ = r :: rest := hq
      exact ⟨htail (hpanel ▸ h.panel), h.link, h.due⟩
    case link =>
      have hlink : s.notices.linkQ = r :: rest := hq
      exact ⟨h.panel, htail (hlink ▸ h.link), fun x hx => h.due x (hlink ▸ List.mem_cons_of_mem r hx)⟩

theorem serveSetNoticeMask_noticesOk (p : Port) (m : Word16) : (serveSetNoticeMask p m s).1.NoticesOk := by
  cases p <;> exact ⟨h.panel, h.link, h.due⟩

theorem beginCapture_noticesOk (body : CaptureBody) (b : Bool) : (beginCapture body b s).1.NoticesOk := by
  unfold beginCapture
  split_ifs
  case neg => exact h.touches (withScale_touches _ s) rfl
  all_goals exact h

theorem serveTarePush_noticesOk (p : Port) : (serveTarePush p s).1.NoticesOk := by
  unfold serveTarePush
  split_ifs
  case neg => exact h.touches (withScale_touches _ s) rfl
  all_goals exact h

theorem serveTarePop_noticesOk (p : Port) : (serveTarePop p s).1.NoticesOk := by
  unfold serveTarePop
  split_ifs
  case neg => exact (h.touches (withScale_touches _ s) rfl).post rfl
  all_goals exact h

theorem serveTareClear_noticesOk (p : Port) : (serveTareClear p s).1.NoticesOk := by
  unfold serveTareClear
  split_ifs
  · exact h
  · exact (h.touches (withScale_touches _ s) rfl).post rfl

theorem serveRestartScale_noticesOk : (serveRestartScale s).1.NoticesOk :=
  have hended : (endCapture .aborted (endTare .aborted (s.withScale (restartScale s.scale)))).NoticesOk :=
    endCapture_noticesOk (endTare_noticesOk (h.touches (withScale_touches _ s) rfl) _) _
  .ite _ hended (hended.post rfl)

theorem lapsePermit_noticesOk (r : LapseReason) : (lapsePermit r s).NoticesOk :=
  takeLapse_noticesOk ((h.touches (withPermit_touches _ s) rfl).post rfl)

/-- Every owner of a request keeps the queues. -/
theorem serveRequest_noticesOk (p : Port) (r : Request) : (serveRequest p r s).1.NoticesOk := by
  cases r
  case readStatus => exact h
  case takeNotice => exact serveTakeNotice_noticesOk h p
  case setNoticeMask m => exact serveSetNoticeMask_noticesOk h p m
  case readPlanHeader => exact h
  case readStep i => exact h.touches (serveReadStep_touches i s) rfl
  case insertStep => exact serveEdit_noticesOk h p rfl
  case replaceStep => exact serveEdit_noticesOk h p rfl
  case removeStep => exact serveEdit_noticesOk h p rfl
  case clearPlan => exact serveEdit_noticesOk h p rfl
  case setPlanId => exact serveEdit_noticesOk h p rfl
  case startRun rev i => exact serveStartRun_noticesOk h rev i
  case pause => exact servePause_noticesOk h
  case resume => exact serveResume_noticesOk h
  case abort => exact serveAbort_noticesOk h
  case skipStep i => exact serveSkipStep_noticesOk h i
  case confirm i => exact serveConfirm_noticesOk h i
  case clearTrip => exact serveClearTrip_noticesOk h
  case readRunLog i => exact h.touches (serveReadRunLog_touches i s) rfl
  case tarePush => exact serveTarePush_noticesOk h p
  case tarePop => exact serveTarePop_noticesOk h p
  case tareClear => exact serveTareClear_noticesOk h p
  case restartScale => exact serveRestartScale_noticesOk h
  case calZero => exact beginCapture_noticesOk h _ _
  case calSpan => exact beginCapture_noticesOk h _ _
  case readCal => exact h
  case permit key =>
    exact servePermit_keeps h (fun r _ => lapsePermit_noticesOk h r) (fun _ => h.touches (withPermit_touches _ s) rfl)
      (takeRearm_noticesOk (h.touches (withPermit_touches _ s) rfl)) key
  case clearLatched x => exact h.touches (serveClearLatched_touches x s) rfl
  case libSave i => exact h.touches (serveLibSave_touches i s) rfl
  case libLoad i => exact h.touches (serveLibLoad_touches i s) rfl
  case libErase i => exact h.touches (serveLibErase_touches i s) rfl
  case libInfo => exact h
  case libWriteCal => exact h.touches (serveLibWriteCal_touches s) rfl

/-! ### The units' events -/

theorem testTimer_noticesOk : (testTimer s).NoticesOk := by
  unfold testTimer
  split
  · exact .ite _ (endStep_noticesOk h _) h
  · exact h

theorem endSense_noticesOk (code : Nat) : (endSense code s).NoticesOk := by
  unfold endSense
  split
  · exact (deliverSense_noticesOk h _ code).touches (withConv_touches _ _) rfl
  · exact h
  · exact h

theorem endWeigh_noticesOk (a b c d : Int) : (endWeigh a b c d s).NoticesOk := by
  have hfinish : (finishWeigh a b c d s).NoticesOk :=
    .ite _ (h.touches (withConv_touches _ s) rfl) (takeSample_noticesOk (h.touches (withConv_touches _ s) rfl) _)
  unfold endWeigh
  split
  · exact hfinish.touches (withConv_touches _ _) rfl
  · exact h
  · exact h

/-- R139: a control update posts SPEED_CAPPED at the first capping of a step. -/
theorem controlUpdate_noticesOk : (controlUpdate s).NoticesOk := by
  have hpattern : (updatePattern s).NoticesOk := h.touches (withStir_touches _ s) rfl
  have happlied : (updateApplied (updatePattern s)).NoticesOk := by
    unfold updateApplied
    dsimp only
    split
    · split
      · exact ((hpattern.touches (withStir_touches _ _) rfl).touches (withStir_touches _ _) rfl).post rfl
      · exact hpattern.touches (withStir_touches _ _) rfl
    · exact hpattern.touches (withStir_touches _ _) rfl
  have hdrive : (updateDrive (updateApplied (updatePattern s))).NoticesOk := happlied.touches (withStir_touches _ _) rfl
  exact detectorInput_noticesOk (hdrive.touches (withStir_touches _ _) rfl) _ _

theorem lidSample_noticesOk (a b : Bool) : (lidSample a b s).NoticesOk :=
  have hjudged : (judgedLid a b s).NoticesOk :=
    detectorInput_noticesOk (detectorInput_noticesOk (h.touches (withLid_touches _ s) rfl) _ _) _ _
  .ite _ (takeLockConfirmation_noticesOk hjudged) hjudged

theorem comeDue_noticesOk : (comeDue s).NoticesOk := by
  unfold comeDue
  split
  · exact (h.touches (withPermit_touches _ s) rfl).postPanel _
  · exact h

theorem endOperation_noticesOk (op : DoneOp) (slot : Option Nat) (r : Result) (rev : Option Nat) :
    (endOperation op slot r rev s).NoticesOk := (h.touches (withStore_touches _ s) rfl).post rfl

/-- R173: a word write's end posts LIBRARY_DONE where it ends its operation. -/
theorem endWordWrite_noticesOk (first second : Word16) : (endWordWrite first second s).NoticesOk := by
  have hstore : ∀ x, (s.withStore x).NoticesOk := fun x => h.touches (withStore_touches x s) rfl
  unfold endWordWrite
  split
  case h_1 | h_2 | h_3 =>
    exact .ite _ (.ite _ (endOperation_noticesOk (hstore _) _ _ _ _) (hstore _)) (endOperation_noticesOk (hstore _) _ _ _ _)
  all_goals exact h

theorem endScan_noticesOk : (endScan s).NoticesOk := by
  unfold endScan
  split
  · exact changeCalibration_noticesOk (h.touches (withStore_touches _ s) rfl) _
  all_goals exact h

/-- R181: the end of a load posts LIBRARY_DONE, after PLAN_CHANGED where it replaces the plan. -/
theorem endLoad_noticesOk : (endLoad s).NoticesOk := by
  obtain ⟨_, he⟩ | ⟨slot, _, ⟨r, rev, he⟩ | ⟨planId, steps, _, he⟩⟩ := endLoad_cases s
  all_goals rw [he]
  · exact h
  · exact endOperation_noticesOk h _ _ _ _
  · exact endOperation_noticesOk ((h.touches (withPlan_touches _ s) rfl).post rfl) _ _ _ _

end

/-- Every unit event keeps the queues. -/
theorem unitEvent_noticesOk {c : Instr} {s t : State} (hu : unitEvent c = true) (h : s.NoticesOk)
    (he : exec c s = .next t) : t.NoticesOk := by
  have hafter : ∀ dt, (s.after dt).NoticesOk := fun dt => h.touches (after_touches dt s) rfl
  cases c
  case timeBaseTick dt => cases he; exact testTimer_noticesOk ((hafter dt).congr rfl)
  case settleDeadline dt => cases he; exact .ite _ (takeReference_noticesOk (hafter dt) _ _) (hafter dt)
  case senseTimerExpiry dt => cases he; exact (hafter dt).touches (withConv_touches _ _) rfl
  case senseConversionEnd dt code => cases he; exact endSense_noticesOk (hafter dt) code
  case freeTrigger dt => cases he; exact (hafter dt).touches (expireFree_touches _) rfl
  case weighGroupEnd dt a b c d => cases he; exact endWeigh_noticesOk (hafter dt) a b c d
  case tareDeadline dt => cases he; exact endTare_noticesOk (hafter dt) _
  case captureDeadline dt => cases he; exact endCapture_noticesOk (hafter dt) _
  case tachEdge dt => cases he; exact (hafter dt).touches (tachEdge_touches _) rfl
  case noEdgeTimeout dt => cases he; exact (hafter dt).touches (noEdgeTimeout_touches _) rfl
  case controlUpdate dt => cases he; exact controlUpdate_noticesOk (hafter dt)
  case lidSample dt a b => cases he; exact lidSample_noticesOk (hafter dt) a b
  case plateauTimer dt =>
    cases he
    exact detectorInput_noticesOk ((hafter dt).touches (withHeat_touches _ _) rfl) _ _
  case frameEnd dt => cases he; exact (hafter dt).touches (withHeat_touches _ _) rfl
  case slotBoundary dt => cases he; exact (hafter dt).touches (withHeat_touches _ _) rfl
  case rampRise dt => cases he; exact (hafter dt).touches (withHeat_touches _ _) rfl
  case permitExpiry dt => cases he; exact .ite _ (lapsePermit_noticesOk (hafter dt) _) (hafter dt)
  case permitDueTimer dt => cases he; exact comeDue_noticesOk (hafter dt)
  case uptimeTick dt => cases he; exact ⟨h.panel, h.link, h.due⟩
  case scanEnd dt => cases he; exact endScan_noticesOk (hafter dt)
  case wordWriteEnd dt a b => cases he; exact endWordWrite_noticesOk (hafter dt) a b
  case loadReadEnd dt => cases he; exact endLoad_noticesOk (hafter dt)
  all_goals cases hu

/-! ### Every command (O53) -/

theorem noticesOk_portFree : PortFree State.NoticesOk where
  port p x h := h.touches (setPort_touches p x _) (by cases p <;> rfl)
  rx _ h := h.congr rfl
  psdo _ h := h.congr rfl
  after dt h := h.touches (after_touches dt _) rfl

theorem exec_noticesOk {c : Instr} {s t : State} (h : s.NoticesOk) (he : exec c s = .next t) : t.NoticesOk := by
  by_cases hc : c = .reset
  · subst hc
    cases he
    exact (State.noticesSafe_iff _).mp rfl
  · exact noticesOk_portFree.exec (W := fun _ => True) (fun _ _ => trivial)
      (fun p r _ _ hu => serveRequest_noticesOk hu p r) (fun _ _ _ hu h he => unitEvent_noticesOk hu h he) hc
      (fun _ _ => trivial) h he

/-- R200: what a posting of `n` under `mask` makes of the queue `q`. -/
theorem postTo_spec (mask : Word16) (uptime : Nat) (n : Notice) {q : List NoticeRec} (h : queueSafe q = true) :
    (mask.getLsbD n.code = false → postTo mask uptime n q = q)
      ∧ (mask.getLsbD n.code = true → (∀ r ∈ q, r.data.code ≠ n.code) →
          postTo mask uptime n q = q ++ [.fresh uptime n])
      ∧ (mask.getLsbD n.code = true → ∀ a r b, q = a ++ r :: b → r.data.code = n.code →
          postTo mask uptime n q = a ++ r.repeated uptime n :: b) := by
  have hon : mask.getLsbD n.code = true → postTo mask uptime n q = enqueue uptime n q := fun hm => if_pos hm
  refine ⟨fun hm => if_neg (by rw [hm]; exact Bool.false_ne_true), fun hm hnew => ?_, fun hm a r b hq hcode => ?_⟩
  · rw [hon hm, enqueue_of_new hnew]
  · subst hq
    have hbefore := fun x (hx : x ∈ a) => hcode ▸ code_ne_of_before ((queueSafe_iff _).mp h).1 hx
    rw [hon hm, enqueue_of_queued hbefore hcode]

/-- Settles O53: a posting renews the one record of its kind or joins a fresh one, and no operation changes the queues but by
postings, TAKE_NOTICE and a reset. -/
theorem postingKeepsOneNoticeOfAKind : Obligations.PostingKeepsOneNoticeOfAKind := by
  unfold Obligations.PostingKeepsOneNoticeOfAKind
  refine ⟨fun n s h => ?_, fun s t h hstep => ?_⟩
  · obtain ⟨hpanel, hlink, -⟩ := (State.noticesSafe_iff s).mp h
    have hdata : ∀ r : NoticeRec, (n.code ≠ 8 → n.code ≠ 9 → mergeNotice r.data n = n)
        ∧ (∀ x rt y rt', r.data = .condition x rt → n = .condition y rt' → mergeNotice r.data n = .condition (x ||| y) rt')
        ∧ (∀ x f y f', r.data = .trip x f → n = .trip y f' → mergeNotice r.data n = .trip (x ||| y) f') := fun r =>
      ⟨mergeNotice_newest, fun x rt y rt' hr hn => by rw [hr, hn]; rfl, fun x f y f' hr hn => by rw [hr, hn]; rfl⟩
    obtain ⟨hoffP, hnewP, holdP⟩ := postTo_spec s.notices.panelMask s.notices.uptime n hpanel
    obtain ⟨hoffL, hnewL, holdL⟩ := postTo_spec s.notices.linkMask s.notices.uptime n hlink
    exact ⟨⟨hoffP, hnewP, fun hm a r b hq hc => ⟨_, holdP hm a r b hq hc, hdata r⟩⟩,
      ⟨hoffL, hnewL, fun hm a r b hq hc => ⟨_, holdL hm a r b hq hc, hdata r⟩⟩, rfl⟩
  · rw [State.noticesSafe_iff] at h ⊢
    unfold step at hstep
    split at hstep
    · cases hstep
      exact h
    · rename_i c rest _
      exact exec_noticesOk (s := { s with pending := rest }) (h.congr rfl) hstep

end Sys2Proof.Machine
end

section
/-! PROOFS. Request frames (R191): a frame is sound and carries its kind, tag and body back, so the Link Port's receiver and a
select period of the Panel Port bring the same request to its port as the request's own command (O2, O3). -/

namespace Sys2Proof.Machine

/-! ### Requests and their bodies (O2) -/

/-- A number that fits a byte reads back from it. -/
theorem toNat_byte {n : Nat} (h : decide (n < 256) = true) : (BitVec.ofNat 8 n).toNat = n :=
  (BitVec.toNat_ofNat n 8).trans (Nat.mod_eq_of_lt (of_decide_eq_true h))

/-- R194, R195: a request whose fields fit their bytes reads back from its kind code and body. -/
theorem requestOf_body {r : Request} (h : r.wf = true) : requestOf r.kind r.body = some r := by
  cases r
  case setNoticeMask mask => exact (requestOf_03 _ _).trans (by rw [word_num16])
  case clearLatched set => exact (requestOf_41 _ _).trans (by rw [word_num16])
  case insertStep rev idx raw =>
    simp only [Request.wf, Bool.and_eq_true, decide_eq_true_eq] at h
    obtain ⟨⟨hrev, hidx⟩, hraw⟩ := h
    refine (requestOf_12 _ _ _ (rawBytes raw)).trans ?_
    simp [rawOfBytes_rawBytes raw hraw, num16_le16 rev hrev, Nat.mod_eq_of_lt hidx]
  case replaceStep rev idx raw =>
    simp only [Request.wf, Bool.and_eq_true, decide_eq_true_eq] at h
    obtain ⟨⟨hrev, hidx⟩, hraw⟩ := h
    refine (requestOf_13 _ _ _ (rawBytes raw)).trans ?_
    simp [rawOfBytes_rawBytes raw hraw, num16_le16 rev hrev, Nat.mod_eq_of_lt hidx]
  case calZero calId drift offB offC =>
    simp only [Request.wf, Bool.and_eq_true, decide_eq_true_eq] at h
    obtain ⟨⟨⟨hid, hdrift⟩, hB⟩, hC⟩ := h
    refine (requestOf_34 _ _ _ _ _ _).trans ?_
    rw [num16_le16 calId hid, signed_sle16 drift hdrift.1 hdrift.2, signed_sbyte offB hB.1 hB.2, signed_sbyte offC hC.1 hC.2]
  case calSpan known calId =>
    simp only [Request.wf, Bool.and_eq_true, decide_eq_true_eq] at h
    refine (requestOf_35 _ _ _ _ _ _).trans ?_
    rw [num32_le32 known h.1, num16_le16 calId h.2]
  case removeStep rev idx =>
    simp only [Request.wf, Bool.and_eq_true] at h
    exact (requestOf_14 _ _ _).trans (by rw [num16_le16 rev (of_decide_eq_true h.1), toNat_byte h.2])
  case startRun rev idx =>
    simp only [Request.wf, Bool.and_eq_true] at h
    exact (requestOf_20 _ _ _).trans (by rw [num16_le16 rev (of_decide_eq_true h.1), toNat_byte h.2])
  case setPlanId rev planId =>
    simp only [Request.wf, Bool.and_eq_true, decide_eq_true_eq] at h
    refine (requestOf_16 _ _ _ _).trans ?_
    rw [num16_le16 rev h.1, num16_le16 planId h.2]
  case clearPlan rev => exact (requestOf_15 _ _).trans (by rw [num16_le16 rev (of_decide_eq_true h)])
  case readStep i => exact (requestOf_11 _).trans (by rw [toNat_byte h])
  case skipStep i => exact (requestOf_24 _).trans (by rw [toNat_byte h])
  case confirm i => exact (requestOf_25 _).trans (by rw [toNat_byte h])
  case readRunLog i => exact (requestOf_27 _).trans (by rw [toNat_byte h])
  case libSave i => exact (requestOf_50 _).trans (by rw [toNat_byte h])
  case libLoad i => exact (requestOf_51 _).trans (by rw [toNat_byte h])
  case libErase i => exact (requestOf_52 _).trans (by rw [toNat_byte h])
  all_goals rfl

theorem panelRequestOnly_iff (r : Request) :
    panelRequestOnly r = true ↔ r.kind ∈ ([0x26, 0x34, 0x35, 0x40, 0x54] : List Byte) := by
  cases r <;> simp [panelRequestOnly, Request.kind]

/-- Settles O2: each body's fields read back byte by byte, and each kind's row is known. -/
theorem requestReadsBackFromItsFrame : Obligations.RequestReadsBackFromItsFrame := by
  intro r h
  refine ⟨requestOf_body h, kindRow_kind_length r, ?_⟩
  rw [kindRow_kind_panelOnly, Option.some_inj]
  exact panelRequestOnly_iff r

/-! ### Frames (R191) -/

/-- R191: the frame of a kind, tag and body, from its length byte to its check byte. -/
def frameOf (kind tag : Byte) (body : List Byte) : List Byte :=
  let content := byte (2 + body.length) ++ [kind, tag] ++ body
  content ++ [0xFF - byteSum content]

theorem request_frame_eq (r : Request) (tag : Byte) : r.frame tag = frameOf r.kind tag r.body := rfl

/-- R194: no body is longer than 23 bytes. -/
theorem request_body_length_le (r : Request) : r.body.length ≤ 23 := by
  cases r
  case insertStep rev idx raw => exact (insertStep_body_length rev idx raw).le
  case replaceStep rev idx raw => exact (replaceStep_body_length rev idx raw).le
  all_goals simp [Request.body, byte, le16, le32, sle16, sbyte]

/-- R189: bytes that the receiver takes as a frame: as many as the length byte says, and two more. -/
structure WholeFrame (frame : List Byte) : Prop where
  length : frame.length = (frame.headD 0).toNat + 2
  least : 2 ≤ (frame.headD 0).toNat
  most : (frame.headD 0).toNat ≤ 122

section
variable (kind tag : Byte) (body : List Byte)

theorem frameOf_eq : frameOf kind tag body = BitVec.ofNat 8 (2 + body.length) :: kind :: tag :: (body
    ++ [0xFF - byteSum (byte (2 + body.length) ++ [kind, tag] ++ body)]) := rfl

@[simp] theorem frameOf_length : (frameOf kind tag body).length = body.length + 4 := by simp [frameOf_eq]

theorem frameOf_sound : byteSum (frameOf kind tag body) = 0xFF := by
  have hcheck : ∀ x : Byte, byteSum [0xFF - x] = 0xFF - x := fun x => BitVec.add_zero _
  rw [frameOf, byteSum_append, hcheck, BitVec.add_comm, BitVec.sub_add_cancel]

@[simp] theorem frameBody_frameOf : frameBody (frameOf kind tag body) = body := by
  simp [frameBody, frameOf_eq]

variable {body} (hbody : body.length ≤ 120)
include hbody

theorem frameOf_head : ((frameOf kind tag body).headD 0).toNat = body.length + 2 := by
  simp [frameOf_eq]
  omega

/-- R189: a frame has as many bytes as its length byte says, and two more, and a length that the receiver takes. -/
theorem frameOf_whole : WholeFrame (frameOf kind tag body) := by
  have hhead := frameOf_head kind tag hbody
  refine ⟨?_, by omega, by omega⟩
  rw [frameOf_length, hhead]

end

/-- R187, R189: a frame brings its kind, tag and body to its port. -/
theorem takeFrame_frameOf (p : Port) (kind tag : Byte) (body : List Byte) (s : State) :
    takeFrame p (frameOf kind tag body) s = takeRequest p kind tag body.length (serveFrame p kind body) s := by
  unfold takeFrame
  rw [frameBody_frameOf]
  rfl

/-- R192: the owner that a request's frame is handed to is the request's own. -/
theorem serveFrame_body (p : Port) {r : Request} (h : r.wf = true) : serveFrame p r.kind r.body = serveRequest p r := by
  funext s
  unfold serveFrame
  rw [requestOf_body h]

/-- R187, R189, R192: a request's frame, taken by its port, is the request's command. -/
theorem exec_command_eq_takeFrame {r : Request} (h : r.wf = true) (dt : Nat) (p : Port) (tag : Byte) (s : State) :
    exec (r.command dt p tag) s = .next (takeFrame p (r.frame tag) (s.after dt)) := by
  rw [exec_command, request_frame_eq, takeFrame_frameOf, serveFrame_body p h]

/-! ### The Link Port's receiver (R189) -/

theorem linkBytes_cons (b : Byte) (rest : List Byte) (s : State) : linkBytes (b :: rest) s = linkBytes rest (linkByte b s) :=
  rfl

/-- A receiver in HUNT returned to HUNT. -/
theorem withRx_hunt {s : State} (h : s.rx = .hunt) : s.withRx .hunt = s := by rw [State.withRx, ← h]

/-- R189: a byte in HUNT is ignored unless it is the sync byte. -/
theorem linkByte_hunt {s : State} (h : s.rx = .hunt) (b : Byte) :
    linkByte b s = if b = 0xA5 then s.withRx (.receiving []) else s := by
  have htake : linkByte b s = s.withRx (if b = 0xA5 then .receiving [] else .hunt) := by
    unfold linkByte
    rw [h]
    rfl
  rw [htake]
  split
  · rfl
  · exact withRx_hunt h

/-- R189: the byte after the sync byte is a further sync byte, a length byte or none that the receiver takes. -/
theorem linkByte_first {s : State} (h : s.rx = .receiving []) (b : Byte) : linkByte b s = s.withRx
    (if b = 0xA5 then .receiving [] else if 2 ≤ b.toNat ∧ b.toNat ≤ 122 then .receiving [b] else .hunt) := by
  have htake : linkByte b s = s.withRx
      (if b = 0xA5 then .receiving [] else if b.toNat < 2 ∨ 122 < b.toNat then .hunt else .receiving [b]) := by
    unfold linkByte
    rw [h]
    rfl
  have hflip : (b.toNat < 2 ∨ 122 < b.toNat) ↔ ¬(2 ≤ b.toNat ∧ b.toNat ≤ 122) := by omega
  rw [htake]
  simp only [hflip, ite_not]

/-- R189: a byte of a frame that is not its check byte. -/
theorem linkByte_gathers {s : State} {len : Byte} {got : List Byte} (h : s.rx = .receiving (len :: got))
    (hlen : got.length + 2 < len.toNat + 2) (b : Byte) : linkByte b s = s.withRx (.receiving (len :: got ++ [b])) := by
  have hmore : ¬len.toNat + 2 ≤ (len :: got ++ [b]).length := by simp; omega
  unfold linkByte
  rw [h, LinkRx.take, if_neg hmore]

/-- R189: the check byte completes its frame. -/
theorem linkByte_completes {s : State} {len : Byte} {got : List Byte} (h : s.rx = .receiving (len :: got))
    (hlen : len.toNat + 2 ≤ got.length + 2) (b : Byte) :
    linkByte b s = linkComplete (len :: got ++ [b]) (s.withRx .hunt) := by
  have hwhole : len.toNat + 2 ≤ (len :: got ++ [b]).length := by simp; omega
  unfold linkByte
  rw [h, LinkRx.take, if_pos hwhole]

/-- R189: the bytes that a frame still lacks complete it. -/
theorem linkBytes_completes {len : Byte} (rest : List Byte) {got : List Byte} {s : State}
    (h : s.rx = .receiving (len :: got)) (hrest : rest ≠ []) (hlen : got.length + rest.length = len.toNat + 1) :
    linkBytes rest s = linkComplete (len :: got ++ rest) (s.withRx .hunt) := by
  induction rest generalizing got s with
  | nil => exact absurd rfl hrest
  | cons b more ih =>
    rw [linkBytes_cons]
    cases more with
    | nil =>
      rw [linkByte_completes h (by simp at hlen; omega)]
      rfl
    | cons c cs =>
      rw [List.length_cons, List.length_cons] at hlen
      have hgot : s.withRx (.receiving (len :: got ++ [b])) = s.withRx (.receiving (len :: (got ++ [b]))) := rfl
      rw [linkByte_gathers h (by omega), hgot, ih rfl (List.cons_ne_nil c cs) (by simp; omega)]
      simp [State.withRx]

/-- R189: the bytes from a whole frame's sync byte on, or the part of them that is still to come, complete it. -/
theorem linkBytes_frame {got rest : List Byte} {s : State} (h : s.rx = .receiving got) (hrest : rest ≠ [])
    (hwhole : WholeFrame (got ++ rest)) : linkBytes rest s = linkComplete (got ++ rest) (s.withRx .hunt) := by
  obtain ⟨hlength, hmin, hmax⟩ := hwhole
  cases got with
  | cons len got => exact linkBytes_completes rest h hrest (by simp at hlength; omega)
  | nil =>
    cases rest with
    | nil => exact absurd rfl hrest
    | cons len rest =>
      simp only [List.nil_append, List.headD_cons, List.length_cons] at hlength hmin hmax
      have hsync : len ≠ 0xA5 := by rintro rfl; exact absurd hmax (by decide)
      have hmore : rest ≠ [] := by rintro rfl; simp at hlength
      rw [linkBytes_cons, linkByte_first h, if_neg hsync, if_pos ⟨hmin, hmax⟩,
        linkBytes_completes rest (s := s.withRx _) rfl hmore (by simp; omega)]
      rfl

/-- R189: a whole frame after a sync byte. -/
theorem linkBytes_synced {frame : List Byte} {s : State} (h : s.rx = .hunt) (hwhole : WholeFrame frame) :
    linkBytes (0xA5 :: frame) s = linkComplete frame s := by
  have hne : frame ≠ [] := by rintro rfl; exact absurd hwhole.least (by decide)
  rw [linkBytes_cons, linkByte_hunt h, if_pos rfl, linkBytes_frame (got := []) (s := s.withRx _) rfl hne hwhole]
  exact congrArg (linkComplete frame) (withRx_hunt h)

theorem linkComplete_sound {frame : List Byte} (h : byteSum frame = 0xFF) (s : State) :
    linkComplete frame s = takeFrame .link frame s := if_pos (decide_eq_true h)

/-! ### A select period of the Panel Port (R187) -/

/-- R187: bytes after a frame's check byte are ignored. -/
theorem panelFrame_frameOf (kind tag : Byte) {body : List Byte} (hbody : body.length ≤ 120) (extra : List Byte) :
    panelFrame (frameOf kind tag body ++ extra) = some (frameOf kind tag body) := by
  have hhead := frameOf_head kind tag hbody
  have hfirst : ((frameOf kind tag body ++ extra).headD 0).toNat = body.length + 2 := hhead
  have htake : (frameOf kind tag body ++ extra).take (body.length + 2 + 2) = frameOf kind tag body :=
    List.take_left' (frameOf_length kind tag body)
  have hsound : soundFrame (frameOf kind tag body) = true := decide_eq_true (frameOf_sound kind tag body)
  unfold panelFrame
  dsimp only
  rw [hfirst, if_neg (by simp; omega), htake, if_pos hsound]

theorem panelRequest_frameOf (kind tag : Byte) {body : List Byte} (hbody : body.length ≤ 120) (extra : List Byte)
    (s : State) : panelRequest (frameOf kind tag body ++ extra) s = takeFrame .panel (frameOf kind tag body)
      (s.withPsdo (List.replicate ((frameOf kind tag body).length + extra.length) 0)) := by
  unfold panelRequest
  dsimp only
  rw [panelFrame_frameOf kind tag hbody, List.length_append]

/-! ### A request's frame and its command (O3) -/

theorem request_frame_whole (r : Request) (tag : Byte) : WholeFrame (r.frame tag) :=
  frameOf_whole r.kind tag ((request_body_length_le r).trans (by decide))

theorem linkComplete_request (r : Request) (tag : Byte) (s : State) :
    linkComplete (r.frame tag) s = takeFrame .link (r.frame tag) s :=
  linkComplete_sound (frameOf_sound r.kind tag r.body) s

/-- Settles O3: both ports take the frame as a whole and hand its request to the same owner. -/
theorem framedRequestIsItsCommand : Obligations.FramedRequestIsItsCommand := by
  refine ⟨fun r dt tag s h hrx => ?_, fun r dt tag extra s h => ?_⟩
  · refine ⟨_, ?_, exec_command_eq_takeFrame h dt .link tag s⟩
    have hbytes : linkBytes (0xA5 :: r.frame tag) (s.after dt) = linkComplete (r.frame tag) (s.after dt) :=
      linkBytes_synced hrx (request_frame_whole r tag)
    exact congrArg Host.Outcome.next (hbytes.trans (linkComplete_request r tag _))
  · refine ⟨_, ?_, exec_command_eq_takeFrame h dt .panel tag _⟩
    exact congrArg Host.Outcome.next
      (panelRequest_frameOf r.kind tag ((request_body_length_le r).trans (by decide)) extra (s.after dt))

end Sys2Proof.Machine
end

section
/-! PROOFS. What a port answers before a request's owner is reached (O58). -/

namespace Sys2Proof.Machine

/-! ### The checks of R192, in their order -/

theorem portCheck_starting {p : Port} {k : Byte} {n : Nat} {s : State} (hs : s.store.starting = true)
    (hk : k ≠ statusKind) : portCheck p k n s = some .starting := if_pos ⟨hs, hk⟩

/-- R192: during start-up READ_STATUS alone passes the first check. -/
theorem passes_starting {k : Byte} {s : State} (h : s.store.starting = false ∨ k = statusKind) :
    ¬(s.store.starting = true ∧ k ≠ statusKind) := by
  rintro ⟨hs, hk⟩
  exact h.elim (by rw [hs]; exact Bool.noConfusion) hk

section
variable {p : Port} {k : Byte} {n : Nat} {s : State} (h : s.store.starting = false ∨ k = statusKind)
include h

theorem portCheck_unknownKind (hrow : kindRow k = none) : portCheck p k n s = some .unknownKind := by
  rw [portCheck, if_neg (passes_starting h), hrow]

variable {row : KindRow} (hrow : kindRow k = some row)
include hrow

theorem portCheck_wrongPort (honly : row.panelOnly = true) : portCheck .link k n s = some .wrongPort := by
  rw [portCheck, if_neg (passes_starting h), hrow]
  exact if_pos ⟨honly, rfl⟩

theorem portCheck_length (hopen : row.panelOnly = false ∨ p = .panel) (hn : n ≠ row.length) :
    portCheck p k n s = some .length := by
  have hport : ¬(row.panelOnly = true ∧ p = .link) := by
    rintro ⟨honly, hp⟩
    subst hp
    simp [honly] at hopen
  rw [portCheck, if_neg (passes_starting h), hrow]
  exact (if_neg hport).trans (if_pos hn)

end

/-! ### Frames at their ports, sound and damaged -/

/-- R187: a sound frame that a select period brings. -/
theorem exec_panelFrame (dt : Nat) (kind tag : Byte) {body : List Byte} (hbody : body.length ≤ 120) (s : State) :
    exec (.panelRequestFrame dt (frameOf kind tag body)) s
      = .next (takeRequest .panel kind tag body.length (serveFrame .panel kind body)
          ((s.after dt).withPsdo (List.replicate (frameOf kind tag body).length 0))) := by
  have h := panelRequest_frameOf kind tag hbody [] (s.after dt)
  rw [List.append_nil, takeFrame_frameOf] at h
  exact congrArg Host.Outcome.next h

/-- R189: a sound frame that arrives after a sync byte. -/
theorem exec_linkFrame (dt : Nat) (kind tag : Byte) {body : List Byte} (hbody : body.length ≤ 120) {s : State}
    (hrx : s.rx = .hunt) : exec (.linkFrameComplete dt (0xA5 :: frameOf kind tag body)) s
      = .next (takeRequest .link kind tag body.length (serveFrame .link kind body) (s.after dt)) := by
  have hbytes : linkBytes (0xA5 :: frameOf kind tag body) (s.after dt) = _ :=
    linkBytes_synced hrx (frameOf_whole kind tag hbody)
  rw [linkComplete_sound (frameOf_sound kind tag body), takeFrame_frameOf] at hbytes
  exact congrArg Host.Outcome.next hbytes

/-- R187: a select period whose bytes are too few, of a length byte out of range, or fail the check, holds no frame. -/
theorem panelFrame_damaged {bytes : List Byte} (h : bytes.length < 4 ∨ (bytes.headD 0).toNat < 2
    ∨ 122 < (bytes.headD 0).toNat ∨ bytes.length < (bytes.headD 0).toNat + 2
    ∨ byteSum (bytes.take ((bytes.headD 0).toNat + 2)) ≠ 0xFF) : panelFrame bytes = none := by
  unfold panelFrame
  dsimp only
  split
  · rfl
  · rename_i hfits
    have hsum : byteSum (bytes.take ((bytes.headD 0).toNat + 2)) ≠ 0xFF := by
      obtain h | h | h | h | h := h
      case inr.inr.inr.inr => exact h
      all_goals omega
    exact if_neg (by rwa [soundFrame, decide_eq_true_eq])

theorem takeDamaged_outstanding {s : State} (h : s.panel.state = .outstanding) (bytes : List Byte) :
    takeDamaged bytes s = discardFrame .panel s := by
  rw [takeDamaged, h]

/-- R187: a damaged frame is answered FRAME_CHECK, over a reply that waited too. -/
theorem takeDamaged_taken {s : State} (h : s.panel.state ≠ .outstanding) (bytes : List Byte) : takeDamaged bytes s
    = formReply .panel (bytes.getD 1 0) (bytes.getD 2 0) (refuse .frameCheck) s := by
  unfold takeDamaged
  split
  · contradiction
  · rfl
  · rfl

theorem readStatus_of_kind {r : Request} (h : r.kind = statusKind) : r = .readStatus := by
  cases r
  case readStatus => rfl
  all_goals exact absurd h (by simp [Request.kind, statusKind])

/-- Settles O58: a port's answers before its owner are those of the request state and of the first check that fails. -/
theorem portsCheckBeforeTheOwner : Obligations.PortsCheckBeforeTheOwner := by
  refine ⟨?_, ?_, ?_, ?_⟩
  · intro dt p tag r s row refused
    have hport : (s.after dt).port p = s.port p := after_port s dt p
    rw [exec_command]
    refine ⟨fun hout => ?_, fun hfree hs hr => ?_, fun hfree hs hp honly => ?_⟩
    · rw [takeRequest_outstanding (hport.symm ▸ hout), discardFrame, hport]
    · exact congrArg Host.Outcome.next (takeRequest_refused (hport.symm ▸ hfree)
        (portCheck_starting hs fun hk => hr (readStatus_of_kind hk)))
    · subst hp
      obtain ⟨found, hfound, honly⟩ := Option.map_eq_some_iff.mp honly
      exact congrArg Host.Outcome.next (takeRequest_refused (hport.symm ▸ hfree)
        (portCheck_wrongPort (hs.imp_right fun hr => by rw [hr]; rfl) hfound honly))
  · intro dt kind tag body content bytes s hbody hcontent hbytes base refused
    have hframe : bytes = frameOf kind tag body := by rw [hbytes, hcontent]; rfl
    have hexec : exec (.panelRequestFrame dt bytes) s
        = .next (takeRequest .panel kind tag body.length (serveFrame .panel kind body) base) := by
      rw [hframe, exec_panelFrame dt kind tag hbody s, ← hframe]
    rw [hexec]
    exact ⟨fun hout => congrArg _ (takeRequest_outstanding hout),
      fun hfree hs hk => congrArg _ (takeRequest_refused hfree (portCheck_starting hs hk)),
      fun hfree hs hrow => congrArg _ (takeRequest_refused hfree (portCheck_unknownKind hs hrow)),
      fun row hfree hs hrow hlen => congrArg _ (takeRequest_refused hfree (portCheck_length hs hrow (.inr rfl) hlen))⟩
  · intro dt kind tag body content bytes s hrx hbody hcontent hbytes refused
    have hframe : bytes = 0xA5 :: frameOf kind tag body := by rw [hbytes, hcontent]; rfl
    rw [hframe, exec_linkFrame dt kind tag hbody hrx]
    exact ⟨fun hout => congrArg _ (takeRequest_outstanding hout),
      fun hfree hs hk => congrArg _ (takeRequest_refused hfree (portCheck_starting hs hk)),
      fun hfree hs hrow => congrArg _ (takeRequest_refused hfree (portCheck_unknownKind hs hrow)),
      fun row hfree hs hrow =>
        ⟨fun honly => congrArg _ (takeRequest_refused hfree (portCheck_wrongPort hs hrow honly)),
          fun hopen hlen => congrArg _ (takeRequest_refused hfree (portCheck_length hs hrow (.inl hopen) hlen))⟩⟩
  · intro dt bytes s base hdamaged
    have hexec : exec (.panelRequestFrame dt bytes) s = .next (takeDamaged bytes base) := by
      refine congrArg Host.Outcome.next ?_
      unfold panelRequest
      dsimp only
      rw [panelFrame_damaged hdamaged]
    rw [hexec]
    exact ⟨fun hout => congrArg _ (takeDamaged_outstanding (s := base) hout bytes),
      fun hfree => congrArg _ (takeDamaged_taken (s := base) hfree bytes)⟩

end Sys2Proof.Machine
end

section
/-! PROOFS. The ports' other events (O59) and the Notice Unit's requests (O52). -/

namespace Sys2Proof.Machine

/-! ### Replies read and sent (R188, R190) -/

/-- R188: a waiting reply is shifted out, and is taken once its whole frame has been. -/
theorem panelRead_waiting {s : State} {r : Reply} (hs : s.panel.state = .replyReady) (hr : s.panel.reply = some r)
    (n : Nat) : panelRead n s = (s.withPsdo (shiftOut r.frame n)).withPanel
      (if r.frame.length ≤ n then { s.panel with state := .free, reply := none } else s.panel) := by
  unfold panelRead
  rw [hs, hr]
  dsimp only
  split <;> rfl

theorem panelRead_none {s : State} (hs : s.panel.state ≠ .replyReady) (n : Nat) :
    panelRead n s = s.withPsdo (List.replicate n 0) := by
  unfold panelRead
  split
  · contradiction
  · rfl

theorem linkSent_sending {s : State} {r : Reply} (h : s.link.reply = some r) : linkSent s
    = s.withLink { state := .free, buffer := none, reply := none, overrun := s.link.overrun } := by
  rw [linkSent, h]

theorem linkSent_idle {s : State} (h : s.link.reply = none) : linkSent s = s := by rw [linkSent, h]

/-! ### The link receiver, byte by byte (O59) -/

/-- R189, R191: the rest of a request's frame, the first part of it received before, is the request's command with the
receiver in HUNT. -/
theorem exec_frameRest {r : Request} {tag : Byte} {got rest : List Byte} {s : State} (hr : r.wf = true)
    (hrx : s.rx = .receiving got) (hframe : r.frame tag = got ++ rest) (hrest : rest ≠ []) (dt : Nat) :
    exec (.linkFrameComplete dt rest) s = exec (r.command dt .link tag) { s with rx := .hunt } := by
  have hbytes : linkBytes rest (s.after dt) = linkComplete (got ++ rest) ((s.after dt).withRx .hunt) :=
    linkBytes_frame hrx hrest (hframe ▸ request_frame_whole r tag)
  rw [← hframe, linkComplete_request] at hbytes
  rw [exec_command_eq_takeFrame hr]
  exact congrArg Host.Outcome.next hbytes

/-- Settles O59: each of the ports' events in the terms of the port or of the receiver it finds. -/
theorem portEventsTakeTheirEffect : Obligations.PortEventsTakeTheirEffect := by
  intro dt n b got s
  refine ⟨fun r hs hr => congrArg _ (panelRead_waiting (s := s.after dt) hs hr n),
    fun hs => congrArg _ (panelRead_none (s := s.after dt) hs n),
    fun r hr => congrArg _ (linkSent_sending (s := s.after dt) hr),
    fun hr => congrArg _ (linkSent_idle (s := s.after dt) hr), rfl, rfl, rfl,
    fun hrx => congrArg _ (linkByte_hunt (s := s.after dt) hrx b),
    fun hrx => congrArg _ (linkByte_first (s := s.after dt) hrx b),
    fun len hrx hlen => congrArg _ (linkByte_gathers (s := s.after dt) hrx hlen b), fun len hrx hlen hsum => ?_,
    fun r tag hr hrx hframe => ?_, fun r tag rest hr hrx hframe hrest => ?_, fun len hrx hmin hmax hlen => ?_⟩
  · have hcomplete := linkByte_completes (s := s.after dt) hrx hlen b
    rw [linkComplete, soundFrame, if_neg (by rwa [decide_eq_true_eq])] at hcomplete
    exact congrArg Host.Outcome.next hcomplete
  · exact ⟨_, rfl, (exec_frameRest hr hrx hframe (List.cons_ne_nil b []) dt).symm⟩
  · exact ⟨_, rfl, (exec_frameRest hr hrx hframe hrest dt).symm⟩
  · have hwhole : WholeFrame (len :: got ++ [b]) := ⟨by simp [hlen], hmin, hmax⟩
    have hbyte := linkByte_completes (s := s.after dt) hrx (by omega) b
    have hbytes : linkBytes (0xA5 :: (len :: got ++ [b])) (({ s with rx := .hunt } : State).after dt) = _ :=
      linkBytes_synced rfl hwhole
    exact congrArg Host.Outcome.next (hbyte.trans hbytes.symm)

/-! ### The Notice Unit's requests and the uptime counter (O52) -/

/-- A reply formed over a changed Notice Unit does not see the request that its port held. -/
theorem formReply_renoticed_held (p : Port) (k t : Byte) (a : Answer) (x : Notices) (s : State) :
    formReply p k t a ((heldState p k t s).withNotices x) = formReply p k t a (s.withNotices x) := by
  rw [heldState_eq]
  cases p <;> rfl

section
variable {p : Port} {s : State} (h : s.admits p = true)
include h

theorem exec_takeNotice_empty (hq : s.notices.queue p = []) (dt : Nat) (tag : Byte) : exec (.takeNotice dt p tag) s
    = .next (formReply p 0x02 tag (okWith (255 :: List.replicate 14 0)) (s.after dt)) := by
  have hserve : serveTakeNotice p (heldState p 0x02 tag (s.after dt))
      = (heldState p 0x02 tag (s.after dt), some (okWith (noNotice ++ byte 0))) := by
    rw [serveTakeNotice, held_notices, State.after_notices, hq]
  refine (exec_admitted (r := .takeNotice) h rfl dt tag).trans (congrArg Host.Outcome.next ?_)
  rw [serveRequest, Request.kind, hserve, conclude_answered, formReply_held]
  rfl

theorem exec_takeNotice_oldest {r : NoticeRec} {rest : List NoticeRec} (hq : s.notices.queue p = r :: rest) (dt : Nat)
    (tag : Byte) : exec (.takeNotice dt p tag) s = .next (formReply p 0x02 tag (okWith (r.bytes ++ byte rest.length))
      ((s.after dt).withNotices (s.notices.setQueue p rest))) := by
  have hserve : serveTakeNotice p (heldState p 0x02 tag (s.after dt))
      = ((heldState p 0x02 tag (s.after dt)).withNotices (s.notices.setQueue p rest),
          some (okWith (r.bytes ++ byte rest.length))) := by
    rw [serveTakeNotice, held_notices, State.after_notices, hq]
  refine (exec_admitted (r := .takeNotice) h rfl dt tag).trans (congrArg Host.Outcome.next ?_)
  rw [serveRequest, Request.kind, hserve, conclude_answered, formReply_renoticed_held]

theorem exec_setNoticeMask_admitted (dt : Nat) (tag : Byte) (mask : Word16) : exec (.setNoticeMask dt p tag mask) s
    = .next (formReply p 0x03 tag (okWith (le16 mask.toNat)) ((s.after dt).withNotices (s.notices.setMask p mask))) := by
  refine (exec_admitted (r := .setNoticeMask mask) h rfl dt tag).trans (congrArg Host.Outcome.next ?_)
  rw [serveRequest, serveSetNoticeMask, conclude_answered, held_notices, State.after_notices]
  exact formReply_renoticed_held p 0x03 tag _ _ _

end

theorem setQueue_eq (x : Notices) (p : Port) (q : List NoticeRec) :
    x.setQueue p q = if p = .panel then { x with panelQ := q } else { x with linkQ := q } := by
  cases p <;> rfl

theorem setMask_eq (x : Notices) (p : Port) (m : Word16) :
    x.setMask p m = if p = .panel then { x with panelMask := m } else { x with linkMask := m } := by
  cases p <;> rfl

/-- R203: an added weight or a top level as three bytes. -/
theorem sle24_eq (i : Int) : sle24 i = le24 (twos 24 (min i 8388607)) := by
  have hmin : (if 8388607 < i then 8388607 else i) = min i 8388607 := by omega
  rw [sle24, hmin]

/-- R203: a notice's index byte with bit 7 for a step that has fallen back. -/
theorem add_bit_seven (i : Nat) (b : Bool) : i + bit 7 b = if b then i + 128 else i := by
  cases b <;> rfl

/-- R203: the qualifier of LIBRARY_DONE. -/
theorem libraryDone_qualifier (op : DoneOp) (slot : Option Nat) (r : Result) (rev : Option Nat) :
    (Notice.libraryDone op slot r rev).kindQualifier
      = (if op = .save then 1 else if op = .load then 2 else if op = .erase then 3 else 4)
        + (if rev.isSome then 8 else 0) := by
  cases op <;> rfl

theorem SpeedCap.code_eq (c : SpeedCap) : c.code = if c = .hot then 0 else if c = .overload then 1 else 2 := by
  cases c <;> rfl

theorem TareCause.code_eq (c : TareCause) :
    c.code = if c = .push then 0 else if c = .pop then 1 else if c = .clear then 2 else 3 := by
  cases c <;> rfl

theorem tarePortCode_eq (p : Option Port) :
    tarePortCode p = if p = some .panel then 0 else if p = some .link then 1 else 3 := by
  rcases p with _ | p
  · rfl
  · cases p <;> rfl

/-- Settles O52: the owner's answers over the state that its port held, and the record of each kind laid out. -/
theorem noticeRequestsAndUptime : Obligations.NoticeRequestsAndUptime := by
  refine ⟨fun dt p tag mask s h => ⟨fun hq => exec_takeNotice_empty h hq dt tag, fun r rest hq => ?_, ?_, rfl⟩, ?_⟩
  · rw [exec_takeNotice_oldest h hq, setQueue_eq]
    rfl
  · rw [exec_setNoticeMask_admitted h, setMask_eq]
    rfl
  · intro data count first last index weight laidOut
    cases data
    case prompt idx fallen code tag => simp only [laidOut, NoticeRec.bytes, Notice.data, add_bit_seven]; rfl
    case doseNear idx added => simp only [laidOut, weight, NoticeRec.bytes, Notice.data, sle24_eq]; rfl
    case doseOver idx added => simp only [laidOut, weight, NoticeRec.bytes, Notice.data, sle24_eq]; rfl
    case speedCapped idx cap speed applied => simp only [laidOut, NoticeRec.bytes, Notice.data, SpeedCap.code_eq]; rfl
    case libraryDone op slot result rev =>
      simp only [laidOut, NoticeRec.bytes, Notice.kindByte, libraryDone_qualifier]; rfl
    case tareChanged depth top cause port =>
      simp only [laidOut, weight, NoticeRec.bytes, Notice.data, sle24_eq, TareCause.code_eq, tarePortCode_eq]; rfl
    all_goals rfl

end Sys2Proof.Machine
end

section
/-! PROOFS. What one step takes from the queue of commands (O1). -/

namespace Sys2Proof.Machine

theorem step_pending_cons (c : Instr) (s : State) : step { s with pending := c :: s.pending } = exec c s := rfl

theorem step_pending_nil {s : State} (h : s.pending = []) : step s = .next s := by rw [step, h]

/-- Settles O1: the step's two branches, by whether a command waits. -/
theorem stepRunsFrontCommand : Obligations.StepRunsFrontCommand :=
  ⟨step_pending_cons, fun _ => step_pending_nil⟩

end Sys2Proof.Machine
end
